-- ==== Sys2Proof/Word.lean ====
section
/-! DEFINITION. The words of the TD612's station link: the byte, the two-byte field and the 26-byte payload
of a cell (R193). -/

namespace Sys2Proof

/-- One byte of a cell (R193). -/
abbrev Byte := BitVec 8

/-- A two-byte field of a cell, sent high byte first (R193). -/
abbrev Half := BitVec 16

/-- Bytes 4 to 29 of a cell, byte 4 the most significant (R193). -/
abbrev Payload := BitVec 208

end Sys2Proof
end

