-- ==== Sys2Proof/Config.lean ====
section
/-! DEFINITION. What the TD612 fixes once: the capacities of its queues and the fixed times and thresholds of
its arbiters. Nothing here can be written over the link. The spec leaves no such value open, so no constant
of this file is without a body. -/

namespace Sys2Proof.Config

/-- Most cells a forward queue holds (R8). -/
def forwardCapacity : Nat := 32

/-- Most cells the report queue holds (R185). -/
def reportCapacity : Nat := 16

/-- The DN-forward count at which the DN arbiter begins to alternate (R12). -/
def dnAlternateAt : Nat := 16

/-- The report count at which the UP arbiter begins to alternate (R13). -/
def upAlternateAt : Nat := 12

/-- Period of each link-loss timer, in ms (R15). -/
def linkLossPeriod : Nat := 100

/-- The broadcast address (R4). -/
def broadcast : Byte := 31

/-- The station controller's address (R144, R184). -/
def stationController : Byte := 0

end Sys2Proof.Config
end

