-- ==== Sys2Proof/Syntax.lean ====
section
/-! DEFINITION. The commands of the TD612: one constructor per row of spec/opcode_table.json. A row that is a
cell's arrival carries the whole cell, split into the fields that R195 lays out for it: the header that differs
between cells of the row (`Hdr`), the named fields, and the payload bytes that the layout leaves unread. -/

namespace Sys2Proof

/-- The six unit names (Introduction, Naming). -/
inductive UnitNo where
  | u1 | u2 | u3 | u4 | u5 | u6
deriving DecidableEq, Repr

/-- The two ports of the station link. -/
inductive Port where
  | up | dn
deriving DecidableEq, Repr

/-- A cell as it stands on the link (R193): header, payload and CRC as received or as sent. -/
structure Cell where
  dest    : Byte
  src     : Byte
  kind    : Byte
  sub     : Byte
  payload : Payload
  crc     : Half
deriving DecidableEq, Repr

/-- The part of an arriving cell that its row does not fix: destination, source and the CRC it carries. -/
structure Hdr where
  dest : Byte
  src  : Byte
  crc  : Half
deriving DecidableEq, Repr

/-- The fields of a PLANT write, as carried (R24, widths of R195). -/
structure PlantFields where
  ti           : Byte
  shortCircuit : Byte
  guardTime    : Half
  staleTime    : Byte
  identWait    : Byte
  debounce     : Byte
  convAddr     : Byte
  releaseTime  : Byte
deriving DecidableEq, Repr

/-- The fields of a UNIT write other than its first, present, as carried (R26, widths of R195). -/
structure UnitFields where
  addr      : Byte
  waterway  : Byte
  profile   : Byte
  classCode : Byte
  rated     : Half
  assign    : Byte
  minRun    : Half
  minStill  : Half
  linger    : Half
deriving DecidableEq, Repr

/-- The fields of a PROFILE write, as carried (R30, packing of R195). -/
structure ProfileFields where
  tRunup    : BitVec 12
  tSync     : BitVec 12
  tLoad     : BitVec 12
  tUnload   : BitVec 12
  tStop     : BitVec 12
  tDewater  : BitVec 12
  tPrun     : BitVec 12
  tPrime    : BitVec 12
  tConvwait : BitVec 12
  tLockwait : BitVec 12
  rate0     : BitVec 12
  rate1     : BitVec 12
  rate2     : BitVec 12
  rate3     : BitVec 12
  hyst      : BitVec 12
  bandCount : BitVec 4
  refresh   : Byte
deriving DecidableEq, Repr

/-- The fields of a BAND write, as carried (R32, widths of R195). -/
structure BandFields where
  lower : Half
  gmin  : Half
  gmax  : Half
  ppump : Half
  rzlo  : Half
  rzhi  : Half
  turb  : Byte
  pump  : Byte
deriving DecidableEq, Repr

/-- The fields of a MERIT write, as carried: a length and six positions (R33, R195). -/
structure MeritFields where
  len : Byte
  p1  : Byte
  p2  : Byte
  p3  : Byte
  p4  : Byte
  p5  : Byte
  p6  : Byte
deriving DecidableEq, Repr

/-- The commands: every row of spec/opcode_table.json. `pad` and `rest` are the payload bytes that the row's
layout does not name (R193: they are not read, and they travel with a forwarded cell). -/
inductive Instr where
  /-- RESET_N falls (R1). -/
  | resetNLow
  /-- RESET_N is released with these levels on ADDR4..ADDR0 (R3, R17, R196). -/
  | resetNRelease (strap : BitVec 5)
  /-- A cell arrives whole at the UP port (R2, R4). -/
  | upCellArrival (c : Cell)
  /-- A cell arrives whole at the DN port (R2, R5). -/
  | dnCellArrival (c : Cell)
  /-- A port's link-loss timer expires (R15). -/
  | linkLossExpiry (p : Port)
  /-- The DN transmitter is free and selects (R12). -/
  | dnSelection
  /-- The UP transmitter is free and selects (R13). -/
  | upSelection
  /-- The last byte of an UP HOLD cell has been sent (R189). -/
  | upHoldSent
  /-- ORDER NET_POWER (R71). -/
  | netPower (h : Hdr) (id target : Half) (cls : Byte) (pad : BitVec 168)
  /-- The guard timer expires (R74). -/
  | guardExpiry
  /-- ORDER UNIT_MODE (R75). -/
  | unitMode (h : Hdr) (id : Half) (unit mode : Byte) (setpoint : Half) (cls : Byte) (pad : BitVec 152)
  /-- ORDER UNIT_ASSIGN (R77). -/
  | unitAssign (h : Hdr) (id : Half) (unit code : Byte) (pad : BitVec 176)
  /-- ORDER UNIT_CLEAR (R78). -/
  | unitClear (h : Hdr) (id : Half) (unit : Byte) (pad : BitVec 184)
  /-- ORDER ABORT (R79). -/
  | abort (h : Hdr) (id : Half) (pad : BitVec 192)
  /-- ORDER RESUME (R80). -/
  | resume (h : Hdr) (id : Half) (pad : BitVec 192)
  /-- MGT TABLE_GATE, request OPEN (R19). -/
  | tableGateOpen (h : Hdr) (pad : BitVec 200)
  /-- MGT TABLE_GATE, request CLOSE (R19). -/
  | tableGateClose (h : Hdr) (pad : BitVec 200)
  /-- MGT TABLE_GATE, any other request code (R19). -/
  | tableGateBadRequest (h : Hdr) (request : Byte) (pad : BitVec 200)
  /-- MGT TABLE_WRITE of PLANT (R24). -/
  | plantWrite (h : Hdr) (index : Byte) (f : PlantFields) (pad : BitVec 120)
  /-- MGT TABLE_WRITE of UNIT with a present field other than 0 (R28). -/
  | unitWritePresent (h : Hdr) (index present : Byte) (f : UnitFields) (pad : BitVec 80)
  /-- MGT TABLE_WRITE of UNIT with present = 0 (R29). -/
  | unitWriteAbsent (h : Hdr) (index : Byte) (f : UnitFields) (pad : BitVec 80)
  /-- MGT TABLE_WRITE of PROFILE (R30). -/
  | profileWrite (h : Hdr) (index : Byte) (f : ProfileFields)
  /-- MGT TABLE_WRITE of BAND (R32). -/
  | bandWrite (h : Hdr) (profile band : Byte) (f : BandFields) (pad : BitVec 72)
  /-- MGT TABLE_WRITE of MERIT (R33). -/
  | meritWrite (h : Hdr) (index : Byte) (f : MeritFields) (pad : BitVec 136)
  /-- MGT TABLE_WRITE of WATERWAY (R34). -/
  | waterwayWrite (h : Hdr) (index : Byte) (budget : Half) (pad : BitVec 176)
  /-- MGT TABLE_READ; `band` is byte 6, read for BAND alone (R38). -/
  | tableRead (h : Hdr) (table index band : Byte) (pad : BitVec 184)
  /-- MGT ENGINE, request RUN (R64). -/
  | engineRun (h : Hdr) (pad : BitVec 200)
  /-- MGT ENGINE, request PAUSE (R66). -/
  | enginePause (h : Hdr) (pad : BitVec 200)
  /-- MGT ENGINE, any other request code (R63). -/
  | engineBadRequest (h : Hdr) (request : Byte) (pad : BitVec 200)
  /-- MGT RESTART, the warm reset (R68). -/
  | restart (h : Hdr) (rest : Payload)
  /-- MGT TRACE, request ON (R69). -/
  | traceOn (h : Hdr) (pad : BitVec 200)
  /-- MGT TRACE, request OFF (R69). -/
  | traceOff (h : Hdr) (pad : BitVec 200)
  /-- MGT TRACE, any other code (R69). -/
  | traceBadRequest (h : Hdr) (request : Byte) (pad : BitVec 200)
  /-- MGT WATCH (R51). -/
  | watch (h : Hdr) (unit mask : Byte) (pad : BitVec 192)
  /-- MGT ECHO (R16). -/
  | echo (h : Hdr) (payload : Payload)
  /-- TEL UNIT_STATUS at the DN port (R46). -/
  | unitStatus (h : Hdr) (stage fault : Byte) (power head : Half) (perm interlocks : Byte) (pad : BitVec 144)
  /-- TEL UNIT_IDENT at the DN port (R56). -/
  | unitIdent (h : Hdr) (classCode : Byte) (rated : Half) (pad : BitVec 184)
  /-- A unit's identity-wait timer expires (R55). -/
  | identityWaitExpiry (u : UnitNo)
  /-- A unit's stale timer expires (R45). -/
  | staleExpiry (u : UnitNo)
  /-- TEL CONV_STATUS at the DN port (R147). -/
  | convStatus (h : Hdr) (ready fault connected : Byte) (pad : BitVec 184)
  /-- The converter release timer expires (R151). -/
  | releaseTimerExpiry
  /-- A unit's stage timer expires in a state of R135. -/
  | stageTimeout (u : UnitNo)
  /-- A unit's stage timer expires in a lock wait (R133). -/
  | lockwaitTimeout (u : UnitNo)
  /-- A unit's stage timer expires in P_CONVWAIT (R134). -/
  | queueTimeout (u : UnitNo)
  /-- A unit's min-run timer expires (R132). -/
  | minRunExpiry (u : UnitNo)
  /-- A unit's min-still timer expires (R132). -/
  | minStillExpiry (u : UnitNo)
  /-- A unit's linger timer expires (R131). -/
  | lingerExpiry (u : UnitNo)
  /-- The ramp interval timer expires (R170, R176). -/
  | rampIntervalExpiry
  /-- A unit's refresh timer expires (R180). -/
  | refreshExpiry (u : UnitNo)
  /-- MGT TABLE_WRITE whose table code names none of the six tables (R20). -/
  | tableWriteUnknownTable (h : Hdr) (table index : Byte) (rest : BitVec 192)
  /-- MGT TABLE_GATE addressed to broadcast (R19). -/
  | broadcastTableGate (src : Byte) (crc : Half) (request : Byte) (pad : BitVec 200)
  /-- A TEL cell whose sub-kind the Unit Image Block does not act on (R7). -/
  | snoopedSubkindIgnored (h : Hdr) (sub : Byte) (payload : Payload)
deriving DecidableEq, Repr

end Sys2Proof
end

