-- ==== Sys2Proof/WellFormed.lean ====
section
/-! DEFINITION. Which terms of `Instr` are commands of their row: the conditions a row puts on its operands.
A row without a condition takes every operand (R193: a field is never refused merely because its bytes can
carry a larger value than its range allows). -/

namespace Sys2Proof

/-- A request code that TABLE_GATE and TRACE do not name (R19, R69, R194). -/
def gateRequestUnknown (r : Byte) : Bool := r != 0 && r != 1

/-- A request code that ENGINE does not name (R63, R194). -/
def engineRequestUnknown (r : Byte) : Bool := r != 1 && r != 2

/-- A table code that names none of the six tables (R20, R194). -/
def tableUnknown (t : Byte) : Bool := t.toNat == 0 || 6 < t.toNat

/-- The row's conditions on its operands. -/
def Instr.wellFormed : Instr → Bool
  | .resetNLow => true
  | .resetNRelease _ => true
  | .upCellArrival _ => true
  | .dnCellArrival _ => true
  | .linkLossExpiry _ => true
  | .dnSelection => true
  | .upSelection => true
  | .upHoldSent => true
  | .netPower _ _ _ _ _ => true
  | .guardExpiry => true
  | .unitMode _ _ _ _ _ _ _ => true
  | .unitAssign _ _ _ _ _ => true
  | .unitClear _ _ _ _ => true
  | .abort _ _ _ => true
  | .resume _ _ _ => true
  | .tableGateOpen h _ => h.dest != Config.broadcast
  | .tableGateClose h _ => h.dest != Config.broadcast
  | .tableGateBadRequest h r _ => h.dest != Config.broadcast && gateRequestUnknown r
  | .plantWrite _ _ _ _ => true
  | .unitWritePresent _ _ p _ _ => p != 0
  | .unitWriteAbsent _ _ _ _ => true
  | .profileWrite _ _ _ => true
  | .bandWrite _ _ _ _ _ => true
  | .meritWrite _ _ _ _ => true
  | .waterwayWrite _ _ _ _ => true
  | .tableRead _ _ _ _ _ => true
  | .engineRun _ _ => true
  | .enginePause _ _ => true
  | .engineBadRequest _ r _ => engineRequestUnknown r
  | .restart _ _ => true
  | .traceOn _ _ => true
  | .traceOff _ _ => true
  | .traceBadRequest _ r _ => gateRequestUnknown r
  | .watch _ _ _ _ => true
  | .echo _ _ => true
  | .unitStatus _ _ _ _ _ _ _ _ => true
  | .unitIdent _ _ _ _ => true
  | .identityWaitExpiry _ => true
  | .staleExpiry _ => true
  | .convStatus _ _ _ _ _ => true
  | .releaseTimerExpiry => true
  | .stageTimeout _ => true
  | .lockwaitTimeout _ => true
  | .queueTimeout _ => true
  | .minRunExpiry _ => true
  | .minStillExpiry _ => true
  | .lingerExpiry _ => true
  | .rampIntervalExpiry => true
  | .refreshExpiry _ => true
  | .tableWriteUnknownTable _ t _ _ => tableUnknown t
  | .broadcastTableGate _ _ _ _ => true
  | .snoopedSubkindIgnored _ _ _ => true

/-- The command is one of its row. -/
abbrev WellFormed (i : Instr) : Prop := i.wellFormed = true

end Sys2Proof
end

