-- ==== Sys2Proof/Decode.lean ====
section
/-! DEFINITION. The cells of the station link: the CRC (R2), the composition of a cell (R1, R193), the layout of
every row that is a cell's arrival (R194, R195), and the reading of a received cell into the command it spells.
The opcode table gives no row any bits, so `decodeTableWord` names no command. -/

namespace Sys2Proof

-- CRC (R2) ------------------------------------------------------------------------------------------------

/-- One bit of the CRC: generator x^16 + x^12 + x^5 + 1, most significant bit first (R2). -/
def crcBit (crc : Half) (b : Bool) : Half :=
  if crc.msb ^^ b then (crc <<< 1) ^^^ 0x1021 else crc <<< 1

/-- The CRC register after the low `n` bits of `m`, taken most significant first. -/
def crcBits (m : BitVec 240) : Nat → Half → Half
  | 0, crc => crc
  | n + 1, crc => crcBits m n (crcBit crc (m.getLsbD n))

/-- The CRC over bytes 0 to 29, initial value `$FFFF`, no final inversion (R2). -/
def crc16 (dest src kind sub : Byte) (payload : Payload) : Half :=
  crcBits ((dest ++ src ++ kind ++ sub ++ payload).setWidth 240) 240 0xFFFF

/-- The CRC the cell carries is the CRC of its bytes 0 to 29 (R2). -/
def Cell.crcGood (c : Cell) : Bool := crc16 c.dest c.src c.kind c.sub c.payload == c.crc

/-- A cell the part composes: the CRC is computed as the cell begins transmission (R1). -/
def Cell.compose (dest src kind sub : Byte) (payload : Payload) : Cell :=
  { dest, src, kind, sub, payload, crc := crc16 dest src kind sub payload }

/-- The received cell with this header. -/
def Hdr.cell (h : Hdr) (kind sub : Byte) (payload : Payload) : Cell :=
  { dest := h.dest, src := h.src, kind, sub, payload, crc := h.crc }

/-- The header of a received cell. -/
def Cell.hdr (c : Cell) : Hdr := { dest := c.dest, src := c.src, crc := c.crc }

-- Kinds and sub-kinds (R193, R194) ------------------------------------------------------------------------

def kindHold  : Byte := 0x00
def kindOrder : Byte := 0x10
def kindMgt   : Byte := 0x20
def kindUcmd  : Byte := 0x30
def kindTel   : Byte := 0x40
def kindRpt   : Byte := 0x50

def subNetPower   : Byte := 0x01
def subUnitMode   : Byte := 0x02
def subUnitAssign : Byte := 0x03
def subUnitClear  : Byte := 0x04
def subAbort      : Byte := 0x05
def subResume     : Byte := 0x06

def subTableGate  : Byte := 0x01
def subTableWrite : Byte := 0x02
def subTableRead  : Byte := 0x03
def subEngine     : Byte := 0x04
def subRestart    : Byte := 0x05
def subWatch      : Byte := 0x06
def subEcho       : Byte := 0x07
def subTrace      : Byte := 0x08

def subUnitStatus : Byte := 0x01
def subUnitIdent  : Byte := 0x02
def subConvStatus : Byte := 0x03

def tablePlant    : Byte := 1
def tableUnit     : Byte := 2
def tableProfile  : Byte := 3
def tableBand     : Byte := 4
def tableMerit    : Byte := 5
def tableWaterway : Byte := 6

def gateClose   : Byte := 0
def gateOpen    : Byte := 1
def engineRun   : Byte := 1
def enginePause : Byte := 2
def traceOff    : Byte := 0
def traceOn     : Byte := 1

-- Entry fields of table cells (R195) ----------------------------------------------------------------------

/-- PLANT fields in order: widths 1, 1, 2, 1, 1, 1, 1, 1. -/
def PlantFields.bits (f : PlantFields) : BitVec 72 :=
  (f.ti ++ f.shortCircuit ++ f.guardTime ++ f.staleTime ++ f.identWait ++ f.debounce ++ f.convAddr ++
    f.releaseTime).setWidth 72

/-- UNIT fields 2 to 10 in order: widths 1, 1, 1, 1, 2, 1, 2, 2, 2. -/
def UnitFields.bits (f : UnitFields) : BitVec 104 :=
  (f.addr ++ f.waterway ++ f.profile ++ f.classCode ++ f.rated ++ f.assign ++ f.minRun ++ f.minStill ++
    f.linger).setWidth 104

/-- PROFILE fields: fields 1 to 14 as 12-bit groups, then field 17 over field 16, then field 15. -/
def ProfileFields.bits (f : ProfileFields) : BitVec 192 :=
  (f.tRunup ++ f.tSync ++ f.tLoad ++ f.tUnload ++ f.tStop ++ f.tDewater ++ f.tPrun ++ f.tPrime ++ f.tConvwait ++
  f.tLockwait ++ f.rate0 ++ f.rate1 ++ f.rate2 ++ f.rate3 ++ f.hyst ++ f.bandCount ++ f.refresh).setWidth 192

/-- BAND fields in order: widths 2, 2, 2, 2, 2, 2, 1, 1. -/
def BandFields.bits (f : BandFields) : BitVec 112 :=
  (f.lower ++ f.gmin ++ f.gmax ++ f.ppump ++ f.rzlo ++ f.rzhi ++ f.turb ++ f.pump).setWidth 112

/-- A MERIT list: length, then six unit numbers. -/
def MeritFields.bits (f : MeritFields) : BitVec 56 :=
  (f.len ++ f.p1 ++ f.p2 ++ f.p3 ++ f.p4 ++ f.p5 ++ f.p6).setWidth 56

/-- A payload from the fields of a layout, written one after another; each layout below fills its 208 bits. -/
def Payload.of {n : Nat} (b : BitVec n) : Payload := b.setWidth 208

-- The cell of each row that is a cell's arrival (R195) ----------------------------------------------------

def cellNetPower (h : Hdr) (id target : Half) (cls : Byte) (pad : BitVec 168) : Cell :=
  h.cell kindOrder subNetPower (.of (id ++ target ++ cls ++ pad))

def cellUnitMode (h : Hdr) (id : Half) (unit mode : Byte) (setpoint : Half) (cls : Byte) (pad : BitVec 152) : Cell :=
  h.cell kindOrder subUnitMode (.of (id ++ unit ++ mode ++ setpoint ++ cls ++ pad))

def cellUnitAssign (h : Hdr) (id : Half) (unit code : Byte) (pad : BitVec 176) : Cell :=
  h.cell kindOrder subUnitAssign (.of (id ++ unit ++ code ++ pad))

def cellUnitClear (h : Hdr) (id : Half) (unit : Byte) (pad : BitVec 184) : Cell :=
  h.cell kindOrder subUnitClear (.of (id ++ unit ++ pad))

def cellAbort (h : Hdr) (id : Half) (pad : BitVec 192) : Cell :=
  h.cell kindOrder subAbort (.of (id ++ pad))

def cellResume (h : Hdr) (id : Half) (pad : BitVec 192) : Cell :=
  h.cell kindOrder subResume (.of (id ++ pad))

def cellTableGate (h : Hdr) (request : Byte) (pad : BitVec 200) : Cell :=
  h.cell kindMgt subTableGate (.of (request ++ pad))

def cellPlantWrite (h : Hdr) (index : Byte) (f : PlantFields) (pad : BitVec 120) : Cell :=
  h.cell kindMgt subTableWrite (.of (tablePlant ++ index ++ f.bits ++ pad))

def cellUnitWrite (h : Hdr) (index present : Byte) (f : UnitFields) (pad : BitVec 80) : Cell :=
  h.cell kindMgt subTableWrite (.of (tableUnit ++ index ++ present ++ f.bits ++ pad))

def cellProfileWrite (h : Hdr) (index : Byte) (f : ProfileFields) : Cell :=
  h.cell kindMgt subTableWrite (.of (tableProfile ++ index ++ f.bits))

def cellBandWrite (h : Hdr) (profile band : Byte) (f : BandFields) (pad : BitVec 72) : Cell :=
  h.cell kindMgt subTableWrite (.of (tableBand ++ profile ++ band ++ f.bits ++ pad))

def cellMeritWrite (h : Hdr) (index : Byte) (f : MeritFields) (pad : BitVec 136) : Cell :=
  h.cell kindMgt subTableWrite (.of (tableMerit ++ index ++ f.bits ++ pad))

def cellWaterwayWrite (h : Hdr) (index : Byte) (budget : Half) (pad : BitVec 176) : Cell :=
  h.cell kindMgt subTableWrite (.of (tableWaterway ++ index ++ budget ++ pad))

def cellUnknownTable (h : Hdr) (table index : Byte) (rest : BitVec 192) : Cell :=
  h.cell kindMgt subTableWrite (.of (table ++ index ++ rest))

def cellTableRead (h : Hdr) (table index band : Byte) (pad : BitVec 184) : Cell :=
  h.cell kindMgt subTableRead (.of (table ++ index ++ band ++ pad))

def cellEngine (h : Hdr) (request : Byte) (pad : BitVec 200) : Cell :=
  h.cell kindMgt subEngine (.of (request ++ pad))

def cellRestart (h : Hdr) (rest : Payload) : Cell :=
  h.cell kindMgt subRestart rest

def cellTrace (h : Hdr) (request : Byte) (pad : BitVec 200) : Cell :=
  h.cell kindMgt subTrace (.of (request ++ pad))

def cellWatch (h : Hdr) (unit mask : Byte) (pad : BitVec 192) : Cell :=
  h.cell kindMgt subWatch (.of (unit ++ mask ++ pad))

def cellEcho (h : Hdr) (payload : Payload) : Cell :=
  h.cell kindMgt subEcho payload

def cellUnitStatus (h : Hdr) (stage fault : Byte) (power head : Half) (perm interlocks : Byte) (pad : BitVec 144) :
    Cell :=
  h.cell kindTel subUnitStatus (.of (stage ++ fault ++ power ++ head ++ perm ++ interlocks ++ pad))

def cellUnitIdent (h : Hdr) (classCode : Byte) (rated : Half) (pad : BitVec 184) : Cell :=
  h.cell kindTel subUnitIdent (.of (classCode ++ rated ++ pad))

def cellConvStatus (h : Hdr) (ready fault connected : Byte) (pad : BitVec 184) : Cell :=
  h.cell kindTel subConvStatus (.of (ready ++ fault ++ connected ++ pad))

/-- The cell whose arrival the command is; none for a row that is no cell's arrival. -/
def cellOf : Instr → Option Cell
  | .resetNLow => none
  | .resetNRelease _ => none
  | .upCellArrival c => some c
  | .dnCellArrival c => some c
  | .linkLossExpiry _ => none
  | .dnSelection => none
  | .upSelection => none
  | .upHoldSent => none
  | .netPower h id t c p => some (cellNetPower h id t c p)
  | .guardExpiry => none
  | .unitMode h id u m sp c p => some (cellUnitMode h id u m sp c p)
  | .unitAssign h id u c p => some (cellUnitAssign h id u c p)
  | .unitClear h id u p => some (cellUnitClear h id u p)
  | .abort h id p => some (cellAbort h id p)
  | .resume h id p => some (cellResume h id p)
  | .tableGateOpen h p => some (cellTableGate h gateOpen p)
  | .tableGateClose h p => some (cellTableGate h gateClose p)
  | .tableGateBadRequest h r p => some (cellTableGate h r p)
  | .plantWrite h i f p => some (cellPlantWrite h i f p)
  | .unitWritePresent h i q f p => some (cellUnitWrite h i q f p)
  | .unitWriteAbsent h i f p => some (cellUnitWrite h i 0 f p)
  | .profileWrite h i f => some (cellProfileWrite h i f)
  | .bandWrite h i b f p => some (cellBandWrite h i b f p)
  | .meritWrite h i f p => some (cellMeritWrite h i f p)
  | .waterwayWrite h i b p => some (cellWaterwayWrite h i b p)
  | .tableRead h t i b p => some (cellTableRead h t i b p)
  | .engineRun h p => some (cellEngine h engineRun p)
  | .enginePause h p => some (cellEngine h enginePause p)
  | .engineBadRequest h r p => some (cellEngine h r p)
  | .restart h r => some (cellRestart h r)
  | .traceOn h p => some (cellTrace h traceOn p)
  | .traceOff h p => some (cellTrace h traceOff p)
  | .traceBadRequest h r p => some (cellTrace h r p)
  | .watch h u m p => some (cellWatch h u m p)
  | .echo h p => some (cellEcho h p)
  | .unitStatus h st f pw hd pm il p => some (cellUnitStatus h st f pw hd pm il p)
  | .unitIdent h c r p => some (cellUnitIdent h c r p)
  | .identityWaitExpiry _ => none
  | .staleExpiry _ => none
  | .convStatus h r f c p => some (cellConvStatus h r f c p)
  | .releaseTimerExpiry => none
  | .stageTimeout _ => none
  | .lockwaitTimeout _ => none
  | .queueTimeout _ => none
  | .minRunExpiry _ => none
  | .minStillExpiry _ => none
  | .lingerExpiry _ => none
  | .rampIntervalExpiry => none
  | .refreshExpiry _ => none
  | .tableWriteUnknownTable h t i r => some (cellUnknownTable h t i r)
  | .broadcastTableGate s c r p => some (cellTableGate { dest := Config.broadcast, src := s, crc := c } r p)
  | .snoopedSubkindIgnored h s p => some (h.cell kindTel s p)

-- Reading a received cell (R193 to R195) ------------------------------------------------------------------

/-- Byte `k` of the cell, 4 to 29 (R193). -/
def Payload.byte (p : Payload) (k : Nat) : Byte := p.extractLsb' (8 * (29 - k)) 8

/-- The two-byte field in bytes `k` and `k + 1` of the cell (R193). -/
def Payload.half (p : Payload) (k : Nat) : Half := p.extractLsb' (8 * (28 - k)) 16

/-- The bytes of the cell from byte `k` on that a layout leaves over: the low `n` bits of the payload. -/
def Payload.tail (p : Payload) (n : Nat) : BitVec n := p.extractLsb' 0 n

/-- The 12-bit group of a PROFILE cell whose least significant bit is bit `i` of the payload (R195). -/
def Payload.group (p : Payload) (i : Nat) : BitVec 12 := p.extractLsb' i 12

def readPlant (p : Payload) : PlantFields :=
  { ti := p.byte 6, shortCircuit := p.byte 7, guardTime := p.half 8, staleTime := p.byte 10, identWait := p.byte 11,
    debounce := p.byte 12, convAddr := p.byte 13, releaseTime := p.byte 14 }

def readUnit (p : Payload) : UnitFields :=
  { addr := p.byte 7, waterway := p.byte 8, profile := p.byte 9, classCode := p.byte 10, rated := p.half 11,
    assign := p.byte 13, minRun := p.half 14, minStill := p.half 16, linger := p.half 18 }

def readProfile (p : Payload) : ProfileFields :=
  { tRunup := p.group 180, tSync := p.group 168, tLoad := p.group 156, tUnload := p.group 144, tStop := p.group 132,
    tDewater := p.group 120, tPrun := p.group 108, tPrime := p.group 96, tConvwait := p.group 84,
    tLockwait := p.group 72, rate0 := p.group 60, rate1 := p.group 48, rate2 := p.group 36, rate3 := p.group 24,
    hyst := p.group 12, bandCount := p.extractLsb' 8 4, refresh := p.byte 29 }

def readBand (p : Payload) : BandFields :=
  { lower := p.half 7, gmin := p.half 9, gmax := p.half 11, ppump := p.half 13, rzlo := p.half 15, rzhi := p.half 17,
    turb := p.byte 19, pump := p.byte 20 }

def readMerit (p : Payload) : MeritFields :=
  { len := p.byte 6, p1 := p.byte 7, p2 := p.byte 8, p3 := p.byte 9, p4 := p.byte 10, p5 := p.byte 11, p6 := p.byte 12 }

/-- The command an ORDER cell spells; none for a sub-kind that R194 does not list. -/
def readOrder (c : Cell) : Option Instr :=
  let h := c.hdr
  let p := c.payload
  if c.sub = subNetPower then some (.netPower h (p.half 4) (p.half 6) (p.byte 8) (p.tail 168))
  else if c.sub = subUnitMode then
    some (.unitMode h (p.half 4) (p.byte 6) (p.byte 7) (p.half 8) (p.byte 10) (p.tail 152))
  else if c.sub = subUnitAssign then some (.unitAssign h (p.half 4) (p.byte 6) (p.byte 7) (p.tail 176))
  else if c.sub = subUnitClear then some (.unitClear h (p.half 4) (p.byte 6) (p.tail 184))
  else if c.sub = subAbort then some (.abort h (p.half 4) (p.tail 192))
  else if c.sub = subResume then some (.resume h (p.half 4) (p.tail 192))
  else none

/-- The command a TABLE_WRITE cell spells (R20, R195). -/
def readTableWrite (c : Cell) : Instr :=
  let h := c.hdr
  let p := c.payload
  if p.byte 4 = tablePlant then .plantWrite h (p.byte 5) (readPlant p) (p.tail 120)
  else if p.byte 4 = tableUnit then
    if p.byte 6 = 0 then .unitWriteAbsent h (p.byte 5) (readUnit p) (p.tail 80)
    else .unitWritePresent h (p.byte 5) (p.byte 6) (readUnit p) (p.tail 80)
  else if p.byte 4 = tableProfile then .profileWrite h (p.byte 5) (readProfile p)
  else if p.byte 4 = tableBand then .bandWrite h (p.byte 5) (p.byte 6) (readBand p) (p.tail 72)
  else if p.byte 4 = tableMerit then .meritWrite h (p.byte 5) (readMerit p) (p.tail 136)
  else if p.byte 4 = tableWaterway then .waterwayWrite h (p.byte 5) (p.half 6) (p.tail 176)
  else .tableWriteUnknownTable h (p.byte 4) (p.byte 5) (p.tail 192)

/-- The command a TABLE_GATE cell spells (R19). -/
def readTableGate (c : Cell) : Instr :=
  let p := c.payload
  if c.dest = Config.broadcast then .broadcastTableGate c.src c.crc (p.byte 4) (p.tail 200)
  else if p.byte 4 = gateOpen then .tableGateOpen c.hdr (p.tail 200)
  else if p.byte 4 = gateClose then .tableGateClose c.hdr (p.tail 200)
  else .tableGateBadRequest c.hdr (p.byte 4) (p.tail 200)

/-- The command an ENGINE cell spells (R63). -/
def readEngine (c : Cell) : Instr :=
  let p := c.payload
  if p.byte 4 = engineRun then .engineRun c.hdr (p.tail 200)
  else if p.byte 4 = enginePause then .enginePause c.hdr (p.tail 200)
  else .engineBadRequest c.hdr (p.byte 4) (p.tail 200)

/-- The command a TRACE cell spells (R69). -/
def readTrace (c : Cell) : Instr :=
  let p := c.payload
  if p.byte 4 = traceOn then .traceOn c.hdr (p.tail 200)
  else if p.byte 4 = traceOff then .traceOff c.hdr (p.tail 200)
  else .traceBadRequest c.hdr (p.byte 4) (p.tail 200)

/-- The command an MGT cell spells; none for a sub-kind that R194 does not list. -/
def readMgt (c : Cell) : Option Instr :=
  let h := c.hdr
  let p := c.payload
  if c.sub = subTableGate then some (readTableGate c)
  else if c.sub = subTableWrite then some (readTableWrite c)
  else if c.sub = subTableRead then some (.tableRead h (p.byte 4) (p.byte 5) (p.byte 6) (p.tail 184))
  else if c.sub = subEngine then some (readEngine c)
  else if c.sub = subRestart then some (.restart h p)
  else if c.sub = subWatch then some (.watch h (p.byte 4) (p.byte 5) (p.tail 192))
  else if c.sub = subEcho then some (.echo h p)
  else if c.sub = subTrace then some (readTrace c)
  else none

/-- The command that a cell arriving on UP spells: an ORDER or MGT cell of a listed sub-kind, whatever its
destination (R4, R6). -/
def readUpCell (c : Cell) : Option Instr :=
  if c.kind = kindOrder then readOrder c else if c.kind = kindMgt then readMgt c else none

/-- The command that a cell arriving on DN spells: a TEL cell of a listed sub-kind (R5, R7). -/
def readDnCell (c : Cell) : Option Instr :=
  let h := c.hdr
  let p := c.payload
  if c.kind = kindTel then
    if c.sub = subUnitStatus then
      some (.unitStatus h (p.byte 4) (p.byte 5) (p.half 6) (p.half 8) (p.byte 10) (p.byte 11) (p.tail 144))
    else if c.sub = subUnitIdent then some (.unitIdent h (p.byte 4) (p.half 5) (p.tail 184))
    else if c.sub = subConvStatus then some (.convStatus h (p.byte 4) (p.byte 5) (p.byte 6) (p.tail 184))
    else none
  else none

/-- The command that a word of the opcode table spells: the table gives no row any bits. -/
def decodeTableWord (_nbits _w : Nat) : Option Instr := none

end Sys2Proof
end

