-- ==== Sys2Proof/Machine/State.lean ====
section
/-! DEFINITION. The state of the TD612, block by block as the spec gives it (Introduction, Block overview), with its
values right after reset, and the reasons a step could stop. -/

namespace Sys2Proof.Machine

-- Containers ----------------------------------------------------------------------------------------------

/-- One value per unit U1 to U6. -/
structure PerUnit (α : Type) where
  u1 : α
  u2 : α
  u3 : α
  u4 : α
  u5 : α
  u6 : α
deriving DecidableEq, Repr

/-- The waterways W1 and W2. -/
inductive Waterway where
  | w1 | w2
deriving DecidableEq, Repr

/-- One value per waterway. -/
structure PerWaterway (α : Type) where
  w1 : α
  w2 : α
deriving DecidableEq, Repr

/-- One value per link port. -/
structure PerPort (α : Type) where
  up : α
  dn : α
deriving DecidableEq, Repr

/-- One value per interlock bit 0 to 7. -/
structure Octet (α : Type) where
  b0 : α
  b1 : α
  b2 : α
  b3 : α
  b4 : α
  b5 : α
  b6 : α
  b7 : α
deriving DecidableEq, Repr

/-- A timer: `none` when stopped, else the full period it was last started with, in the unit of the table
field that gives it (Conventions; R37). -/
abbrev Timer := Option Nat

-- Named values (R194) -------------------------------------------------------------------------------------

/-- Stage codes (Introduction, Stage codes; R194). -/
inductive Stage where
  | still | turbSpin | turbOn | turbAir | dry | pumpAir | pumpOn | stopping | trip
deriving DecidableEq, Repr

/-- Planned modes (Introduction, Planned modes; R86). -/
inductive PlanMode where
  | still | gen | pump | genAir | pumpAir
deriving DecidableEq, Repr

/-- The 21 sequencer states (R113). -/
inductive SeqState where
  | dormant | unsettled | localCmd | tripped
  | still | gOn | gAir | pAir | pOn
  | gLockwait | gRunup | gSync | gLoad | gUnload
  | pDewater | pConvwait | pRunup | pLockwait | pPrime | pUnload
  | stopping
deriving DecidableEq, Repr

/-- The engine states (R61). -/
inductive EngineState where
  | paused | running | halted
deriving DecidableEq, Repr

/-- The states of the standing order record (R81), with the two that reports alone carry (R70). -/
inductive OrderState where
  | none | active | settled | ended | aborted
deriving DecidableEq, Repr

/-- The converter arbiter states (R146). -/
inductive ConvState where
  | free | connecting | inUse | releasing | faulted
deriving DecidableEq, Repr

/-- The crossing outcomes (R175). -/
inductive CrossOutcome where
  | idle | within | scaled | crossed
deriving DecidableEq, Repr

/-- The identity states (R54). -/
inductive Identity where
  | unverified | identWait | verified | mismatch | absent
deriving DecidableEq, Repr

/-- A unit's assignment (R26, R77). -/
inductive Assign where
  | auto | manual
deriving DecidableEq, Repr

/-- The origin of a lock wait (R113). -/
inductive Origin where
  | none | still | air
deriving DecidableEq, Repr

/-- A unit's band: NONE, INVALID or a band number (R40). -/
inductive BandSel where
  | none
  | invalid
  | num (k : Fin 12)
deriving DecidableEq, Repr

/-- ORDER_RESULT codes (R194). -/
inductive OrderCode where
  | accepted | clamped | deferred | superseded | dropped | replanned
  | refusedState | refusedUnit | refusedNotManual | refusedNotClearable | refusedBand
deriving DecidableEq, Repr

/-- MGT_RESULT codes (R23, R194). -/
inductive MgtCode where
  | accepted | clamped | gateClosed | state | range | invalid | busy
deriving DecidableEq, Repr

/-- UNIT_STATE causes (R144, R194). -/
inductive Cause where
  | adopted | reached | returned | cleared | abandoned | converter
  | lockwaitTimeout | queueTimeout | timeout | unitFault | sequence | remoteLoss
deriving DecidableEq, Repr

-- Link Port Unit (R1 to R17) ------------------------------------------------------------------------------

/-- The commands the part sends down (R9, R194). -/
inductive Command where
  | goTurbine | sync | load | unloadAir | stop | dewater | converterStart | prime
  | setpoint (value : Nat)
  | identReq
  | convConnect (addr : Nat)
  | convRelease
deriving DecidableEq, Repr

/-- The 13 slots of the command queue (R9). -/
inductive Slot where
  | stage (u : UnitNo)
  | setpoint (u : UnitNo)
  | converter
deriving DecidableEq, Repr

/-- A waiting slot: which slot, and the command composed into it with its destination (R9). -/
structure Waiting where
  slot : Slot
  dest : Nat
  cmd  : Command
deriving DecidableEq, Repr

/-- A port's link state and link-loss timer (R15). -/
structure Link where
  isUp : Bool
  loss : Timer
deriving DecidableEq, Repr

/-- What a transmitter is sending (R1, R11): nothing, a HOLD cell of its own, or any other cell. -/
inductive Tx where
  | idle
  | hold (c : Cell)
  | cell (c : Cell)
deriving DecidableEq, Repr

/-- The DN arbiter's turn marker (R12). -/
inductive DnTurn where
  | forward | command
deriving DecidableEq, Repr

/-- The UP arbiter's turn marker (R13). -/
inductive UpTurn where
  | forward | report
deriving DecidableEq, Repr

/-- The Link Port Unit. The command queue lists the waiting slots in transmission order (R9). -/
structure Lpu where
  addr   : Nat
  link   : PerPort Link
  dnFwd  : List Cell
  upFwd  : List Cell
  cmds   : List Waiting
  dnTurn : DnTurn
  upTurn : UpTurn
  dnTx   : Tx
  upTx   : Tx
deriving DecidableEq, Repr

-- Table Store (R18 to R39) --------------------------------------------------------------------------------

/-- The PLANT entry (R24). -/
structure Plant where
  ti           : Nat
  shortCircuit : Bool
  guardTime    : Nat
  staleTime    : Nat
  identWait    : Nat
  debounce     : Nat
  convAddr     : Nat
  releaseTime  : Nat
deriving DecidableEq, Repr

/-- A UNIT entry (R26). -/
structure UnitEntry where
  present   : Bool
  addr      : Nat
  waterway  : Waterway
  profile   : Fin 4
  classCode : Nat
  rated     : Nat
  assign    : Assign
  minRun    : Nat
  minStill  : Nat
  linger    : Nat
deriving DecidableEq, Repr

/-- A PROFILE entry (R30). -/
structure Profile where
  tRunup    : Nat
  tSync     : Nat
  tLoad     : Nat
  tUnload   : Nat
  tStop     : Nat
  tDewater  : Nat
  tPrun     : Nat
  tPrime    : Nat
  tConvwait : Nat
  tLockwait : Nat
  rate0     : Nat
  rate1     : Nat
  rate2     : Nat
  rate3     : Nat
  refresh   : Nat
  bandCount : Nat
  hyst      : Nat
deriving DecidableEq, Repr

/-- A BAND entry (R32). -/
structure Band where
  lower : Nat
  gmin  : Nat
  gmax  : Nat
  ppump : Nat
  rzlo  : Nat
  rzhi  : Nat
  turb  : Bool
  pump  : Bool
deriving DecidableEq, Repr

/-- The Table Store: the gate and the six tables (R18). A MERIT list holds its unit numbers in order (R33). -/
structure Tbs where
  gateOpen  : Bool
  plant     : Plant
  units     : PerUnit UnitEntry
  profiles  : Vector Profile 4
  bands     : Vector (Vector Band 12) 4
  meritGen  : List UnitNo
  meritPump : List UnitNo
  budgets   : PerWaterway Nat
deriving DecidableEq, Repr

-- Unit Image Block (R40 to R60) ---------------------------------------------------------------------------

/-- A debounced bit and its run count (R43). -/
structure Debounced where
  val : Bool
  run : Nat
deriving DecidableEq, Repr

/-- The four permissives (R44). -/
structure Permissives where
  ready   : Debounced
  air     : Debounced
  remote  : Debounced
  lockout : Debounced
deriving DecidableEq, Repr

/-- A head range [lo, hi), `hi` none when unbounded (R40, R49). -/
structure Region where
  lo : Nat
  hi : Option Nat
deriving DecidableEq, Repr

/-- A unit's image record (R40). -/
structure Image where
  identity    : Identity
  stage       : Option Stage
  fault       : Byte
  power       : Int
  head        : Option Nat
  band        : BandSel
  region      : Option Region
  perm        : Permissives
  interlocks  : Octet Debounced
  stale       : Bool
  staleTimer  : Timer
  watch       : BitVec 8
  events      : BitVec 8
  verifyEvent : Bool
  identCount  : Nat
  identTimer  : Timer
deriving DecidableEq, Repr

/-- The converter image (R58). -/
structure ConvImage where
  ready     : Bool
  fault     : Bool
  connected : Nat
deriving DecidableEq, Repr

/-- The Unit Image Block. -/
structure Uib where
  images : PerUnit Image
  conv   : ConvImage
deriving DecidableEq, Repr

-- Dispatch Engine (R61 to R85) ----------------------------------------------------------------------------

/-- A plan's summary (R86, R105). -/
structure Summary where
  genCount  : Nat
  pumpCount : Nat
  total     : Int
  deviation : Int
deriving DecidableEq, Repr

/-- A NET_POWER order with its fields brought into range, and the source its reports go to (R70, R71). -/
structure Order where
  id      : Half
  target  : Int
  cls     : Fin 4
  clamped : Bool
  src     : Byte
deriving DecidableEq, Repr

/-- The standing order record (R81). -/
structure Standing where
  state   : OrderState
  order   : Order
  summary : Summary
deriving DecidableEq, Repr

/-- The Dispatch Engine. -/
structure Dse where
  engine   : EngineState
  standing : Standing
  deferred : Option Order
  guardTmr : Timer
  assign   : PerUnit Assign
  trace    : Bool
deriving DecidableEq, Repr

-- Allocator (R86) -----------------------------------------------------------------------------------------

/-- A plan entry (R86); `originId` and `originSrc` are its origin. -/
structure Entry where
  mode      : PlanMode
  share     : Option Nat
  cls       : Fin 4
  forcedOut : Bool
  originId  : Half
  originSrc : Byte
deriving DecidableEq, Repr

/-- The plan record (R86). -/
structure Alc where
  entries : PerUnit Entry
  summary : Summary
deriving DecidableEq, Repr

-- Unit Sequencers (R113) ----------------------------------------------------------------------------------

/-- A sequencer record (R113). -/
structure Seq where
  state       : SeqState
  origin      : Origin
  prior       : Option Stage
  stageTimer  : Timer
  minRun      : Timer
  minStill    : Timer
  linger      : Timer
  pendLockout : Bool
deriving DecidableEq, Repr

-- Plant Resource Arbiter (R146, R158) ---------------------------------------------------------------------

/-- A waterway lock: holder and waiter list, oldest first (R158). -/
structure Lock where
  holder  : Option UnitNo
  waiters : List UnitNo
deriving DecidableEq, Repr

/-- The Plant Resource Arbiter. -/
structure Pra where
  arb        : ConvState
  holder     : Option UnitNo
  releaseTmr : Timer
  startQueue : List UnitNo
  locks      : PerWaterway Lock
deriving DecidableEq, Repr

-- Ramp Engine (R164) --------------------------------------------------------------------------------------

/-- A unit's ramp state (R164). -/
structure RampUnit where
  setpoint : Option Nat
  refresh  : Timer
  rate     : Option Nat
deriving DecidableEq, Repr

/-- A waterway's crossing record (R175). -/
structure Crossing where
  outcome   : CrossOutcome
  unit      : Option UnitNo
  requested : Nat
  moved     : Nat
deriving DecidableEq, Repr

/-- The Ramp Engine. -/
structure Rmp where
  timer     : Timer
  units     : PerUnit RampUnit
  crossings : PerWaterway Crossing
deriving DecidableEq, Repr

-- Report Block (R184 to R192) -----------------------------------------------------------------------------

/-- A report waiting in the report queue: its destination where its kind does not fix it, and its contents
(R184). Its source, the part's link address, and its CRC are added as it begins transmission (R1). -/
inductive Report where
  /-- ORDER_RESULT with the sub-kind answered, the code, the unit number and the summary it carries (R70). -/
  | orderResult (dest : Byte) (id : Half) (sub : Byte) (code : OrderCode) (unit : Byte) (summary : Option Summary)
  /-- ORDER_RESULT REPLANNED of a manual re-examination (R110). -/
  | manualReplan (dest : Byte) (id : Half) (unit : UnitNo) (mode : PlanMode) (share : Option Nat)
  /-- ORDER_STATE (R70). -/
  | orderState (dest : Byte) (id : Half) (state : OrderState) (target : Int) (summary : Summary)
  /-- UNIT_STATE (R144). -/
  | unitState (u : UnitNo) (before after : SeqState) (cause : Cause) (stage : Option Stage) (fault : Byte)
  /-- UNIT_EVENT (R186). -/
  | unitEvent (u : UnitNo) (events : BitVec 8) (verify : Bool)
  /-- MGT_RESULT (R23). -/
  | mgtResult (dest sub : Byte) (code : MgtCode) (table index band field : Byte)
  /-- TABLE_DATA, its payload as read (R38). -/
  | tableData (dest : Byte) (payload : Payload)
  /-- One part of a SNAPSHOT, its payload as composed (R191). -/
  | snapshot (payload : Payload)
  /-- ECHO (R16). -/
  | echo (dest : Byte) (payload : Payload)
deriving DecidableEq, Repr

/-- The Report Block. `flags` is the sticky flags byte in the bit order of R195, `again` the raised-again
marks, `carried` the carried record (R188, R189); `alertLow` is PLANT_ALERT_N driven low (R192). -/
structure Rpb where
  queue    : List Report
  flags    : BitVec 8
  again    : BitVec 8
  carried  : BitVec 8
  snapshot : BitVec 8
  alertLow : Bool
deriving DecidableEq, Repr

-- The whole part ------------------------------------------------------------------------------------------

/-- The TD612. `pending` is the queue of commands waiting to be taken, `held` is RESET_N low. -/
structure State where
  pending : List Instr
  held    : Bool
  lpu     : Lpu
  tbs     : Tbs
  uib     : Uib
  dse     : Dse
  alc     : Alc
  seqs    : PerUnit Seq
  pra     : Pra
  rmp     : Rmp
  rpb     : Rpb
deriving DecidableEq, Repr

/-- The part has no fault that stops it: every rule of the spec gives a command an effect. No meaning raises a
fault, which is safe. -/
inductive Fault where
deriving DecidableEq, Repr

/-- Why a command has no meaning. -/
inductive Refusal where
  /-- Raised by an arm of `exec` alone, for a command whose row has no meaning in the model; none is left. Safe:
  the model stops where the part goes on. -/
  | notModelled (mnemonic : String)
deriving DecidableEq, Repr

-- Cold values ---------------------------------------------------------------------------------------------

/-- The same value for every unit. -/
def PerUnit.all {α : Type} (a : α) : PerUnit α := { u1 := a, u2 := a, u3 := a, u4 := a, u5 := a, u6 := a }

/-- The cold PLANT entry (R24). -/
def Plant.cold : Plant :=
  { ti := 10, shortCircuit := false, guardTime := 30, staleTime := 20, identWait := 20, debounce := 2, convAddr := 7,
    releaseTime := 10 }

/-- The cold UNIT entry (R26). -/
def UnitEntry.cold : UnitEntry :=
  { present := false, addr := 0, waterway := .w1, profile := 0, classCode := 0, rated := 1, assign := .auto,
    minRun := 0, minStill := 0, linger := 0 }

/-- The cold PROFILE entry (R30). -/
def Profile.cold : Profile :=
  { tRunup := 0, tSync := 0, tLoad := 0, tUnload := 0, tStop := 0, tDewater := 0, tPrun := 0, tPrime := 0,
    tConvwait := 0, tLockwait := 0, rate0 := 0, rate1 := 0, rate2 := 0, rate3 := 0, refresh := 5, bandCount := 0,
    hyst := 0 }

/-- The cold BAND entry (R32). -/
def Band.cold : Band :=
  { lower := 0, gmin := 0, gmax := 0, ppump := 0, rzlo := 0, rzhi := 0, turb := false, pump := false }

/-- The Table Store after a cold reset (R18). DESIGN CHOICE (log entry 28): both merit lists are empty, since R33 gives
them no cold default. -/
def Tbs.cold : Tbs :=
  { gateOpen := false, plant := .cold, units := .all .cold, profiles := .replicate 4 .cold,
    bands := .replicate 4 (.replicate 12 .cold), meritGen := [], meritPump := [], budgets := { w1 := 0, w2 := 0 } }

/-- A debounced bit at its cold value (R40). -/
def Debounced.cold : Debounced := { val := false, run := 0 }

/-- The permissives at their cold values (R40). -/
def Permissives.cold : Permissives := { ready := .cold, air := .cold, remote := .cold, lockout := .cold }

/-- The interlocks at their cold values (R40). -/
def Octet.cold : Octet Debounced :=
  { b0 := .cold, b1 := .cold, b2 := .cold, b3 := .cold, b4 := .cold, b5 := .cold, b6 := .cold, b7 := .cold }

/-- The image record's cold values (R40). -/
def Image.cold : Image :=
  { identity := .unverified, stage := none, fault := 0, power := 0, head := none, band := .none, region := none,
    perm := .cold, interlocks := .cold, stale := false, staleTimer := none, watch := 0, events := 0,
    verifyEvent := false, identCount := 0, identTimer := none }

/-- The converter image's cold values (R58). -/
def ConvImage.cold : ConvImage := { ready := false, fault := false, connected := 0 }

/-- The Unit Image Block's cold values (R60). -/
def Uib.cold : Uib := { images := .all .cold, conv := .cold }

/-- The summary at reset (R86). -/
def Summary.zero : Summary := { genCount := 0, pumpCount := 0, total := 0, deviation := 0 }

/-- The order fields of a cleared record (R61, R67). -/
def Order.cleared : Order := { id := 0, target := 0, cls := 0, clamped := false, src := 0 }

/-- The standing order record at reset (R61). -/
def Standing.cleared : Standing := { state := .none, order := .cleared, summary := .zero }

/-- The Dispatch Engine after a reset, with the live assignments the UNIT entries name (R61). -/
def Dse.afterReset (assign : PerUnit Assign) : Dse :=
  { engine := .paused, standing := .cleared, deferred := none, guardTmr := none, assign, trace := false }

/-- A plan entry at reset (R86). -/
def Entry.cold : Entry :=
  { mode := .still, share := none, cls := 0, forcedOut := false, originId := 0, originSrc := 0 }

/-- The plan record at reset (R86). -/
def Alc.cold : Alc := { entries := .all .cold, summary := .zero }

/-- A sequencer record after a reset and an accepted PAUSE (R113). -/
def Seq.cold : Seq :=
  { state := .dormant, origin := .none, prior := none, stageTimer := none, minRun := none, minStill := none,
    linger := none, pendLockout := false }

/-- A lock that is free with no waiter (R146). -/
def Lock.free : Lock := { holder := none, waiters := [] }

/-- The Plant Resource Arbiter after a reset (R146). -/
def Pra.cold : Pra :=
  { arb := .free, holder := none, releaseTmr := none, startQueue := [], locks := { w1 := .free, w2 := .free } }

/-- A unit's ramp state when it has no current setpoint (R164). -/
def RampUnit.idle : RampUnit := { setpoint := none, refresh := none, rate := none }

/-- A crossing record at reset (R164). -/
def Crossing.idle : Crossing := { outcome := .idle, unit := none, requested := 0, moved := 0 }

/-- The Ramp Engine after a reset and an accepted PAUSE (R164). -/
def Rmp.cold : Rmp := { timer := none, units := .all .idle, crossings := { w1 := .idle, w2 := .idle } }

/-- The Report Block after a reset (R185, R188, R191, R192). -/
def Rpb.cold : Rpb := { queue := [], flags := 0, again := 0, carried := 0, snapshot := 0, alertLow := false }

/-- A link after a reset (R15). -/
def Link.down : Link := { isUp := false, loss := none }

/-- The HOLD cell that each transmitter selects at the release of RESET_N: PAUSED, no standing order, and a summary
in which every code and value is 0 (R1, R14, R190, R194). -/
def firstHold (addr : Nat) : Cell :=
  Cell.compose Config.broadcast (BitVec.ofNat 8 addr) kindHold 0 0

/-- The Link Port Unit after a cold reset, its two transmitters at their first selection (R17). -/
def Lpu.cold (addr : Nat) : Lpu :=
  { addr, link := { up := .down, dn := .down }, dnFwd := [], upFwd := [], cmds := [], dnTurn := .forward,
    upTurn := .report, dnTx := .hold (firstHold addr), upTx := .hold (firstHold addr) }

/-- The part after a cold reset with this link address. -/
def State.cold (addr : Nat) : State :=
  { pending := [], held := false, lpu := .cold addr, tbs := .cold, uib := .cold, dse := .afterReset (.all .auto),
    alc := .cold, seqs := .all .cold, pra := .cold, rmp := .cold, rpb := .cold }

/-- The machine right after reset: the cold reset with link address 1. DESIGN CHOICE (log entry 1): the strap is an
input, and 0 on every strap pin gives address 1 (R3). -/
def State.reset : State := State.cold 1

end Sys2Proof.Machine
end

