-- ==== Sys2Proof/Machine/Access.lean ====
section
/-! DEFINITION. Reading and writing one unit's, one waterway's or one block's part of the state, and the numbers
that name units and waterways in cells. -/

namespace Sys2Proof

/-- U1 to U6 in ascending unit number. -/
def UnitNo.all : List UnitNo := [.u1, .u2, .u3, .u4, .u5, .u6]

/-- The unit number 1 to 6 (Introduction, Naming). -/
def UnitNo.number : UnitNo → Nat
  | .u1 => 1
  | .u2 => 2
  | .u3 => 3
  | .u4 => 4
  | .u5 => 5
  | .u6 => 6

/-- The unit with this number; none outside 1..6. -/
def UnitNo.ofNumber (n : Nat) : Option UnitNo := UnitNo.all.find? fun u => u.number == n

/-- The unit number as a byte of a cell. -/
def UnitNo.byte (u : UnitNo) : Byte := BitVec.ofNat 8 u.number

end Sys2Proof

namespace Sys2Proof.Machine

def PerUnit.get {α : Type} (t : PerUnit α) : UnitNo → α
  | .u1 => t.u1
  | .u2 => t.u2
  | .u3 => t.u3
  | .u4 => t.u4
  | .u5 => t.u5
  | .u6 => t.u6

def PerUnit.set {α : Type} (t : PerUnit α) (u : UnitNo) (a : α) : PerUnit α :=
  match u with
  | .u1 => { t with u1 := a }
  | .u2 => { t with u2 := a }
  | .u3 => { t with u3 := a }
  | .u4 => { t with u4 := a }
  | .u5 => { t with u5 := a }
  | .u6 => { t with u6 := a }

/-- One value per unit, each given by the unit. -/
def PerUnit.ofFn {α : Type} (f : UnitNo → α) : PerUnit α :=
  { u1 := f .u1, u2 := f .u2, u3 := f .u3, u4 := f .u4, u5 := f .u5, u6 := f .u6 }

def PerWaterway.get {α : Type} (t : PerWaterway α) : Waterway → α
  | .w1 => t.w1
  | .w2 => t.w2

def PerWaterway.set {α : Type} (t : PerWaterway α) (w : Waterway) (a : α) : PerWaterway α :=
  match w with
  | .w1 => { t with w1 := a }
  | .w2 => { t with w2 := a }

def PerPort.get {α : Type} (t : PerPort α) : Port → α
  | .up => t.up
  | .dn => t.dn

def PerPort.set {α : Type} (t : PerPort α) (p : Port) (a : α) : PerPort α :=
  match p with
  | .up => { t with up := a }
  | .dn => { t with dn := a }

/-- Waterway numbers 1 and 2 (Introduction, Naming). -/
def Waterway.number : Waterway → Nat
  | .w1 => 1
  | .w2 => 2

/-- A timer that runs: a timer started with period 0 is read as not running (R113). -/
def Timer.running : Timer → Bool
  | some n => 0 < n
  | none => false

/-- The unit's UNIT entry. -/
def State.unit (s : State) (u : UnitNo) : UnitEntry := s.tbs.units.get u

/-- The unit's image record. -/
def State.image (s : State) (u : UnitNo) : Image := s.uib.images.get u

/-- The unit's sequencer record. -/
def State.seq (s : State) (u : UnitNo) : Seq := s.seqs.get u

/-- The unit's ramp state. -/
def State.ramp (s : State) (u : UnitNo) : RampUnit := s.rmp.units.get u

/-- The unit's plan entry. -/
def State.entry (s : State) (u : UnitNo) : Entry := s.alc.entries.get u

/-- The unit's live assignment. -/
def State.assignOf (s : State) (u : UnitNo) : Assign := s.dse.assign.get u

/-- The PROFILE entry that applies to the unit (R26). -/
def State.profileOf (s : State) (u : UnitNo) : Profile := s.tbs.profiles[(s.unit u).profile]

/-- The lock of the unit's waterway (R158). -/
def State.lockOf (s : State) (u : UnitNo) : Lock := s.pra.locks.get (s.unit u).waterway

/-- The BAND entry behind the unit's band; none for NONE and INVALID. -/
def State.bandOf (s : State) (u : UnitNo) : Option Band :=
  match (s.image u).band with
  | .num k => some (s.tbs.bands[(s.unit u).profile])[k]
  | .none => none
  | .invalid => none

/-- The unit's BAND entry when it allows turbine (R92). -/
def State.turbineBand (s : State) (u : UnitNo) : Option Band := (s.bandOf u).filter Band.turb

/-- The unit's BAND entry when it allows pump (R92). -/
def State.pumpBand (s : State) (u : UnitNo) : Option Band := (s.bandOf u).filter Band.pump

/-- RUNNING with a standing NET_POWER order (R84). -/
def State.orderStands (s : State) : Bool := s.dse.engine == .running && s.dse.standing.state != .none

def State.setImage (s : State) (u : UnitNo) (i : Image) : State :=
  { s with uib := { s.uib with images := s.uib.images.set u i } }

def State.setSeq (s : State) (u : UnitNo) (q : Seq) : State := { s with seqs := s.seqs.set u q }

def State.setRamp (s : State) (u : UnitNo) (r : RampUnit) : State :=
  { s with rmp := { s.rmp with units := s.rmp.units.set u r } }

def State.setEntry (s : State) (u : UnitNo) (e : Entry) : State :=
  { s with alc := { s.alc with entries := s.alc.entries.set u e } }

def State.setUnit (s : State) (u : UnitNo) (e : UnitEntry) : State :=
  { s with tbs := { s.tbs with units := s.tbs.units.set u e } }

def State.setAssign (s : State) (u : UnitNo) (a : Assign) : State :=
  { s with dse := { s.dse with assign := s.dse.assign.set u a } }

def State.setLock (s : State) (w : Waterway) (l : Lock) : State :=
  { s with pra := { s.pra with locks := s.pra.locks.set w l } }

def State.setLpu (s : State) (l : Lpu) : State := { s with lpu := l }

def State.setTbs (s : State) (t : Tbs) : State := { s with tbs := t }

def State.setUib (s : State) (i : Uib) : State := { s with uib := i }

def State.setDse (s : State) (d : Dse) : State := { s with dse := d }

def State.setAlc (s : State) (a : Alc) : State := { s with alc := a }

def State.setPra (s : State) (p : Pra) : State := { s with pra := p }

def State.setRmp (s : State) (r : Rmp) : State := { s with rmp := r }

def State.setRpb (s : State) (r : Rpb) : State := { s with rpb := r }

end Sys2Proof.Machine
end

