-- ==== Sys2Proof/Machine/Codes.lean ====
section
/-! DEFINITION. The codes in which the part composes and reads named values (R194). -/

namespace Sys2Proof.Machine

def Stage.code : Stage → Byte
  | .still => 0
  | .turbSpin => 1
  | .turbOn => 2
  | .turbAir => 3
  | .dry => 4
  | .pumpAir => 5
  | .pumpOn => 6
  | .stopping => 7
  | .trip => 8

/-- The nine stage codes; none for any other code (R41). -/
def Stage.ofCode (b : Byte) : Option Stage :=
  [.still, .turbSpin, .turbOn, .turbAir, .dry, .pumpAir, .pumpOn, .stopping, .trip].find? fun st => st.code == b

/-- A stage as carried: `$FF` when absent (R193). -/
def stageByte : Option Stage → Byte
  | some st => st.code
  | none => 0xFF

def PlanMode.code : PlanMode → Byte
  | .still => 0
  | .gen => 1
  | .pump => 2
  | .genAir => 3
  | .pumpAir => 4

/-- The five planned-mode codes; none for any other code (R75). -/
def PlanMode.ofCode (b : Byte) : Option PlanMode :=
  [.still, .gen, .pump, .genAir, .pumpAir].find? fun m => m.code == b

def SeqState.code : SeqState → Byte
  | .dormant => 0
  | .unsettled => 1
  | .localCmd => 2
  | .tripped => 3
  | .still => 4
  | .gOn => 5
  | .gAir => 6
  | .pAir => 7
  | .pOn => 8
  | .gLockwait => 9
  | .gRunup => 10
  | .gSync => 11
  | .gLoad => 12
  | .gUnload => 13
  | .pDewater => 14
  | .pConvwait => 15
  | .pRunup => 16
  | .pLockwait => 17
  | .pPrime => 18
  | .pUnload => 19
  | .stopping => 20

def EngineState.code : EngineState → Byte
  | .paused => 0
  | .running => 1
  | .halted => 2

def OrderState.code : OrderState → Byte
  | .none => 0
  | .active => 1
  | .settled => 2
  | .ended => 3
  | .aborted => 4

def ConvState.code : ConvState → Byte
  | .free => 0
  | .connecting => 1
  | .inUse => 2
  | .releasing => 3
  | .faulted => 4

def CrossOutcome.code : CrossOutcome → Byte
  | .idle => 0
  | .within => 1
  | .scaled => 2
  | .crossed => 3

def OrderCode.code : OrderCode → Byte
  | .accepted => 0
  | .clamped => 1
  | .deferred => 2
  | .superseded => 3
  | .dropped => 4
  | .replanned => 5
  | .refusedState => 6
  | .refusedUnit => 7
  | .refusedNotManual => 8
  | .refusedNotClearable => 9
  | .refusedBand => 10

def MgtCode.code : MgtCode → Byte
  | .accepted => 0
  | .clamped => 1
  | .gateClosed => 2
  | .state => 3
  | .range => 4
  | .invalid => 5
  | .busy => 6

def Cause.code : Cause → Byte
  | .adopted => 0
  | .reached => 1
  | .returned => 2
  | .cleared => 3
  | .abandoned => 4
  | .converter => 5
  | .lockwaitTimeout => 6
  | .queueTimeout => 7
  | .timeout => 8
  | .unitFault => 9
  | .sequence => 10
  | .remoteLoss => 11

/-- The sub-kind of each command (R194). -/
def Command.sub : Command → Byte
  | .goTurbine => 0x01
  | .sync => 0x02
  | .load => 0x03
  | .unloadAir => 0x04
  | .stop => 0x05
  | .dewater => 0x06
  | .converterStart => 0x07
  | .prime => 0x08
  | .setpoint _ => 0x09
  | .identReq => 0x0A
  | .convConnect _ => 0x10
  | .convRelease => 0x11

/-- The payload of each command (R195). -/
def Command.payload : Command → Payload
  | .setpoint v => .of (BitVec.ofNat 16 v ++ 0#192)
  | .convConnect a => .of (BitVec.ofNat 8 a ++ 0#200)
  | .goTurbine => 0
  | .sync => 0
  | .load => 0
  | .unloadAir => 0
  | .stop => 0
  | .dewater => 0
  | .converterStart => 0
  | .prime => 0
  | .identReq => 0
  | .convRelease => 0

def bitOf (b : Bool) (i : Nat) : Byte := if b then 1#8 <<< i else 0

/-- Eight values as the bits of a byte, bit 0 the least significant (R193). -/
def Octet.byte (o : Octet Bool) : Byte :=
  bitOf o.b0 0 ||| bitOf o.b1 1 ||| bitOf o.b2 2 ||| bitOf o.b3 3 ||| bitOf o.b4 4 ||| bitOf o.b5 5 ||| bitOf o.b6 6 |||
    bitOf o.b7 7

/-- The bits of a byte. -/
def Octet.ofByte (b : Byte) : Octet Bool :=
  { b0 := b.getLsbD 0, b1 := b.getLsbD 1, b2 := b.getLsbD 2, b3 := b.getLsbD 3, b4 := b.getLsbD 4, b5 := b.getLsbD 5,
    b6 := b.getLsbD 6, b7 := b.getLsbD 7 }

/-- A function of two octets, bit by bit. -/
def Octet.zip {α β γ : Type} (f : α → β → γ) (x : Octet α) (y : Octet β) : Octet γ :=
  { b0 := f x.b0 y.b0, b1 := f x.b1 y.b1, b2 := f x.b2 y.b2, b3 := f x.b3 y.b3, b4 := f x.b4 y.b4, b5 := f x.b5 y.b5,
    b6 := f x.b6 y.b6, b7 := f x.b7 y.b7 }

end Sys2Proof.Machine
end

