-- ==== Sys2Proof/Machine/Operands.lean ====
section
/-! DEFINITION. Operand values: what a table write stores for each field it carries (R22), which field is at fault,
what an order's fields are brought to (R71, R75), and how values are carried in reports (R105, R193). -/

namespace Sys2Proof.Machine

/-- A value above the range is stored as the upper limit, one below it as the lower limit (R22). -/
def intoRange (lo hi v : Nat) : Nat := if v < lo then lo else if hi < v then hi else v

/-- What a power field is stored as. Powers are carried signed, so a field with its top bit set is negative and takes the
lower limit (R22, R193). -/
def powerIntoRange (lo hi : Nat) (v : Half) : Nat := intoRange lo hi v.toInt.toNat

/-- The number of the first field whose stored value differs from the value given; 0 when none does (R23). -/
def firstClamped : List (Nat × Nat × Nat) → Nat
  | [] => 0
  | (field, given, stored) :: rest => if given = stored then firstClamped rest else field

/-- A planned total, deviation or measured total as carried: the nearer limit of a 16-bit signed field when it lies
outside (R105, R190). -/
def carried16 (v : Int) : Half := BitVec.ofInt 16 (if v < -32768 then -32768 else if 32767 < v then 32767 else v)

/-- A setpoint or share as carried: `$FFFF` for none (R193). -/
def powerOrNone : Option Nat → Half
  | some v => BitVec.ofNat 16 v
  | none => 0xFFFF

-- Orders --------------------------------------------------------------------------------------------------

/-- The target brought into -30000..+30000 (R71). -/
def clampTarget (t : Int) : Int := if t < -30000 then -30000 else if 30000 < t then 30000 else t

/-- A rate class above 3 is taken as 0 (R71, R75). -/
def rateClass (b : Byte) : Fin 4 := if h : b.toNat < 4 then ⟨b.toNat, h⟩ else 0

/-- The NET_POWER order with its fields brought into range (R71). -/
def Order.ofFields (id target : Half) (cls src : Byte) : Order :=
  { id, target := clampTarget target.toInt, cls := rateClass cls, clamped := clampTarget target.toInt != target.toInt,
    src }

-- PLANT (R24) ---------------------------------------------------------------------------------------------

def Plant.ofFields (f : PlantFields) : Plant :=
  { ti := intoRange 5 50 f.ti.toNat
    shortCircuit := f.shortCircuit != 0
    guardTime := intoRange 0 600 f.guardTime.toNat
    staleTime := intoRange 5 100 f.staleTime.toNat
    identWait := intoRange 10 100 f.identWait.toNat
    debounce := intoRange 1 4 f.debounce.toNat
    convAddr := intoRange 1 30 f.convAddr.toNat
    releaseTime := intoRange 1 60 f.releaseTime.toNat }

def plantClamped (f : PlantFields) : Nat :=
  let p := Plant.ofFields f
  firstClamped [(1, f.ti.toNat, p.ti), (2, f.shortCircuit.toNat, p.shortCircuit.toNat),
    (3, f.guardTime.toNat, p.guardTime), (4, f.staleTime.toNat, p.staleTime), (5, f.identWait.toNat, p.identWait),
    (6, f.debounce.toNat, p.debounce), (7, f.convAddr.toNat, p.convAddr), (8, f.releaseTime.toNat, p.releaseTime)]

-- UNIT (R26) ----------------------------------------------------------------------------------------------

/-- The assignment's code: 0 for AUTO, 1 for MANUAL (R22). -/
def Assign.code : Assign → Nat
  | .auto => 0
  | .manual => 1

/-- A code above 1 is taken as MANUAL (R22, R77). -/
def Assign.ofCode (b : Byte) : Assign := if b = 0 then .auto else .manual

def UnitEntry.ofFields (present : Byte) (f : UnitFields) : UnitEntry :=
  { present := present != 0
    addr := intoRange 1 30 f.addr.toNat
    waterway := if f.waterway.toNat < 2 then .w1 else .w2
    profile := if h : f.profile.toNat < 4 then ⟨f.profile.toNat, h⟩ else 3
    classCode := f.classCode.toNat
    rated := powerIntoRange 1 5000 f.rated
    assign := Assign.ofCode f.assign
    minRun := intoRange 0 7200 f.minRun.toNat
    minStill := intoRange 0 7200 f.minStill.toNat
    linger := intoRange 0 1800 f.linger.toNat }

def unitClamped (present : Byte) (f : UnitFields) : Nat :=
  let e := UnitEntry.ofFields present f
  firstClamped [(1, present.toNat, e.present.toNat), (2, f.addr.toNat, e.addr), (3, f.waterway.toNat, e.waterway.number),
    (4, f.profile.toNat, e.profile.val), (5, f.classCode.toNat, e.classCode), (6, f.rated.toNat, e.rated),
    (7, f.assign.toNat, e.assign.code), (8, f.minRun.toNat, e.minRun), (9, f.minStill.toNat, e.minStill),
    (10, f.linger.toNat, e.linger)]

-- PROFILE (R30) -------------------------------------------------------------------------------------------

/-- Timeouts and rates accept 0 as unset, so only the upper limit clamps (R22). -/
def Profile.ofFields (f : ProfileFields) : Profile :=
  { tRunup := intoRange 0 3600 f.tRunup.toNat
    tSync := intoRange 0 3600 f.tSync.toNat
    tLoad := intoRange 0 3600 f.tLoad.toNat
    tUnload := intoRange 0 3600 f.tUnload.toNat
    tStop := intoRange 0 3600 f.tStop.toNat
    tDewater := intoRange 0 3600 f.tDewater.toNat
    tPrun := intoRange 0 3600 f.tPrun.toNat
    tPrime := intoRange 0 3600 f.tPrime.toNat
    tConvwait := intoRange 0 3600 f.tConvwait.toNat
    tLockwait := intoRange 0 3600 f.tLockwait.toNat
    rate0 := intoRange 0 1000 f.rate0.toNat
    rate1 := intoRange 0 1000 f.rate1.toNat
    rate2 := intoRange 0 1000 f.rate2.toNat
    rate3 := intoRange 0 1000 f.rate3.toNat
    refresh := intoRange 1 60 f.refresh.toNat
    bandCount := intoRange 0 12 f.bandCount.toNat
    hyst := intoRange 0 500 f.hyst.toNat }

def profileClamped (f : ProfileFields) : Nat :=
  let p := Profile.ofFields f
  firstClamped [(1, f.tRunup.toNat, p.tRunup), (2, f.tSync.toNat, p.tSync), (3, f.tLoad.toNat, p.tLoad),
    (4, f.tUnload.toNat, p.tUnload), (5, f.tStop.toNat, p.tStop), (6, f.tDewater.toNat, p.tDewater),
    (7, f.tPrun.toNat, p.tPrun), (8, f.tPrime.toNat, p.tPrime), (9, f.tConvwait.toNat, p.tConvwait),
    (10, f.tLockwait.toNat, p.tLockwait), (11, f.rate0.toNat, p.rate0), (12, f.rate1.toNat, p.rate1),
    (13, f.rate2.toNat, p.rate2), (14, f.rate3.toNat, p.rate3), (15, f.refresh.toNat, p.refresh),
    (16, f.bandCount.toNat, p.bandCount), (17, f.hyst.toNat, p.hyst)]

/-- Fields 1 to 10 with their numbers, in order (R30). -/
def Profile.timeouts (p : Profile) : List (Nat × Nat) :=
  [(1, p.tRunup), (2, p.tSync), (3, p.tLoad), (4, p.tUnload), (5, p.tStop), (6, p.tDewater), (7, p.tPrun),
    (8, p.tPrime), (9, p.tConvwait), (10, p.tLockwait)]

/-- The number of the first field of the list that is 0; none when every field is other than 0. -/
def firstZero (l : List (Nat × Nat)) : Option Nat := (l.find? fun f => f.2 == 0).map Prod.fst

/-- The lowest-numbered of fields 1 to 11 and 16 that is 0 (R30). -/
def Profile.runFault (p : Profile) : Option Nat := firstZero (p.timeouts ++ [(11, p.rate0), (16, p.bandCount)])

/-- The rate of a class; a class whose rate is 0 is unset and gives the rate of class 0 (R31). -/
def Profile.rate (p : Profile) (c : Fin 4) : Nat :=
  let r := if c = 0 then p.rate0 else if c = 1 then p.rate1 else if c = 2 then p.rate2 else p.rate3
  if r = 0 then p.rate0 else r

-- BAND (R32) ----------------------------------------------------------------------------------------------

def Band.ofFields (f : BandFields) : Band :=
  { lower := intoRange 0 15000 f.lower.toNat
    gmin := powerIntoRange 0 5000 f.gmin
    gmax := powerIntoRange 0 5000 f.gmax
    ppump := powerIntoRange 0 5000 f.ppump
    rzlo := powerIntoRange 0 5000 f.rzlo
    rzhi := powerIntoRange 0 5000 f.rzhi
    turb := f.turb != 0
    pump := f.pump != 0 }

def bandClamped (f : BandFields) : Nat :=
  let b := Band.ofFields f
  firstClamped [(1, f.lower.toNat, b.lower), (2, f.gmin.toNat, b.gmin), (3, f.gmax.toNat, b.gmax),
    (4, f.ppump.toNat, b.ppump), (5, f.rzlo.toNat, b.rzlo), (6, f.rzhi.toNat, b.rzhi),
    (7, f.turb.toNat, b.turb.toNat), (8, f.pump.toNat, b.pump.toNat)]

-- MERIT (R33) ---------------------------------------------------------------------------------------------

/-- The listed numbers, those within the length. -/
def meritListed (f : MeritFields) : List Nat :=
  ([f.p1, f.p2, f.p3, f.p4, f.p5, f.p6].take f.len.toNat).map BitVec.toNat

/-- The field number of the first listed number outside 1..6, the first position being field 2. -/
def outsideField (field : Nat) : List Nat → Option Nat
  | [] => none
  | n :: rest => if 1 ≤ n ∧ n ≤ 6 then outsideField (field + 1) rest else some field

/-- The field number of the first second appearance of a number. -/
def repeatedField (field : Nat) (seen : List Nat) : List Nat → Option Nat
  | [] => none
  | n :: rest => if n ∈ seen then some field else repeatedField (field + 1) (n :: seen) rest

/-- The field a MERIT write is refused for: the length, then a number outside 1..6, then a repeated number. DESIGN
CHOICE (log entry 14): the faults are tested in the order of R33's table. -/
def meritFault (f : MeritFields) : Option Nat :=
  if 6 < f.len.toNat then some 1
  else match outsideField 2 (meritListed f) with
    | some k => some k
    | none => repeatedField 2 [] (meritListed f)

/-- The list of units that an accepted MERIT write stores. -/
def meritUnits (f : MeritFields) : List UnitNo := (meritListed f).filterMap UnitNo.ofNumber

-- WATERWAY (R34) ------------------------------------------------------------------------------------------

/-- The stored ramp budget. -/
def budgetOfField (b : Half) : Nat := intoRange 0 2000 b.toNat

def budgetClamped (b : Half) : Nat := firstClamped [(1, b.toNat, budgetOfField b)]

-- Entry indices (R18) -------------------------------------------------------------------------------------

/-- Profile numbers 0..3. -/
def profileIndex (b : Byte) : Option (Fin 4) := if h : b.toNat < 4 then some ⟨b.toNat, h⟩ else none

/-- Band numbers 0..11. -/
def bandIndex (b : Byte) : Option (Fin 12) := if h : b.toNat < 12 then some ⟨b.toNat, h⟩ else none

/-- Waterway numbers 1..2. -/
def waterwayIndex (b : Byte) : Option Waterway := if b = 1 then some .w1 else if b = 2 then some .w2 else none

end Sys2Proof.Machine
end

