-- ==== Sys2Proof/Machine/Bands.lean ====
section
/-! DEFINITION. Head bands: the candidate for a head (R47), its judgement (R48), hysteresis (R49, R50), and bringing a
power into a band's range and out of its rough zone (R76, R103, R107, R167, R178). -/

namespace Sys2Proof.Machine

/-- The band has a rough zone unless both edges are 0 (R32). -/
def Band.hasZone (b : Band) : Bool := b.rzlo != 0 || b.rzhi != 0

/-- Raised to Gmin if below it, lowered to Gmax if above it. -/
def Band.intoLimits (b : Band) (v : Int) : Int :=
  if v < b.gmin then b.gmin else if (b.gmax : Int) < v then b.gmax else v

/-- A value strictly inside the rough zone moves to the nearer edge, to RZlo when equally near. -/
def Band.outOfZone (b : Band) (v : Int) : Int :=
  if b.hasZone && decide ((b.rzlo : Int) < v) && decide (v < b.rzhi) then
    if v - b.rzlo ≤ b.rzhi - v then b.rzlo else b.rzhi
  else v

/-- A power brought into the band (R76, R103, R107, R167, R178). -/
def Band.clamp (b : Band) (v : Int) : Nat := (b.outOfZone (b.intoLimits v)).toNat

/-- The band numbers 0 to 11. -/
def bandNumbers : List (Fin 12) := [0, 1, 2, 3, 4, 5, 6, 7, 8, 9, 10, 11]

/-- The candidate: the highest band in use whose lower bound is no greater than the head (R47). -/
def candidate (bands : Vector Band 12) (count head : Nat) : Option (Fin 12) :=
  (bandNumbers.filter fun k => decide (k.val < count) && decide (bands[k].lower ≤ head)).getLast?

/-- The candidate region (R47). -/
def candidateRegion (bands : Vector Band 12) (count : Nat) : Option (Fin 12) → Region
  | some k =>
    { lo := bands[k].lower, hi := if k.val + 1 < count then (bands[k.val + 1]?).map Band.lower else none }
  | none => { lo := 0, hi := if count = 0 then none else some bands[0].lower }

/-- A candidate band passes (R48). -/
def bandPasses (bands : Vector Band 12) (k : Fin 12) : Bool :=
  let b := bands[k]
  (k.val == 0 || (bands[k.val - 1]?).any fun below => decide (below.lower < b.lower)) &&
    decide (b.gmin ≤ b.gmax) &&
    (!b.hasZone || (decide (b.gmin < b.rzlo) && decide (b.rzlo < b.rzhi) && decide (b.rzhi < b.gmax)))

/-- The result of a candidate: its number, INVALID or NONE (R48). -/
def judge (bands : Vector Band 12) : Option (Fin 12) → BandSel
  | some k => if bandPasses bands k then .num k else .invalid
  | none => .none

/-- The band and region taken at once, without a present region (R50). -/
def selectBand (bands : Vector Band 12) (count head : Nat) : BandSel × Region :=
  let c := candidate bands count head
  (judge bands c, candidateRegion bands count c)

/-- A valid head leaves the band as it is within the present region and its margin (R49). -/
def Region.keeps (r : Region) (hyst head : Nat) : Bool :=
  decide (r.lo ≤ head + hyst) && (match r.hi with
    | some hi => decide (head < hi + hyst)
    | none => true)

/-- The evaluation of a unit's band (R50). -/
def evaluateBand (bands : Vector Band 12) (p : Profile) (head : Option Nat) (band : BandSel) (region : Option Region) :
    BandSel × Option Region :=
  match head with
  | none => (.none, none)
  | some h =>
    let taken := selectBand bands p.bandCount h
    match region with
    | none => (taken.1, some taken.2)
    | some r => if r.keeps p.hyst h then (band, some r) else (taken.1, some taken.2)

/-- The unit's image with its band evaluated at a taken UNIT_STATUS (R50). -/
def State.evaluated (s : State) (u : UnitNo) (i : Image) : Image :=
  let r := evaluateBand s.tbs.bands[(s.unit u).profile] (s.profileOf u) i.head i.band i.region
  { i with band := r.1, region := r.2 }

/-- The unit's image with its band recomputed at a table write, without hysteresis (R28, R35). -/
def State.recomputed (s : State) (u : UnitNo) (i : Image) : Image :=
  let r := evaluateBand s.tbs.bands[(s.unit u).profile] (s.profileOf u) i.head i.band none
  { i with band := r.1, region := r.2 }

end Sys2Proof.Machine
end

