-- ==== Sys2Proof/Machine/Flags.lean ====
section
/-! DEFINITION. Flag computations: the eight station sticky flags with their raised-again marks and carried record
(R188, R189), and the drive of PLANT_ALERT_N (R192). -/

namespace Sys2Proof.Machine

/-- The station sticky flags (R188). -/
inductive Sticky where
  | reportLost | fwdDropUp | fwdDropDn | crcUp | crcDn | linkDnUp | linkDnDn | convFault
deriving DecidableEq, Repr

/-- The flag's bit in the sticky flags byte (R195). -/
def Sticky.bit : Sticky → BitVec 8
  | .reportLost => 0x01
  | .fwdDropUp => 0x02
  | .fwdDropDn => 0x04
  | .crcUp => 0x08
  | .crcDn => 0x10
  | .linkDnUp => 0x20
  | .linkDnDn => 0x40
  | .convFault => 0x80

/-- An UP HOLD cell is being sent. -/
def State.sendingUpHold (s : State) : Bool :=
  match s.lpu.upTx with
  | .hold _ => true
  | .cell _ => false
  | .idle => false

/-- Raises a sticky flag; during an UP HOLD's transmission its raised-again mark is set (R188, R189). -/
def raiseFlag (f : Sticky) (s : State) : State :=
  s.setRpb { s.rpb with
    flags := s.rpb.flags ||| f.bit
    again := if s.sendingUpHold then s.rpb.again ||| f.bit else s.rpb.again }

/-- At the selection of an UP HOLD cell: the set flags become the carried record, every mark is cleared (R189). -/
def recordCarried (s : State) : State := s.setRpb { s.rpb with carried := s.rpb.flags, again := 0 }

/-- At the end of an UP HOLD's transmission: each carried flag whose mark is clear is cleared (R189). -/
def clearCarried (s : State) : State :=
  s.setRpb { s.rpb with flags := s.rpb.flags &&& ~~~(s.rpb.carried &&& ~~~s.rpb.again), carried := 0 }

/-- The sequencer states in which a unit holds PLANT_ALERT_N low (R192). -/
def SeqState.alerts : SeqState → Bool
  | .tripped => true
  | .localCmd => true
  | .dormant => false
  | .unsettled => false
  | .still => false
  | .gOn => false
  | .gAir => false
  | .pAir => false
  | .pOn => false
  | .gLockwait => false
  | .gRunup => false
  | .gSync => false
  | .gLoad => false
  | .gUnload => false
  | .pDewater => false
  | .pConvwait => false
  | .pRunup => false
  | .pLockwait => false
  | .pPrime => false
  | .pUnload => false
  | .stopping => false

/-- The condition of PLANT_ALERT_N: a present unit TRIPPED or LOCAL, or the arbiter FAULTED, and RESET_N not low
(R192). -/
def State.alertDue (s : State) : Bool :=
  !s.held &&
    ((UnitNo.all.any fun u => (s.unit u).present && (s.seq u).state.alerts) || s.pra.arb == .faulted)

/-- PLANT_ALERT_N driven as its condition stands (R192). -/
def driveAlert (s : State) : State := s.setRpb { s.rpb with alertLow := s.alertDue }

end Sys2Proof.Machine
end

