-- ==== Sys2Proof/Machine/Reports.lean ====
section
/-! DEFINITION. The cells the part composes: commands, reports, HOLD cells and the contents of TABLE_DATA and SNAPSHOT
(R14, R190, R191, R195). -/

namespace Sys2Proof.Machine

/-- The part's own link address as a byte. -/
def Lpu.addrByte (l : Lpu) : Byte := BitVec.ofNat 8 l.addr

-- Sub-kinds of reports (R194) -----------------------------------------------------------------------------

def rptOrderResult : Byte := 0x01
def rptOrderState  : Byte := 0x02
def rptUnitState   : Byte := 0x03
def rptUnitEvent   : Byte := 0x04
def rptMgtResult   : Byte := 0x05
def rptTableData   : Byte := 0x06
def rptSnapshot    : Byte := 0x07
def rptEcho        : Byte := 0x08

-- TABLE_DATA (R38, R195) ----------------------------------------------------------------------------------

def Plant.fields (p : Plant) : PlantFields :=
  { ti := BitVec.ofNat 8 p.ti, shortCircuit := BitVec.ofNat 8 p.shortCircuit.toNat,
    guardTime := BitVec.ofNat 16 p.guardTime, staleTime := BitVec.ofNat 8 p.staleTime,
    identWait := BitVec.ofNat 8 p.identWait, debounce := BitVec.ofNat 8 p.debounce,
    convAddr := BitVec.ofNat 8 p.convAddr, releaseTime := BitVec.ofNat 8 p.releaseTime }

def UnitEntry.fields (e : UnitEntry) : UnitFields :=
  { addr := BitVec.ofNat 8 e.addr, waterway := BitVec.ofNat 8 e.waterway.number,
    profile := BitVec.ofNat 8 e.profile.val, classCode := BitVec.ofNat 8 e.classCode, rated := BitVec.ofNat 16 e.rated,
    assign := BitVec.ofNat 8 e.assign.code, minRun := BitVec.ofNat 16 e.minRun, minStill := BitVec.ofNat 16 e.minStill,
    linger := BitVec.ofNat 16 e.linger }

def Profile.fields (p : Profile) : ProfileFields :=
  { tRunup := BitVec.ofNat 12 p.tRunup, tSync := BitVec.ofNat 12 p.tSync, tLoad := BitVec.ofNat 12 p.tLoad,
    tUnload := BitVec.ofNat 12 p.tUnload, tStop := BitVec.ofNat 12 p.tStop, tDewater := BitVec.ofNat 12 p.tDewater,
    tPrun := BitVec.ofNat 12 p.tPrun, tPrime := BitVec.ofNat 12 p.tPrime, tConvwait := BitVec.ofNat 12 p.tConvwait,
    tLockwait := BitVec.ofNat 12 p.tLockwait, rate0 := BitVec.ofNat 12 p.rate0, rate1 := BitVec.ofNat 12 p.rate1,
    rate2 := BitVec.ofNat 12 p.rate2, rate3 := BitVec.ofNat 12 p.rate3, hyst := BitVec.ofNat 12 p.hyst,
    bandCount := BitVec.ofNat 4 p.bandCount, refresh := BitVec.ofNat 8 p.refresh }

def Band.fields (b : Band) : BandFields :=
  { lower := BitVec.ofNat 16 b.lower, gmin := BitVec.ofNat 16 b.gmin, gmax := BitVec.ofNat 16 b.gmax,
    ppump := BitVec.ofNat 16 b.ppump, rzlo := BitVec.ofNat 16 b.rzlo, rzhi := BitVec.ofNat 16 b.rzhi,
    turb := BitVec.ofNat 8 b.turb.toNat, pump := BitVec.ofNat 8 b.pump.toNat }

/-- The position of a MERIT list, 0 beyond its length (R38). -/
def meritPosition (l : List UnitNo) (k : Nat) : Byte :=
  match l[k]? with
  | some u => u.byte
  | none => 0

def meritFields (l : List UnitNo) : MeritFields :=
  { len := BitVec.ofNat 8 l.length, p1 := meritPosition l 0, p2 := meritPosition l 1, p3 := meritPosition l 2,
    p4 := meritPosition l 3, p5 := meritPosition l 4, p6 := meritPosition l 5 }

/-- The TABLE_DATA payload for a table code, index and band number; none where R38 answers RANGE. -/
def tableData (t : Tbs) (table index band : Byte) : Option Payload :=
  if table = tablePlant then
    if index = 0 then some (.of (table ++ index ++ t.plant.fields.bits ++ 0#120)) else none
  else if table = tableUnit then
    (UnitNo.ofNumber index.toNat).map fun u =>
      let e := t.units.get u
      .of (table ++ index ++ BitVec.ofNat 8 e.present.toNat ++ e.fields.bits ++ 0#80)
  else if table = tableProfile then
    (profileIndex index).map fun p => .of (table ++ index ++ (t.profiles[p]).fields.bits)
  else if table = tableBand then
    match profileIndex index, bandIndex band with
    | some p, some k => some (.of (table ++ index ++ band ++ ((t.bands[p])[k]).fields.bits ++ 0#72))
    | _, _ => none
  else if table = tableMerit then
    if index = 0 then some (.of (table ++ index ++ (meritFields t.meritGen).bits ++ 0#136))
    else if index = 1 then some (.of (table ++ index ++ (meritFields t.meritPump).bits ++ 0#136))
    else none
  else if table = tableWaterway then
    (waterwayIndex index).map fun w => .of (table ++ index ++ BitVec.ofNat 16 (t.budgets.get w) ++ 0#176)
  else none

-- SNAPSHOT (R191, R195) -----------------------------------------------------------------------------------

/-- One unit's setpoint, share and active rate. -/
def snapshotUnit (s : State) (u : UnitNo) : BitVec 48 :=
  (powerOrNone (s.ramp u).setpoint ++ powerOrNone (s.entry u).share ++
    BitVec.ofNat 16 ((s.ramp u).rate.getD 0)).setWidth 48

/-- A crossing record as carried. -/
def Crossing.bits (c : Crossing) : BitVec 48 :=
  (c.outcome.code ++ (match c.unit with
    | some u => u.byte
    | none => (0 : Byte)) ++ BitVec.ofNat 16 c.requested ++ BitVec.ofNat 16 c.moved).setWidth 48

/-- One part of a SNAPSHOT. -/
def snapshotPart (s : State) (number part : Byte) (a b c : UnitNo) (w : Waterway) : Payload :=
  .of (number ++ part ++ snapshotUnit s a ++ snapshotUnit s b ++ snapshotUnit s c ++ (s.rmp.crossings.get w).bits)

-- Reports (R184, R195) ------------------------------------------------------------------------------------

/-- Gen count, pump count, planned total and deviation as carried; 0 in each field left unused (R70, R105). -/
def summaryBits : Option Summary → BitVec 48
  | some m =>
    (BitVec.ofNat 8 m.genCount ++ BitVec.ofNat 8 m.pumpCount ++ carried16 m.total ++ carried16 m.deviation).setWidth 48
  | none => 0

/-- A report's destination (R184). -/
def Report.dest : Report → Byte
  | .orderResult d _ _ _ _ _ => d
  | .manualReplan d _ _ _ _ => d
  | .orderState d _ _ _ _ => d
  | .unitState _ _ _ _ _ _ => Config.stationController
  | .unitEvent _ _ _ => Config.stationController
  | .mgtResult d _ _ _ _ _ _ => d
  | .tableData d _ => d
  | .snapshot _ => Config.stationController
  | .echo d _ => d

/-- A report's sub-kind (R194). -/
def Report.sub : Report → Byte
  | .orderResult _ _ _ _ _ _ => rptOrderResult
  | .manualReplan _ _ _ _ _ => rptOrderResult
  | .orderState _ _ _ _ _ => rptOrderState
  | .unitState _ _ _ _ _ _ => rptUnitState
  | .unitEvent _ _ _ => rptUnitEvent
  | .mgtResult _ _ _ _ _ _ _ => rptMgtResult
  | .tableData _ _ => rptTableData
  | .snapshot _ => rptSnapshot
  | .echo _ _ => rptEcho

/-- A report's payload (R195). -/
def Report.payload : Report → Payload
  | .orderResult _ id sub code unit m => .of (id ++ sub ++ code.code ++ unit ++ summaryBits m ++ 0#120)
  | .manualReplan _ id u mode share =>
    .of (id ++ subUnitMode ++ OrderCode.replanned.code ++ u.byte ++ mode.code ++ 0#8 ++ powerOrNone share ++ 0#136)
  | .orderState _ id st target m => .of (id ++ st.code ++ carried16 target ++ summaryBits (some m) ++ 0#120)
  | .unitState u before after cause stage fault =>
    .of (u.byte ++ before.code ++ after.code ++ cause.code ++ stageByte stage ++ fault ++ 0#160)
  | .unitEvent u ev verify => .of (u.byte ++ ev ++ bitOf verify 0 ++ 0#184)
  | .mgtResult _ sub code table index band field =>
    .of (sub ++ code.code ++ table ++ index ++ band ++ field ++ 0#160)
  | .tableData _ p => p
  | .snapshot p => p
  | .echo _ p => p

/-- The report as it begins transmission: source the part's address, CRC computed (R1, R184). -/
def Report.cell (addr : Byte) (r : Report) : Cell := .compose r.dest addr kindRpt r.sub r.payload

/-- A waiting command as it begins transmission (R1, R9). -/
def Waiting.cell (addr : Byte) (w : Waiting) : Cell :=
  .compose (BitVec.ofNat 8 w.dest) addr kindUcmd w.cmd.sub w.cmd.payload

-- HOLD cells (R14, R190) ----------------------------------------------------------------------------------

/-- The DN HOLD payload: engine state, and the standing order's indication and id (R14). -/
def dnHoldPayload (s : State) : Payload :=
  let r := s.dse.standing
  if r.state = .none then .of (s.dse.engine.code ++ 0#8 ++ 0#16 ++ 0#176)
  else .of (s.dse.engine.code ++ 1#8 ++ r.order.id ++ 0#176)

/-- The measured station total (R59). -/
def measuredTotal (s : State) : Int :=
  ((UnitNo.all.filter fun u => (s.unit u).present).map fun u => (s.image u).power).sum

/-- The mode codes of U1 to U6 (R190). -/
def modeCodes (s : State) : BitVec 48 :=
  ((s.seq .u1).state.code ++ (s.seq .u2).state.code ++ (s.seq .u3).state.code ++ (s.seq .u4).state.code ++
    (s.seq .u5).state.code ++ (s.seq .u6).state.code).setWidth 48

/-- The station summary (R190). -/
def upHoldPayload (s : State) : Payload :=
  let r := s.dse.standing
  let stands := r.state != .none
  .of (s.dse.engine.code ++ (if stands then r.order.id else 0) ++ r.state.code ++
    (if stands then carried16 r.order.target else 0) ++ (if stands then carried16 r.summary.total else 0) ++
    carried16 (measuredTotal s) ++ (if stands then carried16 r.summary.deviation else 0) ++ modeCodes s ++
    s.rpb.flags ++ s.pra.arb.code ++ 0#48)

/-- A HOLD cell of the part: addressed to broadcast (R14). -/
def holdCell (s : State) (p : Payload) : Cell := .compose Config.broadcast s.lpu.addrByte kindHold 0 p

end Sys2Proof.Machine
end

