-- ==== Sys2Proof/Machine/Ops.lean ====
section
/-! DEFINITION. The named operations over the queues: the report queue with its UNIT_EVENTs (R185 to R187), the command
queue (R9, R10), the forward queues (R8), link states (R15), and the framing of every event: reception at a port (R2,
R4, R5) and RESET_N low (R1). -/

namespace Sys2Proof.Machine

-- Report queue --------------------------------------------------------------------------------------------

/-- A report joins the tail, or is discarded and REPORT_LOST raised when 16 cells are queued (R185). -/
def pushReport (r : Report) (s : State) : State :=
  if s.rpb.queue.length < Config.reportCapacity then s.setRpb { s.rpb with queue := s.rpb.queue ++ [r] }
  else raiseFlag .reportLost s

/-- The report is a UNIT_EVENT of the unit. -/
def Report.isEventOf (u : UnitNo) : Report → Bool
  | .unitEvent v _ _ => v == u
  | _ => false

/-- A UNIT_EVENT for the unit is waiting (R186). -/
def eventWaiting (u : UnitNo) (s : State) : Bool := s.rpb.queue.any (Report.isEventOf u)

/-- A waiting UNIT_EVENT of the unit takes in further flags (R186). -/
def Report.mergeEvent (u : UnitNo) (ev : BitVec 8) (verify : Bool) : Report → Report
  | .unitEvent v e w => if v = u then .unitEvent v (e ||| ev) (w || verify) else .unitEvent v e w
  | r => r

/-- The UNIT_EVENT that carries every event flag of the unit now set (R186). -/
def unitEventOf (u : UnitNo) (s : State) : Report := .unitEvent u (s.image u).events (s.image u).verifyEvent

/-- At least one of the unit's event flags is set. -/
def Image.anyEvent (i : Image) : Bool := i.events != 0 || i.verifyEvent

/-- Sets event flags of a unit. A flag that goes from clear to set is added to a waiting UNIT_EVENT, or a
UNIT_EVENT is placed; with the queue full the unit stays pending (R52, R186). -/
def raiseEvents (u : UnitNo) (ev : BitVec 8) (verify : Bool) (s : State) : State :=
  let i := s.image u
  let fresh := ev &&& ~~~i.events
  let freshVerify := verify && !i.verifyEvent
  if fresh = 0 ∧ freshVerify = false then s
  else
    let s1 := s.setImage u { i with events := i.events ||| ev, verifyEvent := i.verifyEvent || verify }
    if eventWaiting u s then
      s1.setRpb { s1.rpb with queue := s1.rpb.queue.map (Report.mergeEvent u fresh freshVerify) }
    else pushReport (unitEventOf u s1) s1

/-- A pending unit is offered a place while the queue has room (R187). -/
def offerPending (s : State) (u : UnitNo) : State :=
  if (s.image u).anyEvent && !eventWaiting u s && decide (s.rpb.queue.length < Config.reportCapacity) then
    pushReport (unitEventOf u s) s
  else s

/-- A departing UNIT_EVENT clears the unit's event flags that it carries (R53, R187). -/
def clearDeparted (r : Report) (s : State) : State :=
  match r with
  | .unitEvent u ev verify =>
    let i := s.image u
    s.setImage u { i with events := i.events &&& ~~~ev, verifyEvent := i.verifyEvent && !verify }
  | _ => s

/-- What follows a departure: the carried flags are cleared, then the pending units are offered places (R187). -/
def afterDeparture (r : Report) (s : State) : State := UnitNo.all.foldl offerPending (clearDeparted r s)

/-- The MGT_RESULT for a cell that carries no table, index or band number (R23). -/
def mgtPlain (h : Hdr) (sub : Byte) (code : MgtCode) : Report := .mgtResult h.src sub code 0 0 0 0

/-- The UNIT_STATE of a state change, with the stage and fault code in the image (R144). -/
def pushUnitState (u : UnitNo) (before after : SeqState) (cause : Cause) (s : State) : State :=
  pushReport (.unitState u before after cause (s.image u).stage (s.image u).fault) s

-- Command queue -------------------------------------------------------------------------------------------

/-- A placement replaces a waiting cell in place, or takes the newest position (R9). -/
def placeIn (w : Waiting) (q : List Waiting) : List Waiting :=
  if q.any (fun x => x.slot == w.slot) then q.map fun x => if x.slot = w.slot then w else x else q ++ [w]

def place (slot : Slot) (dest : Nat) (cmd : Command) (s : State) : State :=
  s.setLpu { s.lpu with cmds := placeIn { slot, dest, cmd } s.lpu.cmds }

/-- A slot is emptied and loses its position (R10). -/
def withdraw (slot : Slot) (s : State) : State :=
  s.setLpu { s.lpu with cmds := s.lpu.cmds.filter fun w => w.slot != slot }

/-- The unit's waiting stage command is withdrawn (R10, R142). DEDUCED (log entry 9): an IDENT_REQ is no stage command
and stays, since R9 and R118 tell the two apart. -/
def withdrawStage (u : UnitNo) (s : State) : State :=
  s.setLpu { s.lpu with cmds := s.lpu.cmds.filter fun w => w.slot != .stage u || w.cmd == .identReq }

/-- Places a stage command, addressed to the unit's link address (R9). -/
def placeStage (u : UnitNo) (cmd : Command) (s : State) : State := place (.stage u) (s.unit u).addr cmd s

/-- Places a converter command, addressed to the converter address (R9). -/
def placeConverter (cmd : Command) (s : State) : State := place .converter s.tbs.plant.convAddr cmd s

/-- Places a SETPOINT and starts the unit's refresh timer (R180, R181). -/
def placeSetpoint (u : UnitNo) (v : Nat) (s : State) : State :=
  let s1 := place (.setpoint u) (s.unit u).addr (.setpoint v) s
  s1.setRamp u { s1.ramp u with refresh := some (s.profileOf u).refresh }

/-- An accepted PAUSE keeps the stage slots that hold IDENT_REQ (R10, R67). -/
def flushCommands (s : State) : State :=
  s.setLpu { s.lpu with cmds := s.lpu.cmds.filter fun w => w.cmd == .identReq }

-- Identity exchange (R54) ---------------------------------------------------------------------------------

/-- Starts an identity exchange: IDENT_WAIT, request count 1, IDENT_REQ placed, timer started, VERIFY_CHANGE set
(R54, R57). -/
def startExchange (u : UnitNo) (s : State) : State :=
  let i := s.image u
  let s1 := s.setImage u
    { i with identity := .identWait, identCount := 1, identTimer := some s.tbs.plant.identWait }
  raiseEvents u 0 true (placeStage u .identReq s1)

-- Forward queues (R8) -------------------------------------------------------------------------------------

def forwardDn (c : Cell) (s : State) : State :=
  if s.lpu.dnFwd.length < Config.forwardCapacity then s.setLpu { s.lpu with dnFwd := s.lpu.dnFwd ++ [c] }
  else raiseFlag .fwdDropDn s

def forwardUp (c : Cell) (s : State) : State :=
  if s.lpu.upFwd.length < Config.forwardCapacity then s.setLpu { s.lpu with upFwd := s.lpu.upFwd ++ [c] }
  else raiseFlag .fwdDropUp s

-- Link state (R15) ----------------------------------------------------------------------------------------

/-- A valid cell brings the port UP and starts its link-loss timer from its full period (R2, R15). -/
def validArrival (p : Port) (s : State) : State :=
  s.setLpu { s.lpu with link := s.lpu.link.set p { isUp := true, loss := some Config.linkLossPeriod } }

-- Reception (R2, R4, R5) ----------------------------------------------------------------------------------

/-- Outcome of an event that no RESET_N low stops (R1: cells that arrive while RESET_N is low have no effect). DESIGN
CHOICE (log entry 2): no timer expires and no cell is sent while RESET_N is low. -/
def event (f : State → State) (s : State) : Host.Outcome State Fault Refusal := .next (if s.held then s else f s)

/-- The CRC check at an arrival: a bad cell is discarded and raises the port's flag (R2). -/
def receive (p : Port) (bad : Sticky) (c : Cell) (f : State → State) (s : State) : State :=
  if c.crcGood then f (validArrival p s) else raiseFlag bad s

/-- The cell is addressed to the part (R3). -/
def toPart (c : Cell) (s : State) : Bool := c.dest.toNat == s.lpu.addr

/-- An ORDER or MGT cell arriving on UP: `take` is the consuming block's act; a broadcast cell's copy joins the
DN-forward queue, after the act (R4, R17, R68). -/
def arriveUp (c : Cell) (take : State → State) : State → State :=
  receive .up .crcUp c fun s =>
    if toPart c s then take s
    else if c.dest = Config.broadcast then forwardDn c (take s)
    else forwardDn c s

/-- A TEL cell's source is the link address of a present unit or the converter address (R5). -/
def snooped (src : Byte) (s : State) : Bool :=
  (UnitNo.all.any fun u => (s.unit u).present && (s.unit u).addr == src.toNat) ||
    s.tbs.plant.convAddr == src.toNat

/-- The present unit with this link address (R41, R56). -/
def unitAt (src : Byte) (s : State) : Option UnitNo :=
  UnitNo.all.find? fun u => (s.unit u).present && (s.unit u).addr == src.toNat

/-- A TEL cell arriving on DN: `take` is the act on a cell addressed to the part, `snoop` the act on a cell snooped
in passing; every cell not addressed to the part joins the UP-forward queue (R5, R7). -/
def arriveDn (c : Cell) (take snoop : State → State) : State → State :=
  receive .dn .crcDn c fun s =>
    if toPart c s then take s
    else if snooped c.src s then forwardUp c (snoop s)
    else forwardUp c s

end Sys2Proof.Machine
end

