-- ==== Sys2Proof/Machine/Sequencer.lean ====
section
/-! DEFINITION. The unit sequencers with the resources they share: entering states (R118, R125, R139, R142), waterway
locks (R158 to R162), the start converter (R149, R152, R154), acting on the plan (R117, R126 to R131), adoption
(R114, R115) and taking a stage report (R136 to R140). Every operation works on an event in progress. -/

namespace Sys2Proof.Machine

/-- An event in progress: the state, whether an allocation trigger was raised (R84), whether a sequencer entered a
stable state (R82), and the sequencers that act on their planned mode once the event's allocation run, if one is
made, has written the plan (R116, R132, R141). -/
structure Ev where
  s      : State
  trig   : Bool
  settle : Bool
  due    : List UnitNo
deriving DecidableEq, Repr

/-- An event that begins in this state. -/
def Ev.start (s : State) : Ev := { s, trig := false, settle := false, due := [] }

def Ev.map (f : State → State) (e : Ev) : Ev := { e with s := f e.s }

/-- An allocation trigger is raised when `b` holds (R84). -/
def Ev.trigger (b : Bool) (e : Ev) : Ev := { e with trig := e.trig || b }

def Ev.addDue (u : UnitNo) (e : Ev) : Ev := { e with due := u :: e.due }

def Ev.setSeq (u : UnitNo) (f : Seq → Seq) (e : Ev) : Ev := e.map fun s => s.setSeq u (f (s.seq u))

def Ev.state (u : UnitNo) (e : Ev) : SeqState := (e.s.seq u).state

-- Groups of states ----------------------------------------------------------------------------------------

/-- The stable states (R113). -/
def SeqState.stable : SeqState → Bool
  | .still => true
  | .gOn => true
  | .gAir => true
  | .pAir => true
  | .pOn => true
  | _ => false

/-- The transition states (R66). -/
def SeqState.transition : SeqState → Bool
  | .gLockwait => true
  | .gRunup => true
  | .gSync => true
  | .gLoad => true
  | .gUnload => true
  | .pDewater => true
  | .pConvwait => true
  | .pRunup => true
  | .pLockwait => true
  | .pPrime => true
  | .pUnload => true
  | _ => false

/-- The gen-side states (R92). -/
def SeqState.genSide : SeqState → Bool
  | .gLockwait => true
  | .gRunup => true
  | .gSync => true
  | .gLoad => true
  | .gOn => true
  | .gUnload => true
  | .gAir => true
  | _ => false

/-- The pump-side states (R92). -/
def SeqState.pumpSide : SeqState → Bool
  | .pDewater => true
  | .pConvwait => true
  | .pRunup => true
  | .pAir => true
  | .pLockwait => true
  | .pPrime => true
  | .pOn => true
  | .pUnload => true
  | _ => false

/-- The states whose entry is an allocation trigger (R84). -/
def SeqState.triggers : SeqState → Bool
  | .tripped => true
  | .localCmd => true
  | .still => true
  | .gOn => true
  | .pOn => true
  | _ => false

/-- The stage awaited in a timed state; none where a grant is awaited (R118). -/
def SeqState.awaited : SeqState → Option Stage
  | .gRunup => some .turbSpin
  | .gSync => some .turbOn
  | .gLoad => some .turbOn
  | .gUnload => some .turbAir
  | .pDewater => some .dry
  | .pRunup => some .pumpAir
  | .pPrime => some .pumpOn
  | .pUnload => some .pumpAir
  | .stopping => some .still
  | _ => none

/-- A stable state's own stage code (R117). -/
def SeqState.ownStage : SeqState → Option Stage
  | .still => some .still
  | .gOn => some .turbOn
  | .gAir => some .turbAir
  | .pAir => some .pumpAir
  | .pOn => some .pumpOn
  | _ => none

/-- The timeout of a timed state (R118). -/
def Profile.timeout (p : Profile) : SeqState → Nat
  | .gLockwait => p.tLockwait
  | .gRunup => p.tRunup
  | .gSync => p.tSync
  | .gLoad => p.tLoad
  | .gUnload => p.tUnload
  | .pDewater => p.tDewater
  | .pConvwait => p.tConvwait
  | .pRunup => p.tPrun
  | .pLockwait => p.tLockwait
  | .pPrime => p.tPrime
  | .pUnload => p.tUnload
  | .stopping => p.tStop
  | _ => 0

/-- The command placed on entry into a timed state (R118). -/
def SeqState.command : SeqState → Option Command
  | .gRunup => some .goTurbine
  | .gSync => some .sync
  | .gLoad => some .load
  | .gUnload => some .unloadAir
  | .pDewater => some .dewater
  | .pRunup => some .converterStart
  | .pPrime => some .prime
  | .pUnload => some .unloadAir
  | .stopping => some .stop
  | _ => none

-- Entering a state ----------------------------------------------------------------------------------------

/-- The record of a sequencer that leaves its state for `n`: the stage timer stops, leaving G_ON or P_ON stops min-run,
leaving G_AIR or P_AIR stops linger (R118, R123, R131, R132). DEDUCED (log entry 7): origin and prior stage belong to the
state left and become none. DEDUCED (log entry 32): a min-run of period 0 whose sequencer leaves in the event that started
it is stopped (R132), and no expiry of it follows. -/
def Seq.leaveFor (q : Seq) (n : SeqState) : Seq :=
  { q with
    state := n
    origin := .none
    prior := none
    stageTimer := none
    minRun := if q.state = .gOn ∨ q.state = .pOn then none else q.minRun
    linger := if q.state = .gAir ∨ q.state = .pAir then none else q.linger }

/-- A sequencer enters a state. Leaving G_ON ends its setpoint (R168), PLANT_ALERT_N follows (R192), and entry into a
stable state is a settling occasion (R82). -/
def moveTo (u : UnitNo) (n : SeqState) (e : Ev) : Ev :=
  let q := e.s.seq u
  let s1 := e.s.setSeq u (q.leaveFor n)
  let s2 := if q.state = .gOn then s1.setRamp u .idle else s1
  { e with s := driveAlert s2, settle := e.settle || n.stable }

/-- Entry into a timed state: the stage reported is recorded, the stage timer starts, the state's command is placed
(R118). -/
def enterTimed (u : UnitNo) (n : SeqState) (e : Ev) : Ev :=
  let e1 := (moveTo u n e).setSeq u fun q =>
    { q with prior := (e.s.image u).stage, stageTimer := some ((e.s.profileOf u).timeout n) }
  match n.command with
  | some c => e1.map (placeStage u c)
  | none => e1

-- Waterway locks (R158 to R161) ---------------------------------------------------------------------------

/-- A sequencer handed a lock grant advances by its state and origin (R159). -/
def grantLock (u : UnitNo) (e : Ev) : Ev :=
  match e.state u, (e.s.seq u).origin with
  | .pLockwait, _ => enterTimed u .pPrime e
  | _, .air => enterTimed u .gLoad e
  | _, _ => enterTimed u .gRunup e

/-- A request for the lock of the unit's waterway: granted at once, or the unit joins the waiter list (R158). -/
def requestLock (u : UnitNo) (e : Ev) : Ev :=
  let w := (e.s.unit u).waterway
  let l := e.s.pra.locks.get w
  match l.holder with
  | none => grantLock u (e.map fun s => s.setLock w { l with holder := some u })
  | some _ => e.map fun s => s.setLock w { l with waiters := l.waiters ++ [u] }

/-- A lock the unit holds is released and passes to the head of the waiter list within the event (R160). -/
def releaseLock (u : UnitNo) (e : Ev) : Ev :=
  let w := (e.s.unit u).waterway
  let l := e.s.pra.locks.get w
  if l.holder = some u then
    match l.waiters with
    | [] => e.map fun s => s.setLock w { l with holder := none }
    | v :: rest => grantLock v (e.map fun s => s.setLock w { holder := some v, waiters := rest })
  else e

/-- Entry into a lock wait with its origin, and the request for the lock (R119, R121, R124). -/
def enterLockwait (u : UnitNo) (n : SeqState) (o : Origin) (e : Ev) : Ev :=
  requestLock u ((enterTimed u n e).setSeq u fun q => { q with origin := o })

/-- The unit leaves its waterway's waiter list and the start queue, the others keeping their order (R156, R161). -/
def leaveWaits (u : UnitNo) (e : Ev) : Ev :=
  e.map fun s =>
    let w := (s.unit u).waterway
    let l := s.pra.locks.get w
    let s1 := s.setLock w { l with waiters := l.waiters.filter fun v => v != u }
    s1.setPra { s1.pra with startQueue := s1.pra.startQueue.filter fun v => v != u }

-- Start converter (R147 to R157) --------------------------------------------------------------------------

/-- The arbiter enters a state; PLANT_ALERT_N follows (R192). -/
def setArbiter (c : ConvState) (s : State) : State := driveAlert (s.setPra { s.pra with arb := c })

/-- The grant holder's leaving P_RUNUP in CONNECTING or IN_USE ends the grant (R149). -/
def endGrant (u : UnitNo) (e : Ev) : Ev :=
  if e.s.pra.holder = some u ∧ (e.s.pra.arb = .connecting ∨ e.s.pra.arb = .inUse) then
    e.map fun s =>
      let s1 := placeConverter .convRelease s
      setArbiter .releasing
        (s1.setPra { s1.pra with holder := none, releaseTmr := some s1.tbs.plant.releaseTime })
  else e

/-- The converter image shows a converter that can take a connection (R154). -/
def ConvImage.available (c : ConvImage) : Bool := c.ready && !c.fault && c.connected == 0

/-- The grant rule: arbiter FREE, converter available and start queue not empty (R154). -/
def grantConverter (e : Ev) : Ev :=
  if e.s.pra.arb = .free ∧ e.s.uib.conv.available then
    match e.s.pra.startQueue with
    | [] => e
    | h :: rest =>
      let e1 := e.map fun s =>
        let s1 := s.setPra { s.pra with holder := some h, startQueue := rest }
        setArbiter .connecting (placeConverter (.convConnect (s.unit h).addr) s1)
      enterTimed h .pRunup e1
  else e

/-- Entry into P_CONVWAIT: the unit joins the tail of the start queue and the grant rule is applied (R155). -/
def joinStartQueue (u : UnitNo) (e : Ev) : Ev :=
  grantConverter ((enterTimed u .pConvwait e).map fun s =>
    s.setPra { s.pra with startQueue := s.pra.startQueue ++ [u] })

/-- Everything the unit holds or waits for is given up: waits, waterway lock, converter grant (R125, R139, R142). -/
def giveUp (u : UnitNo) (e : Ev) : Ev := endGrant u (releaseLock u (leaveWaits u e))

-- Stop, trip, local command -------------------------------------------------------------------------------

/-- Entry into STOPPING: STOP placed, then what the unit holds is given up (R125, R149). -/
def enterStopping (u : UnitNo) (e : Ev) : Ev :=
  giveUp u ((enterTimed u .stopping e).setSeq u fun q => { q with minRun := none, linger := none })

/-- Entry into STOPPING with a UNIT_STATE of this cause (R126, R134, R143). -/
def stopWithReport (u : UnitNo) (c : Cause) (e : Ev) : Ev :=
  (enterStopping u e).map (pushUnitState u (e.state u) .stopping c)

/-- The stage, min-run, min-still and linger timers stop (R139, R142). -/
def Seq.stopTimers (q : Seq) : Seq := { q with stageTimer := none, minRun := none, minStill := none, linger := none }

/-- Entry into TRIPPED; `stop` places STOP before it (R139). -/
def enterTripped (u : UnitNo) (c : Cause) (stop : Bool) (e : Ev) : Ev :=
  let e1 := if stop then e.map (placeStage u .stop) else e
  let e2 := (moveTo u .tripped e1).setSeq u Seq.stopTimers
  ((giveUp u e2).map (pushUnitState u (e.state u) .tripped c)).trigger true

/-- Entry into LOCAL: timers stopped, resources given up, the waiting stage command withdrawn (R142). DEDUCED (log entry
34): the plan entry, an auto unit's under a hold plan too, stays as last written, since R86 names no writer for it. -/
def enterLocal (u : UnitNo) (e : Ev) : Ev :=
  let e1 := (moveTo u .localCmd e).setSeq u Seq.stopTimers
  (((giveUp u e1).map (withdrawStage u)).map (pushUnitState u (e.state u) .localCmd .remoteLoss)).trigger true

-- Setpoint at entry into G_ON -----------------------------------------------------------------------------

/-- The current setpoint set from the measured power in a band that allows turbine (R167, R179). -/
def initSetpoint (u : UnitNo) (s : State) : State :=
  match s.turbineBand u with
  | some b =>
    let v := b.clamp (s.image u).power
    placeSetpoint u v (s.setRamp u { s.ramp u with setpoint := some v })
  | none => s

-- Acting on the plan (R117, R126 to R131) -----------------------------------------------------------------

/-- A unit may be kept spinning in air: linger above 0, AIR active, LOCKOUT inactive, both markers clear (R129,
R131). -/
def mayLinger (u : UnitNo) (s : State) : Bool :=
  let p := (s.image u).perm
  decide (0 < (s.unit u).linger) && p.air.val && !p.lockout.val && !(s.seq u).pendLockout && !(s.entry u).forcedOut

/-- A STILL sequencer is free to start (R128). -/
def freeToStart (u : UnitNo) (s : State) : Bool :=
  !(s.seq u).minStill.running && !(s.image u).perm.lockout.val && !(s.seq u).pendLockout

/-- Lingering in air with STILL planned: the linger timer starts, or the unit stops at once (R131). -/
def lingerOrStop (u : UnitNo) (e : Ev) : Ev :=
  if mayLinger u e.s then e.setSeq u fun q => { q with linger := some (e.s.unit u).linger } else enterStopping u e

/-- Stops the linger timer and stays in air (R130). -/
def stopLinger (u : UnitNo) (e : Ev) : Ev := e.setSeq u fun q => { q with linger := none }

/-- A sequencer in a stable state acts on its planned mode (R128 to R131). -/
def actStable (u : UnitNo) (e : Ev) : Ev :=
  match e.state u, (e.s.entry u).mode with
  | .still, .still => e
  | .still, .gen => if freeToStart u e.s then enterLockwait u .gLockwait .still e else e
  | .still, .genAir => if freeToStart u e.s then enterLockwait u .gLockwait .still e else e
  | .still, .pump => if freeToStart u e.s then enterTimed u .pDewater e else e
  | .still, .pumpAir => if freeToStart u e.s then enterTimed u .pDewater e else e
  | .gOn, .gen => e
  | .gOn, .genAir => enterTimed u .gUnload e
  | .gOn, .still => if mayLinger u e.s then enterTimed u .gUnload e else enterStopping u e
  | .gOn, .pump => enterStopping u e
  | .gOn, .pumpAir => enterStopping u e
  | .pOn, .pump => e
  | .pOn, .pumpAir => enterTimed u .pUnload e
  | .pOn, .still => if mayLinger u e.s then enterTimed u .pUnload e else enterStopping u e
  | .pOn, .gen => enterStopping u e
  | .pOn, .genAir => enterStopping u e
  | .gAir, .gen => enterLockwait u .gLockwait .air e
  | .gAir, .genAir => stopLinger u e
  | .gAir, .still => lingerOrStop u e
  | .gAir, .pump => enterStopping u e
  | .gAir, .pumpAir => enterStopping u e
  | .pAir, .pump => enterLockwait u .pLockwait .air e
  | .pAir, .pumpAir => stopLinger u e
  | .pAir, .still => lingerOrStop u e
  | .pAir, .gen => enterStopping u e
  | .pAir, .genAir => enterStopping u e
  | _, _ => e

/-- A start path continues for the planned mode (R126, R127). -/
def continues (n : SeqState) (o : Origin) (m : PlanMode) : Bool :=
  match n, o, m with
  | .gLockwait, .air, .gen => true
  | .gLockwait, .air, _ => false
  | .gLockwait, _, .gen => true
  | .gLockwait, _, .genAir => true
  | .pLockwait, _, .pump => true
  | .gRunup, _, .gen => true
  | .gRunup, _, .genAir => true
  | .gSync, _, .gen => true
  | .gSync, _, .genAir => true
  | .gLoad, _, .gen => true
  | .gLoad, _, .genAir => true
  | .pDewater, _, .pump => true
  | .pDewater, _, .pumpAir => true
  | .pConvwait, _, .pump => true
  | .pConvwait, _, .pumpAir => true
  | .pRunup, _, .pump => true
  | .pRunup, _, .pumpAir => true
  | .pPrime, _, .pump => true
  | .pPrime, _, .pumpAir => true
  | _, _, _ => false

/-- The state that a lock wait returns to (R127, R133). -/
def returnState (n : SeqState) (o : Origin) : SeqState :=
  match n, o with
  | .pLockwait, _ => .pAir
  | _, .air => .gAir
  | _, _ => .still

/-- A lock wait returns to its origin with a UNIT_STATE of this cause (R127, R133). -/
def returnToOrigin (u : UnitNo) (c : Cause) (e : Ev) : Ev :=
  let n := returnState (e.state u) (e.s.seq u).origin
  (moveTo u n (leaveWaits u e)).map (pushUnitState u (e.state u) n c)

/-- The states in which a start is abandoned through STOPPING (R126). -/
def SeqState.rotating : SeqState → Bool
  | .gRunup => true
  | .gSync => true
  | .gLoad => true
  | .pDewater => true
  | .pConvwait => true
  | .pRunup => true
  | .pPrime => true
  | _ => false

/-- A sequencer acts on its planned mode (R117). Entries made here are not allocation triggers (R84). -/
def act (u : UnitNo) (e : Ev) : Ev :=
  let n := e.state u
  if n.stable then actStable u e
  else if continues n (e.s.seq u).origin (e.s.entry u).mode then e
  else if n = .gLockwait ∨ n = .pLockwait then actStable u (returnToOrigin u .returned e)
  else if n.rotating then stopWithReport u .abandoned e
  else e

-- Adoption (R114, R115) -----------------------------------------------------------------------------------

/-- The state in which a sequencer adopts its unit (R115). -/
def adoptedState (i : Image) : SeqState :=
  if !i.perm.remote.val then .localCmd
  else if i.stage = some .trip ∨ i.fault ≠ 0 then .tripped
  else match i.stage with
    | some .still => .still
    | some .turbOn => .gOn
    | some .turbAir => .gAir
    | some .pumpAir => .pAir
    | some .pumpOn => .pOn
    | _ => .unsettled

/-- A sequencer adopts its unit from the image, and acts once the adopting event has been taken (R115, R116). DESIGN
CHOICE (log entry 6): an adoption into TRIPPED is reported with cause ADOPTED, as R115 and R144 say. DEDUCED (log entry
34): an auto unit too acts on its entry as last written, which R116 calls STILL. -/
def adopt (u : UnitNo) (e : Ev) : Ev :=
  let i := e.s.image u
  let before := e.state u
  let n := adoptedState i
  let e0 := (moveTo u n e).setSeq u fun q =>
    { q.stopTimers with pendLockout := i.perm.lockout.val && n != .still }
  let e1 := if n = .localCmd then e0.map (withdrawStage u) else e0
  let e2 := if n = before then e1
    else e1.map (pushUnitState u before n (if n = .localCmd then .remoteLoss else .adopted))
  let e3 := if n = .gOn then e2.map (initSetpoint u) else e2
  (e3.trigger (n.triggers || (before == .unsettled && n != .unsettled))).addDue u

-- Arrivals by progress (R119 to R125) ---------------------------------------------------------------------

/-- Entry into G_ON or P_ON: lock released, min-run started, reported, setpoint set, then acting (R120, R124, R167).
DESIGN CHOICE (log entry 33): the stage command of the unit that the released lock passes to is placed before the
SETPOINT of this entry. -/
def arriveOn (u : UnitNo) (n : SeqState) (e : Ev) : Ev :=
  let e1 := releaseLock u (moveTo u n e)
  let e2 := e1.setSeq u fun q => { q with minRun := some (e.s.unit u).minRun }
  let e3 := e2.map (pushUnitState u (e.state u) n .reached)
  let e4 := if n = .gOn then e3.map (initSetpoint u) else e3
  actStable u (e4.trigger true)

/-- Entry into G_AIR or P_AIR: a converter grant held ends, reported, then acting (R122, R123). -/
def arriveAir (u : UnitNo) (n : SeqState) (e : Ev) : Ev :=
  actStable u ((endGrant u (moveTo u n e)).map (pushUnitState u (e.state u) n .reached))

/-- Entry into STILL from STOPPING: min-still started, reported, then acting (R125). -/
def arriveStill (u : UnitNo) (e : Ev) : Ev :=
  let e1 := (moveTo u .still e).setSeq u fun q => { q with minStill := some (e.s.unit u).minStill }
  actStable u ((e1.map (pushUnitState u (e.state u) .still .reached)).trigger true)

/-- The awaited stage advances the sequencer along its path (R119 to R125). -/
def advance (u : UnitNo) (e : Ev) : Ev :=
  match e.state u with
  | .gRunup => enterTimed u .gSync e
  | .gSync => arriveOn u .gOn e
  | .gLoad => arriveOn u .gOn e
  | .gUnload => arriveAir u .gAir e
  | .pDewater => joinStartQueue u e
  | .pRunup => arriveAir u .pAir e
  | .pPrime => arriveOn u .pOn e
  | .pUnload => arriveAir u .pAir e
  | .stopping => arriveStill u e
  | _ => e

-- Taking what a UNIT_STATUS hands over (R136 to R140) -----------------------------------------------------

/-- A stage and fault code in a timed state: the first row that applies (R136). -/
def takeTimed (u : UnitNo) (st : Stage) (fault : Byte) (e : Ev) : Ev :=
  let q := e.s.seq u
  if st = .trip ∨ fault ≠ 0 then enterTripped u .unitFault false e
  else if q.state.awaited = some st then advance u e
  else if q.prior = some st then e
  else if q.state = .stopping ∧ (st = .stopping ∨ st = .dry) then e
  else enterTripped u .sequence true e

/-- A stage and fault code in a stable state (R137). -/
def takeStable (u : UnitNo) (st : Stage) (fault : Byte) (e : Ev) : Ev :=
  if st = .trip ∨ fault ≠ 0 then enterTripped u .unitFault false e
  else if (e.state u).ownStage = some st then e
  else enterTripped u .sequence false e

/-- A stage is one of the stable stages (Introduction, Stable stage). -/
def Stage.stable : Stage → Bool
  | .still => true
  | .turbOn => true
  | .turbAir => true
  | .pumpAir => true
  | .pumpOn => true
  | .turbSpin => false
  | .dry => false
  | .stopping => false
  | .trip => false

/-- An UNSETTLED sequencer adopts at a stable stage, TRIP or a fault code (R114). -/
def takeUnsettled (u : UnitNo) (st : Stage) (fault : Byte) (e : Ev) : Ev :=
  if st.stable ∨ st = .trip ∨ fault ≠ 0 then adopt u e else e

/-- The stage and fault code handed to a sequencer (R114, R136, R137). -/
def takeStage (u : UnitNo) (st : Stage) (fault : Byte) (e : Ev) : Ev :=
  let n := e.state u
  if n.stable then takeStable u st fault e
  else if n.transition ∨ n = .stopping then takeTimed u st fault e
  else if n = .unsettled then takeUnsettled u st fault e
  else e

/-- A change of the debounced REMOTE (R114, R142). -/
def takeRemote (u : UnitNo) (active : Bool) (e : Ev) : Ev :=
  let n := e.state u
  if active then
    if n = .localCmd ∧ e.s.dse.engine ≠ .paused then adopt u e else e
  else if n = .dormant ∨ n = .tripped ∨ n = .localCmd then e
  else enterLocal u e

/-- A change of the debounced LOCKOUT (R140). DEDUCED (log entry 8): a sequencer that adopted in the same event acts
once, at the end of the event (R116). -/
def takeLockout (u : UnitNo) (active : Bool) (e : Ev) : Ev :=
  let n := e.state u
  if n = .dormant then e
  else if active then
    if n = .still then e
    else
      let e1 := e.setSeq u fun q => { q with pendLockout := true }
      if (n = .gAir ∨ n = .pAir) ∧ (e.s.seq u).linger.isSome then enterStopping u e1 else e1
  else
    let e1 := e.setSeq u fun q => { q with pendLockout := false }
    if n = .still ∧ u ∉ e.due then actStable u e1 else e1

end Sys2Proof.Machine
end

