-- ==== Sys2Proof/Machine/Allocator.lean ====
section
/-! DEFINITION. An allocation run: classification (R90 to R95), candidate order (R96), pumps (R99, R100), generators
(R101), shares (R102, R103), and the writing of the plan and its summary (R104, R105). -/

namespace Sys2Proof.Machine

-- Classification ------------------------------------------------------------------------------------------

/-- A stale unit whose sequencer is in a stable state (R90). -/
def staleStable (s : State) (u : UnitNo) : Bool := (s.image u).stale && (s.seq u).state.stable

/-- The unit is EXCLUDED (R90). -/
def excluded (s : State) (u : UnitNo) : Bool :=
  let n := (s.seq u).state
  !(s.unit u).present || (s.image u).identity != .verified || s.assignOf u == .manual ||
    n == .localCmd || n == .tripped || n == .dormant || n == .unsettled || staleStable s u

/-- An EXCLUDED unit's contribution to the external power: the first row that applies (R91). -/
def contribution (s : State) (u : UnitNo) : Int :=
  let n := (s.seq u).state
  let i := s.image u
  if !(s.unit u).present || i.identity != .verified then 0
  else if n = .tripped then 0
  else if n = .localCmd ∨ n = .unsettled ∨ staleStable s u then i.power
  else if s.assignOf u = .manual then
    match (s.entry u).mode with
    | .gen => (((s.entry u).share.getD 0 : Nat) : Int)
    | .pump => match s.bandOf u with
      | some b => -(b.ppump : Int)
      | none => 0
    | .still => 0
    | .genAir => 0
    | .pumpAir => 0
  else 0

/-- The external power E (R91). -/
def externalPower (s : State) : Int := ((UnitNo.all.filter (excluded s)).map (contribution s)).sum

/-- The unit is FORCED_OUT (R92). -/
def forcedOut (s : State) (u : UnitNo) : Bool :=
  let n := (s.seq u).state
  !excluded s u && ((n.genSide && (s.turbineBand u).isNone) || (n.pumpSide && (s.pumpBand u).isNone))

/-- The unit is HELD (R93). -/
def heldUnit (s : State) (u : UnitNo) : Bool :=
  let q := s.seq u
  !excluded s u && !forcedOut s u && (q.state == .gOn || q.state == .pOn) && q.minRun.running

/-- A unit in STILL is blocked for both directions (R94). -/
def blockedStill (s : State) (u : UnitNo) : Bool :=
  let q := s.seq u
  let p := (s.image u).perm
  q.minStill.running || p.lockout.val || q.pendLockout || !p.ready.val || (s.bandOf u).isNone

/-- The unit is BLOCKED for GEN (R94). -/
def blockedGen (s : State) (u : UnitNo) : Bool :=
  let n := (s.seq u).state
  n == .stopping || (n == .still && blockedStill s u) || (s.turbineBand u).isNone

/-- The unit is BLOCKED for PUMP (R94). -/
def blockedPump (s : State) (u : UnitNo) : Bool :=
  let n := (s.seq u).state
  n == .stopping || (n == .still && (blockedStill s u || !(s.image u).perm.air.val)) || (s.pumpBand u).isNone

/-- The unit is not EXCLUDED, FORCED_OUT or HELD. -/
def classedByDirection (s : State) (u : UnitNo) : Bool := !excluded s u && !forcedOut s u && !heldUnit s u

/-- The unit is FREE for GEN (R95). -/
def freeGen (s : State) (u : UnitNo) : Bool := classedByDirection s u && !blockedGen s u

/-- The unit is FREE for PUMP (R95). -/
def freePump (s : State) (u : UnitNo) : Bool := classedByDirection s u && !blockedPump s u

-- Candidate order (R96) -----------------------------------------------------------------------------------

/-- Those preferred first, then the others, each in list order (R96). -/
def preferredFirst (pref : UnitNo → Bool) (l : List UnitNo) : List UnitNo :=
  l.filter pref ++ l.filter fun u => !pref u

/-- The GEN candidates (R96). -/
def genCandidates (s : State) : List UnitNo :=
  preferredFirst (fun u => (s.seq u).state.genSide) (s.tbs.meritGen.filter (freeGen s))

/-- The PUMP candidates (R96). -/
def pumpCandidates (s : State) : List UnitNo :=
  preferredFirst (fun u => (s.seq u).state.pumpSide) (s.tbs.meritPump.filter (freePump s))

-- The computation (R97 to R103) ---------------------------------------------------------------------------

/-- A field of the unit's present band, 0 when it has none. -/
def bandField (s : State) (f : Band → Nat) (u : UnitNo) : Nat :=
  match s.bandOf u with
  | some b => f b
  | none => 0

/-- The sum of a band field over units. -/
def sumField (s : State) (f : Band → Nat) (l : List UnitNo) : Nat := (l.map (bandField s f)).sum

/-- The held generators, in ascending unit number (R98). -/
def heldGens (s : State) : List UnitNo := UnitNo.all.filter fun u => heldUnit s u && (s.seq u).state == .gOn

/-- The held pumps (R98). -/
def heldPumps (s : State) : List UnitNo := UnitNo.all.filter fun u => heldUnit s u && (s.seq u).state == .pOn

/-- The auto target A (R98). -/
def autoTarget (s : State) : Int := s.dse.standing.order.target - externalPower s

/-- Sum(k): the pumping of the held pumps and the first k PUMP candidates (R99). -/
def pumpSum (s : State) (k : Nat) : Int :=
  ((sumField s Band.ppump (heldPumps s) + sumField s Band.ppump ((pumpCandidates s).take k) : Nat) : Int)

/-- Q, the pumping the plan seeks (R99). -/
def pumpSought (s : State) : Int := (sumField s Band.gmin (heldGens s) : Int) - autoTarget s

/-- k_up: the smallest k with Sum(k) at least Q, where one exists (R99). -/
def kUp (s : State) : Option Nat :=
  (List.range ((pumpCandidates s).length + 1)).find? fun k => decide (pumpSought s ≤ pumpSum s k)

/-- The number of PUMP candidates committed when A is negative (R100). -/
def pumpCount (s : State) : Nat :=
  match kUp s with
  | none => (pumpCandidates s).length
  | some 0 => 0
  | some (k + 1) =>
    if s.tbs.plant.shortCircuit then k + 1
    else if pumpSum s (k + 1) - pumpSought s < pumpSought s - pumpSum s k then k + 1
    else k

/-- S_p, the units committed to pump (R98 to R100). -/
def committedPumps (s : State) : List UnitNo :=
  if autoTarget s < 0 then heldPumps s ++ (pumpCandidates s).take (pumpCount s) else heldPumps s

/-- R, the power left to the generators (R101). -/
def residual (s : State) : Int := autoTarget s + (sumField s Band.ppump (committedPumps s) : Int)

/-- Candidates join in turn while the sum of Gmax is below R (R101). -/
def addGens (s : State) (r : Int) : List UnitNo → List UnitNo → List UnitNo
  | sg, [] => sg
  | sg, u :: rest => if (sumField s Band.gmax sg : Int) < r then addGens s r (sg ++ [u]) rest else sg

/-- S_g in commitment order (R98, R101). -/
def committedGens (s : State) : List UnitNo :=
  let r := residual s
  if 0 < r ∧ (0 ≤ autoTarget s ∨ s.tbs.plant.shortCircuit) then
    addGens s r (heldGens s) ((genCandidates s).filter fun u => u ∉ committedPumps s)
  else heldGens s

/-- R': R brought into [sum of Gmin, sum of Gmax] (R102). -/
def boundedResidual (s : State) : Nat :=
  let g := sumField s Band.gmax (committedGens s)
  let fg := sumField s Band.gmin (committedGens s)
  if residual s < fg then fg else if (g : Int) < residual s then g else (residual s).toNat

/-- The proportional shares with the remainder of 1 each to the first units in commitment order (R102). -/
def rawShares (s : State) : List (UnitNo × Int) :=
  let sg := committedGens s
  let g := sumField s Band.gmax sg
  let floors := sg.map fun u => boundedResidual s * bandField s Band.gmax u / g
  let r := boundedResidual s - floors.sum
  (sg.zip floors).zipIdx.map fun x => (x.1.1, ((x.1.2 + if x.2 < r then 1 else 0 : Nat) : Int))

/-- Clamp-and-carry over the shares in commitment order (R103). -/
def clampCarry (s : State) (c : Int) : List (UnitNo × Int) → List (UnitNo × Nat)
  | [] => []
  | (u, si) :: rest =>
    let v := match s.bandOf u with
      | some b => b.clamp (si + c)
      | none => 0
    (u, v) :: clampCarry s (si + c - v) rest

/-- The shares of S_g (R102, R103). -/
def shares (s : State) : List (UnitNo × Nat) := clampCarry s 0 (rawShares s)

-- Writing the plan (R91, R104, R105) ----------------------------------------------------------------------

/-- The entry a run writes for a unit; a manual unit's entry is left as it is (R91, R104). -/
def plannedEntry (s : State) (gens : List (UnitNo × Nat)) (pumps : List UnitNo) (u : UnitNo) : Entry :=
  if s.assignOf u = .manual then s.entry u
  else
    let still : Entry :=
      { mode := .still, share := none, cls := s.dse.standing.order.cls, forcedOut := false, originId := 0,
        originSrc := 0 }
    match gens.lookup u with
    | some v => { still with mode := .gen, share := some v }
    | none => if u ∈ pumps then { still with mode := .pump } else { still with forcedOut := forcedOut s u }

/-- The summary of a run (R105). -/
def planSummary (s : State) (gens : List (UnitNo × Nat)) (pumps : List UnitNo) : Summary :=
  let total := ((gens.map Prod.snd).sum : Int) - (sumField s Band.ppump pumps : Int) + externalPower s
  { genCount := gens.length, pumpCount := pumps.length, total, deviation := total - s.dse.standing.order.target }

/-- The plan record that a run computes from the state (R88). -/
def plan (s : State) : Alc :=
  let gens := shares s
  let pumps := committedPumps s
  { entries := .ofFn (plannedEntry s gens pumps), summary := planSummary s gens pumps }

/-- An allocation run: the plan record is written, and the summary copied into the standing order record (R88,
R89). -/
def allocate (s : State) : State :=
  let p := plan s
  { s with alc := p, dse := { s.dse with standing := { s.dse.standing with summary := p.summary } } }

end Sys2Proof.Machine
end

