-- ==== Sys2Proof/Machine/Engine.lean ====
section
/-! DEFINITION. How an event ends: the allocation run its triggers call for (R84, R85, R89), the sequencers that act on
the plan (R117), the settling check (R82); with them the taking of a NET_POWER order (R72), frozen and hold plans
(R79, R83, R87), and band changes (R107 to R111, R178, R179). -/

namespace Sys2Proof.Machine

-- Reports of the standing order ---------------------------------------------------------------------------

/-- An ORDER_RESULT about a NET_POWER order (R70). -/
def orderResultOf (o : Order) (code : OrderCode) (m : Option Summary) : Report :=
  .orderResult o.src o.id subNetPower code 0 m

/-- An ORDER_STATE about the standing order (R70). -/
def orderStateOf (r : Standing) (st : OrderState) : Report := .orderState r.order.src r.order.id st r.order.target r.summary

/-- The standing order record is written. -/
def setStanding (r : Standing) (s : State) : State := s.setDse { s.dse with standing := r }

/-- The standing order's state is written. -/
def setOrderState (st : OrderState) (s : State) : State := setStanding { s.dse.standing with state := st } s

-- Settling (R82) ------------------------------------------------------------------------------------------

/-- The conditions of the settling check on one unit; manual units and units not present are not examined (R82). -/
def unitSettled (s : State) (u : UnitNo) : Bool :=
  let n := (s.seq u).state
  if !(s.unit u).present || s.assignOf u == .manual then true
  else
    (match (s.entry u).mode with
      | .gen => n == .gOn
      | .pump => n == .pOn
      | .still => n == .still || n == .tripped || n == .localCmd
      | .genAir => true
      | .pumpAir => true) &&
    (n != .gOn || (s.ramp u).setpoint == (s.entry u).share)

/-- The settling check: in RUNNING with the record ACTIVE, a check that passes makes it SETTLED (R81, R82). -/
def settleCheck (s : State) : State :=
  if s.dse.engine = .running ∧ s.dse.standing.state = .active ∧ UnitNo.all.all (unitSettled s) then
    pushReport (orderStateOf s.dse.standing .settled) (setOrderState .settled s)
  else s

-- Acting on a plan just written (R89, R117, R131) ---------------------------------------------------------

/-- One sequencer's turn: it acts when its planned mode changed or the event owes it an action, and stops lingering
when the forced-out marker is newly set on its STILL entry (R89, R117, R131). -/
def actTurn (old : PerUnit Entry) (e : Ev) (u : UnitNo) : Ev :=
  let was := old.get u
  let now := e.s.entry u
  if was.mode ≠ now.mode ∨ u ∈ e.due then act u e
  else if now.mode = .still ∧ now.forcedOut ∧ !was.forcedOut ∧ (e.s.seq u).linger.isSome ∧
      (e.state u = .gAir ∨ e.state u = .pAir) then enterStopping u e
  else e

/-- The sequencers act in ascending unit number (R89, R117). DEDUCED (log entry 13): those that the event owes an action
act in the same pass as those whose planned mode changed. -/
def actAll (old : PerUnit Entry) (e : Ev) : Ev := UnitNo.all.foldl (actTurn old) e

/-- The settling check where the event called for one; it is made last (R82, R89). -/
def closeSettling (e : Ev) : State := if e.settle then settleCheck e.s else e.s

/-- A run other than the one at a taking: the plan, REPLANNED, and the record ACTIVE again (R81, R85). -/
def replan (s : State) : State :=
  let s1 := setOrderState .active (allocate s)
  pushReport (orderResultOf s1.dse.standing.order .replanned (some s1.alc.summary)) s1

/-- The end of an event: its allocation run when a trigger was raised under a standing order, the sequencers' actions,
and the settling check (R84, R85, R89, R116). -/
def closeEvent (e : Ev) : State :=
  closeSettling (actAll e.s.alc.entries (if e.trig && e.s.orderStands then e.map replan else e))

-- Taking a NET_POWER order (R72) --------------------------------------------------------------------------

/-- A NET_POWER order is taken: record, allocation, results, guard, and the sequencers' actions (R72, R89). -/
def takeOrder (o : Order) (s : State) : State :=
  let before := s.dse.standing
  let s1 := allocate (setStanding { before with state := .active, order := o } s)
  let s2 := pushReport (orderResultOf o (if o.clamped then .clamped else .accepted) (some s1.alc.summary)) s1
  let s3 := if before.state = .none then s2 else pushReport (orderResultOf before.order .superseded none) s2
  let s4 := if 0 < s.tbs.plant.guardTime then s3.setDse { s3.dse with guardTmr := some s.tbs.plant.guardTime } else s3
  closeSettling (actAll s.alc.entries (.start s4))

-- Frozen plan and hold plan (R79, R83, R87) ---------------------------------------------------------------

/-- The entry a frozen plan or hold plan writes from a sequencer's state, with the band check of R87. -/
def heldEntry (s : State) (u : UnitNo) : Entry :=
  let still : Entry :=
    { mode := .still, share := none, cls := 0, forcedOut := false, originId := 0, originSrc := 0 }
  match (s.seq u).state with
  | .gOn =>
    if (s.turbineBand u).isSome then { still with mode := .gen, share := (s.ramp u).setpoint }
    else { still with forcedOut := true }
  | .gAir => { still with mode := .genAir }
  | .pAir => { still with mode := .pumpAir }
  | .pOn => if (s.pumpBand u).isSome then { still with mode := .pump } else { still with forcedOut := true }
  | _ => still

/-- Every entry, auto and manual, rewritten from its sequencer's state (R79, R83). -/
def holdPlan (s : State) : State := s.setAlc { s.alc with entries := .ofFn (heldEntry s) }

-- Band changes (R107 to R111, R178, R179) -----------------------------------------------------------------

/-- An entry forced out of the plan: STILL, no share, marker set (R107, R108). DEDUCED (log entry 10): rate class and
origin are kept, since R110 reports to the entry's origin. -/
def Entry.forceOut (e : Entry) : Entry := { e with mode := .still, share := none, forcedOut := true }

/-- The re-examined entry of a unit against its present band (R107, R108). -/
def reexamined (s : State) (u : UnitNo) : Entry :=
  let e := s.entry u
  match e.mode with
  | .gen => match s.turbineBand u with
    | some b => { e with share := e.share.map fun v => b.clamp v }
    | none => e.forceOut
  | .pump => if (s.pumpBand u).isSome then e else e.forceOut
  | .still => e
  | .genAir => e
  | .pumpAir => e

/-- The re-examination at a band change; a changed manual entry is reported, and is an allocation trigger (R110,
R111). -/
def reexamine (u : UnitNo) (e : Ev) : Ev :=
  let n := reexamined e.s u
  let e1 := e.map fun s => s.setEntry u n
  if n ≠ e.s.entry u ∧ e.s.assignOf u = .manual then
    (e1.map (pushReport (.manualReplan n.originSrc n.originId u n.mode n.share))).trigger true
  else e1

/-- The current setpoint at a band change of a unit in G_ON (R178, R179). -/
def reclampSetpoint (u : UnitNo) (s : State) : State :=
  if (s.seq u).state = .gOn then
    match s.turbineBand u, (s.ramp u).setpoint with
    | some b, some v =>
      let w := b.clamp v
      placeSetpoint u w (s.setRamp u { s.ramp u with setpoint := some w })
    | some _, none => initSetpoint u s
    | none, _ => s.setRamp u .idle
  else s

/-- A band change: the entry's re-examination, the setpoint's re-clamp, the sequencer's action on a changed planned
mode, and the allocation trigger of an auto unit (R84, R107, R111). DEDUCED (log entry 29): a sequencer that adopted in
the same event acts once, at the end of the event (R116). DEDUCED (log entry 31): the ORDER_RESULT of R110 is queued before
the UNIT_STATE of the sequencer's action. -/
def bandChange (u : UnitNo) (e : Ev) : Ev :=
  let e1 := (reexamine u e).map (reclampSetpoint u)
  let e2 := if (e1.s.entry u).mode = (e.s.entry u).mode ∨ u ∈ e.due then e1 else act u e1
  e2.trigger ((e.s.unit u).present && e.s.assignOf u == .auto)

/-- A present unit's band recomputed at a table write; `rewritten` says that the contents of this band of the unit's
profile were written, which counts as a band change of a unit that has it (R35). -/
def recomputeBand (u : UnitNo) (rewritten : Option (Fin 12)) (e : Ev) : Ev :=
  let i := e.s.image u
  let n := e.s.recomputed u i
  let e1 := e.map fun s => s.setImage u n
  let same : Bool := match rewritten, n.band with
    | some k, .num j => k == j
    | _, _ => false
  if n.band != i.band || same then bandChange u e1 else e1

end Sys2Proof.Machine
end

