-- ==== Sys2Proof/Machine/Ramp.lean ====
section
/-! DEFINITION. The ramp interval expiry: which units ramp (R166), their rates and moves (R169, R171, R172), rough-zone
crossings (R173), budget sharing (R174), crossing records (R175), the SETPOINTs (R170) and the SNAPSHOT (R191). -/

namespace Sys2Proof.Machine

/-- The unit ramps at this expiry (R166). -/
def ramps (s : State) (u : UnitNo) : Bool :=
  (s.unit u).present && (s.seq u).state == .gOn && (s.entry u).mode == .gen && (s.entry u).share.isSome &&
    (s.ramp u).setpoint.isSome

/-- The ramping units of a waterway, in ascending unit number (R166). -/
def rampingOn (s : State) (w : Waterway) : List UnitNo :=
  UnitNo.all.filter fun u => ramps s u && (s.unit u).waterway == w

/-- A ramping unit's current setpoint. -/
def curOf (s : State) (u : UnitNo) : Nat := (s.ramp u).setpoint.getD 0

/-- A ramping unit's share. -/
def shareOf (s : State) (u : UnitNo) : Nat := (s.entry u).share.getD 0

/-- The active rate class: that of the plan entry, as it stands at the expiry (R169). A hold plan writes class 0 (R83).
DEDUCED (log entry 30): a unit made AUTO under a hold plan, after a UNIT_MODE gave its entry another class, ramps at that
class, which its entry still has (R77). -/
def activeClass (s : State) (u : UnitNo) : Fin 4 := (s.entry u).cls

/-- The active rate: the profile's rate of the active rate class (R169, R31). -/
def activeRate (s : State) (u : UnitNo) : Nat := (s.profileOf u).rate (activeClass s u)

/-- The step limit (R171). -/
def stepLimit (s : State) (u : UnitNo) : Nat := max 1 (activeRate s u * s.tbs.plant.ti / 10)

/-- The waterway's budget for the interval, Bw (R171). -/
def intervalBudget (s : State) (w : Waterway) : Nat := s.tbs.budgets.get w * s.tbs.plant.ti / 10

/-- The distance to the share within the step limit (R172, step 1). -/
def distance (cur share step : Nat) : Nat := min (if cur ≤ share then share - cur else cur - share) step

/-- The zone approach: a move that would pass the near edge of a zone lying between cur and share ends on that edge
(R172, step 2). DEDUCED (log entry 16): a move that would land exactly on the far edge is shortened too, since R172
gives a unit on the near edge a move of 0, and R174 relies on the shortening. -/
def approach (b : Band) (cur share d : Nat) : Nat :=
  if b.hasZone then
    if cur < share ∧ cur ≤ b.rzlo ∧ b.rzhi ≤ share ∧ b.rzlo < cur + d then b.rzlo - cur
    else if share < cur ∧ b.rzhi ≤ cur ∧ share ≤ b.rzlo ∧ cur < b.rzhi + d then cur - b.rzhi
    else d
  else d

/-- The desired move d_i of a ramping unit (R172). -/
def desiredMove (s : State) (u : UnitNo) : Nat :=
  let d := distance (curOf s u) (shareOf s u) (stepLimit s u)
  match s.bandOf u with
  | some b => approach b (curOf s u) (shareOf s u) d
  | none => d

/-- The far edge a unit crosses to, when it stands on one edge of its zone with its share on the far side (R173). -/
def farEdge (b : Band) (cur share : Nat) : Option Nat :=
  if b.hasZone then
    if cur = b.rzlo ∧ b.rzhi ≤ share then some b.rzhi
    else if cur = b.rzhi ∧ share ≤ b.rzlo then some b.rzlo
    else none
  else none

/-- The far edge of a crossing candidate; none when the unit is no candidate (R173). -/
def crossingTo (s : State) (u : UnitNo) : Option Nat :=
  (s.bandOf u).bind fun b => farEdge b (curOf s u) (shareOf s u)

/-- The unit of the waterway that crosses: the candidate with the lowest unit number (R173). -/
def crosser (s : State) (w : Waterway) : Option UnitNo := (rampingOn s w).find? fun u => (crossingTo s u).isSome

/-- Grants within the budget: floor(d × Bw / D), and the remainder handed out one at a time to moves above 0 (R174). -/
def grants (total budget : Nat) : Nat → List Nat → List Nat
  | _, [] => []
  | r, d :: rest =>
    if 0 < d ∧ 0 < r then (d * budget / total + 1) :: grants total budget (r - 1) rest
    else (d * budget / total) :: grants total budget r rest

/-- The moves made on a waterway without a crossing (R174). -/
def sharedMoves (budget : Nat) (ds : List Nat) : List Nat :=
  if ds.sum ≤ budget then ds
  else grants ds.sum budget (budget - (ds.map fun d => d * budget / ds.sum).sum) ds

/-- A setpoint moved toward its share. -/
def moved (cur share m : Nat) : Nat := if cur ≤ share then cur + m else cur - m

/-- The new setpoints of a waterway's ramping units (R173, R174). -/
def steppedOn (s : State) (w : Waterway) : List (UnitNo × Nat) :=
  let us := rampingOn s w
  match crosser s w with
  | some x => us.map fun u => (u, if u = x then (crossingTo s u).getD (curOf s u) else curOf s u)
  | none =>
    (us.zip (sharedMoves (intervalBudget s w) (us.map (desiredMove s)))).map fun m =>
      (m.1, moved (curOf s m.1) (shareOf s m.1) m.2)

/-- The crossing record the expiry writes for a waterway (R175). -/
def crossingRecord (s : State) (w : Waterway) : Crossing :=
  let us := rampingOn s w
  match crosser s w with
  | some x =>
    let b := (s.bandOf x).getD .cold
    { outcome := .crossed, unit := some x, requested := ((us.filter fun u => u != x).map (desiredMove s)).sum,
      moved := b.rzhi - b.rzlo }
  | none =>
    let d := (us.map (desiredMove s)).sum
    if d = 0 then .idle
    else if d ≤ intervalBudget s w then { outcome := .within, unit := none, requested := d, moved := d }
    else { outcome := .scaled, unit := none, requested := d, moved := intervalBudget s w }

/-- A unit's ramp state after the stepping: its new setpoint and the rate used (R164, R175). -/
def steppedRamp (s : State) (u : UnitNo) : RampUnit :=
  if ramps s u then
    { s.ramp u with
      setpoint := some (((steppedOn s (s.unit u).waterway).lookup u).getD (curOf s u))
      rate := some (activeRate s u) }
  else s.ramp u

/-- The stepping of both waterways (R170, step 1). -/
def stepSetpoints (s : State) : State :=
  s.setRmp { s.rmp with
    units := .ofFn (steppedRamp s)
    crossings := { w1 := crossingRecord s .w1, w2 := crossingRecord s .w2 } }

/-- A SETPOINT with the unit's current setpoint, when the expiry changed it (R170, step 2). -/
def placeIfChanged (before : State) (s : State) (u : UnitNo) : State :=
  match (s.ramp u).setpoint with
  | some v => if (before.ramp u).setpoint = some v then s else placeSetpoint u v s
  | none => s

/-- A SNAPSHOT: both parts placed together, or both discarded and REPORT_LOST raised once; its number rises (R191).
DESIGN CHOICE (log entry 17): the cells carry the number as it stood before it rises. -/
def queueSnapshot (s : State) : State :=
  let n := s.rpb.snapshot
  let s1 := s.setRpb { s.rpb with snapshot := n + 1 }
  if s.rpb.queue.length + 2 ≤ Config.reportCapacity then
    s1.setRpb { s1.rpb with
      queue := s1.rpb.queue ++
        [.snapshot (snapshotPart s n 1 .u1 .u2 .u3 .w1), .snapshot (snapshotPart s n 2 .u4 .u5 .u6 .w2)] }
  else raiseFlag .reportLost s1

/-- The ramp interval timer starts with Ti (R165). -/
def startRampTimer (s : State) : State := s.setRmp { s.rmp with timer := some s.tbs.plant.ti }

/-- The stepping in RUNNING, its SETPOINTs and the settling check (R170). -/
def rampRunning (s : State) : State := settleCheck (UnitNo.all.foldl (placeIfChanged s) (stepSetpoints s))

/-- An expiry of the running ramp interval timer (R170, R176). -/
def rampExpiry (s : State) : State :=
  let s1 := startRampTimer s
  let s2 := if s1.dse.engine = .running then rampRunning s1 else s1
  if s2.dse.trace then queueSnapshot s2 else s2

end Sys2Proof.Machine
end

