-- ==== Sys2Proof/Machine/Orders.lean ====
section
/-! DEFINITION. The orders, taken by the Dispatch Engine (R70 to R80), and the guard expiry (R74). -/

namespace Sys2Proof.Machine

/-- The ORDER_RESULT that answers an order at its arrival, without a plan summary (R70). -/
def orderAnswer (h : Hdr) (id : Half) (sub : Byte) (code : OrderCode) (unit : Byte) : Report :=
  .orderResult h.src id sub code unit none

/-- The present unit with this number (R75, R77, R78). -/
def presentUnit (unit : Byte) (s : State) : Option UnitNo :=
  (UnitNo.ofNumber unit.toNat).filter fun u => (s.unit u).present

-- NET_POWER (R71 to R74) ----------------------------------------------------------------------------------

/-- An order goes to the deferred slot (R73). -/
def deferOrder (o : Order) (s : State) : State :=
  let s1 := pushReport (orderResultOf o .deferred none) (s.setDse { s.dse with deferred := some o })
  match s.dse.deferred with
  | some d => pushReport (orderResultOf d .superseded none) s1
  | none => s1

/-- NET_POWER (R71). -/
def takeNetPower (h : Hdr) (id target : Half) (cls : Byte) (s : State) : State :=
  let o := Order.ofFields id target cls h.src
  if s.dse.engine ≠ .running then pushReport (orderAnswer h id subNetPower .refusedState 0) s
  else if s.dse.guardTmr.isSome then deferOrder o s
  else takeOrder o s

/-- The guard timer expires: it stops, and a deferred order is taken (R74). -/
def guardExpired (s : State) : State :=
  match s.dse.deferred with
  | some o => takeOrder o (s.setDse { s.dse with guardTmr := none, deferred := none })
  | none => s.setDse { s.dse with guardTmr := none }

-- UNIT_MODE (R75, R76) ------------------------------------------------------------------------------------

/-- The planned mode a UNIT_MODE gives: an unknown code is STILL (R75). -/
def orderedMode (mode : Byte) : PlanMode := (PlanMode.ofCode mode).getD .still

/-- Check 4 of R75. -/
def modeBandRefused (s : State) (u : UnitNo) (m : PlanMode) : Bool :=
  (m == .gen && (s.turbineBand u).isNone) || (m == .pump && (s.pumpBand u).isNone)

/-- The share a UNIT_MODE stores (R76). -/
def orderedShare (s : State) (u : UnitNo) (m : PlanMode) (setpoint : Half) : Option Nat :=
  if m = .gen then (s.turbineBand u).map fun b => b.clamp setpoint.toInt else none

/-- The entry an accepted UNIT_MODE writes, its origin the order (R76, R86). -/
def orderedEntry (s : State) (h : Hdr) (id : Half) (u : UnitNo) (m : PlanMode) (setpoint : Half) (cls : Byte) : Entry :=
  { mode := m, share := orderedShare s u m setpoint, cls := rateClass cls, forcedOut := false, originId := id,
    originSrc := h.src }

/-- The result of an accepted UNIT_MODE (R75, R76). -/
def modeResult (mode : Byte) (share : Option Nat) (setpoint : Half) : OrderCode :=
  if (PlanMode.ofCode mode).isNone || share.any (fun v => (v : Int) != setpoint.toInt) then .clamped else .accepted

/-- An accepted UNIT_MODE: entry, result, the sequencer's action on a changed planned mode, and the run (R76, R84).
DEDUCED (log entry 18): the ORDER_RESULT precedes the sequencer's UNIT_STATE. -/
def acceptUnitMode (h : Hdr) (id : Half) (unit mode : Byte) (setpoint : Half) (cls : Byte) (u : UnitNo) (s : State) :
    State :=
  let n := orderedEntry s h id u (orderedMode mode) setpoint cls
  let s1 := pushReport (orderAnswer h id subUnitMode (modeResult mode n.share setpoint) unit) (s.setEntry u n)
  let e := if (s.entry u).mode = n.mode then Ev.start s1 else act u (.start s1)
  closeEvent (e.trigger true)

/-- UNIT_MODE (R75). -/
def takeUnitMode (h : Hdr) (id : Half) (unit mode : Byte) (setpoint : Half) (cls : Byte) (s : State) : State :=
  let refuse (code : OrderCode) : State := pushReport (orderAnswer h id subUnitMode code unit) s
  match presentUnit unit s with
  | none => refuse .refusedUnit
  | some u =>
    if s.assignOf u = .auto then refuse .refusedNotManual
    else if s.dse.engine = .paused then refuse .refusedState
    else if modeBandRefused s u (orderedMode mode) then refuse .refusedBand
    else acceptUnitMode h id unit mode setpoint cls u s

-- UNIT_ASSIGN (R77) ---------------------------------------------------------------------------------------

/-- UNIT_ASSIGN (R77). -/
def takeUnitAssign (h : Hdr) (id : Half) (unit code : Byte) (s : State) : State :=
  match presentUnit unit s with
  | none => pushReport (orderAnswer h id subUnitAssign .refusedUnit unit) s
  | some u =>
    let result : OrderCode := if code = 0 ∨ code = 1 then .accepted else .clamped
    closeEvent (.trigger true (.start (pushReport (orderAnswer h id subUnitAssign result unit)
      (s.setAssign u (.ofCode code)))))

-- UNIT_CLEAR (R78, R141) ----------------------------------------------------------------------------------

/-- The conditions of an accepted UNIT_CLEAR (R78). -/
def clearable (s : State) (u : UnitNo) : Bool :=
  (s.seq u).state == .tripped && (s.image u).stage == some .still && (s.image u).fault == 0

/-- The TRIPPED sequencer enters STILL, and LOCAL when REMOTE is inactive (R141). -/
def clearTrip (u : UnitNo) (e : Ev) : Ev :=
  let e1 := (moveTo u .still e).setSeq u fun q => { q with minStill := some (e.s.unit u).minStill }
  let e2 := (e1.map (pushUnitState u .tripped .still .cleared)).trigger true
  if (e.s.image u).perm.remote.val then e2.addDue u else enterLocal u e2

/-- UNIT_CLEAR (R78). -/
def takeUnitClear (h : Hdr) (id : Half) (unit : Byte) (s : State) : State :=
  match presentUnit unit s with
  | none => pushReport (orderAnswer h id subUnitClear .refusedUnit unit) s
  | some u =>
    if clearable s u then
      closeEvent ((clearTrip u (.start s)).map (pushReport (orderAnswer h id subUnitClear .accepted unit)))
    else pushReport (orderAnswer h id subUnitClear .refusedNotClearable unit) s

-- ABORT (R79) ---------------------------------------------------------------------------------------------

/-- The deferred order is dropped and the guard timer stopped (R67, R79). -/
def dropDeferred (s : State) : State :=
  let s1 := match s.dse.deferred with
    | some o => pushReport (orderResultOf o .dropped none) s
    | none => s
  s1.setDse { s1.dse with deferred := none, guardTmr := none }

/-- The standing order ends: ENDED or ABORTED is queued when one stands (R67, R79). -/
def endStanding (st : OrderState) (after : Standing) (s : State) : State :=
  setStanding after (if s.dse.standing.state = .none then s else pushReport (orderStateOf s.dse.standing st) s)

/-- An ABORT accepted in RUNNING (R79). -/
def abortRunning (h : Hdr) (id : Half) (s : State) : State :=
  let s1 := pushReport (orderAnswer h id subAbort .accepted 0) s
  let s2 := dropDeferred (endStanding .aborted { s.dse.standing with state := .none } s1)
  let s3 := holdPlan (s2.setDse { s2.dse with engine := .halted })
  closeEvent { Ev.start s3 with due := UnitNo.all }

/-- ABORT (R79). -/
def takeAbort (h : Hdr) (id : Half) (s : State) : State :=
  match s.dse.engine with
  | .running => abortRunning h id s
  | .halted => pushReport (orderAnswer h id subAbort .accepted 0) s
  | .paused => pushReport (orderAnswer h id subAbort .refusedState 0) s

-- RESUME (R80) --------------------------------------------------------------------------------------------

/-- The unit is present and VERIFIED, so that its sequencer may adopt (R65, R114). -/
def adoptable (s : State) (u : UnitNo) : Bool := (s.unit u).present && (s.image u).identity == .verified

/-- Sequencers adopt their units one after another (R65, R80). -/
def adoptAll (us : List UnitNo) (e : Ev) : Ev := us.foldl (fun e u => adopt u e) e

/-- RESUME (R80). -/
def takeResume (h : Hdr) (id : Half) (s : State) : State :=
  if s.dse.engine = .halted then
    let s1 := pushReport (orderAnswer h id subResume .accepted 0) s
    let s2 := s1.setDse { s1.dse with engine := .running }
    closeEvent (adoptAll (UnitNo.all.filter fun u => adoptable s u && (s.seq u).state == .dormant) (.start s2))
  else pushReport (orderAnswer h id subResume .refusedState 0) s

-- Meanings ------------------------------------------------------------------------------------------------

/-- NET_POWER. -/
def execNetPower (h : Hdr) (id target : Half) (cls : Byte) (pad : BitVec 168) (s : State) :
    Host.Outcome State Fault Refusal :=
  event (arriveUp (cellNetPower h id target cls pad) (takeNetPower h id target cls)) s

/-- GUARD_EXPIRY: the running guard timer expires (R74). -/
def execGuardExpiry (s : State) : Host.Outcome State Fault Refusal :=
  event (fun s => if s.dse.guardTmr.isSome then guardExpired s else s) s

/-- UNIT_MODE. -/
def execUnitMode (h : Hdr) (id : Half) (unit mode : Byte) (setpoint : Half) (cls : Byte) (pad : BitVec 152)
    (s : State) : Host.Outcome State Fault Refusal :=
  event (arriveUp (cellUnitMode h id unit mode setpoint cls pad) (takeUnitMode h id unit mode setpoint cls)) s

/-- UNIT_ASSIGN. -/
def execUnitAssign (h : Hdr) (id : Half) (unit code : Byte) (pad : BitVec 176) (s : State) :
    Host.Outcome State Fault Refusal :=
  event (arriveUp (cellUnitAssign h id unit code pad) (takeUnitAssign h id unit code)) s

/-- UNIT_CLEAR. -/
def execUnitClear (h : Hdr) (id : Half) (unit : Byte) (pad : BitVec 184) (s : State) :
    Host.Outcome State Fault Refusal :=
  event (arriveUp (cellUnitClear h id unit pad) (takeUnitClear h id unit)) s

/-- ABORT. -/
def execAbort (h : Hdr) (id : Half) (pad : BitVec 192) (s : State) : Host.Outcome State Fault Refusal :=
  event (arriveUp (cellAbort h id pad) (takeAbort h id)) s

/-- RESUME. -/
def execResume (h : Hdr) (id : Half) (pad : BitVec 192) (s : State) : Host.Outcome State Fault Refusal :=
  event (arriveUp (cellResume h id pad) (takeResume h id)) s

end Sys2Proof.Machine
end

