-- ==== Sys2Proof/Machine/Tables.lean ====
section
/-! DEFINITION. The table cells, taken by the Table Store: the gate (R19), the table writes with their checks and effects
(R20 to R36), and the reads (R38). -/

namespace Sys2Proof.Machine

-- The gate (R19) ------------------------------------------------------------------------------------------

/-- TABLE_GATE OPEN; a broadcast one is ignored (R19). -/
def takeGateOpen (h : Hdr) (s : State) : State :=
  if h.dest = Config.broadcast then s
  else pushReport (mgtPlain h subTableGate .accepted) (s.setTbs { s.tbs with gateOpen := true })

/-- TABLE_GATE CLOSE; a broadcast one is ignored (R19). -/
def takeGateClose (h : Hdr) (s : State) : State :=
  if h.dest = Config.broadcast then s
  else pushReport (mgtPlain h subTableGate .accepted) (s.setTbs { s.tbs with gateOpen := false })

/-- TABLE_GATE with any other request; a broadcast one is ignored (R19). -/
def takeGateBadRequest (h : Hdr) (s : State) : State :=
  if h.dest = Config.broadcast then s else pushReport (mgtPlain h subTableGate .range) s

-- The shape of every table write (R20, R21, R23) ----------------------------------------------------------

/-- The outcome of checks 2 to 6: a refusal with its field number, or the entry to store with the number of its
first clamped field, 0 when none was clamped. -/
inductive Decision (α : Type) where
  | refuse (code : MgtCode) (field : Nat)
  | store (clamped : Nat) (entry : α)
deriving DecidableEq, Repr

/-- A TABLE_WRITE: the gate, then the decision; a stored write's result is queued ahead of its effects (R20, R21). -/
def takeWrite {α : Type} (h : Hdr) (answer : MgtCode → Nat → Report) (d : Decision α) (effect : α → State → State)
    (s : State) : State :=
  if s.tbs.gateOpen then
    match d with
    | .refuse code field => pushReport (answer code field) s
    | .store clamped a => effect a (pushReport (answer (if clamped = 0 then .accepted else .clamped) clamped) s)
  else if h.dest = Config.broadcast then s
  else pushReport (answer .gateClosed 0) s

/-- The MGT_RESULT of a write: table, index and band number as the cell carries them (R23). -/
def writeAnswer (h : Hdr) (table index band : Byte) (code : MgtCode) (field : Nat) : Report :=
  .mgtResult h.src subTableWrite code table index band (BitVec.ofNat 8 field)

/-- The UNIT entry is present and has this link address. -/
def presentAt (s : State) (addr : Nat) (u : UnitNo) : Bool := (s.unit u).present && (s.unit u).addr == addr

-- PLANT (R24, R25) ----------------------------------------------------------------------------------------

def decidePlant (s : State) (index : Byte) (f : PlantFields) : Decision Plant :=
  let p := Plant.ofFields f
  if index ≠ 0 then .refuse .range 0
  else if s.dse.engine ≠ .paused then .refuse .state 0
  else if p.convAddr = s.lpu.addr ∨ UnitNo.all.any (presentAt s p.convAddr) then .refuse .range 7
  else .store (plantClamped f) p

/-- A changed converter address gives the converter image its cold values (R25). -/
def storePlant (p : Plant) (s : State) : State :=
  let s1 := s.setTbs { s.tbs with plant := p }
  if p.convAddr = s.tbs.plant.convAddr then s1 else s1.setUib { s1.uib with conv := .cold }

/-- TABLE_WRITE of PLANT. -/
def takePlantWrite (h : Hdr) (index : Byte) (f : PlantFields) (s : State) : State :=
  takeWrite h (writeAnswer h tablePlant index 0) (decidePlant s index f) storePlant s

-- UNIT (R26 to R29) ---------------------------------------------------------------------------------------

/-- A link address that a present unit may not take: another present unit's, the part's own, the converter's (R27). -/
def addrCollides (s : State) (u : UnitNo) (addr : Nat) : Bool :=
  (UnitNo.all.any fun v => v != u && presentAt s addr v) || addr == s.lpu.addr || addr == s.tbs.plant.convAddr

def decideUnit (s : State) (index present : Byte) (f : UnitFields) : Decision (UnitNo × UnitEntry) :=
  let n := UnitEntry.ofFields present f
  match UnitNo.ofNumber index.toNat with
  | none => .refuse .range 0
  | some u =>
    if s.dse.engine ≠ .paused then .refuse .state 0
    else if n.present ∧ addrCollides s u n.addr then .refuse .range 2
    else .store (unitClamped present f) (u, n)

/-- The image's telemetry content at its cold values (R28, step 1). -/
def Image.clearTelemetry (i : Image) : Image :=
  { i with stage := none, fault := 0, power := 0, head := none, perm := .cold, interlocks := .cold, stale := false,
           staleTimer := none }

/-- A UNIT write with present = 1: telemetry fields, band, identity exchange (R28). -/
def storePresent (u : UnitNo) (n : UnitEntry) (s : State) : State :=
  let old := s.unit u
  let s1 := s.setUnit u n
  let s2 := if old.present ∧ old.addr = n.addr then s1 else s1.setImage u (s1.image u).clearTelemetry
  let s3 := closeEvent (recomputeBand u none (.start s2))
  startExchange u (driveAlert (s3.setImage u { s3.image u with identity := .unverified, identTimer := none }))

/-- A UNIT write with present = 0: image, exchange, command slots (R29). -/
def storeAbsent (u : UnitNo) (n : UnitEntry) (s : State) : State :=
  driveAlert (withdraw (.setpoint u) (withdraw (.stage u) ((s.setUnit u n).setImage u .cold)))

/-- TABLE_WRITE of UNIT with present = 1. -/
def takeUnitWritePresent (h : Hdr) (index present : Byte) (f : UnitFields) (s : State) : State :=
  takeWrite h (writeAnswer h tableUnit index 0) (decideUnit s index present f) (fun p => storePresent p.1 p.2) s

/-- TABLE_WRITE of UNIT with present = 0. -/
def takeUnitWriteAbsent (h : Hdr) (index : Byte) (f : UnitFields) (s : State) : State :=
  takeWrite h (writeAnswer h tableUnit index 0) (decideUnit s index 0 f) (fun p => storeAbsent p.1 p.2) s

-- PROFILE and BAND (R30, R32, R35, R36) -------------------------------------------------------------------

/-- The present units of a profile, in ascending unit number (R35). -/
def unitsOfProfile (s : State) (p : Fin 4) : List UnitNo :=
  UnitNo.all.filter fun u => (s.unit u).present && (s.unit u).profile == p

/-- The bands of a profile's units recomputed one after another, and the allocation trigger (R35, R36). -/
def recomputeProfile (p : Fin 4) (rewritten : Option (Fin 12)) (s : State) : State :=
  closeEvent (((unitsOfProfile s p).foldl (fun e u => recomputeBand u rewritten e) (.start s)).trigger true)

def decideProfile (s : State) (index : Byte) (f : ProfileFields) : Decision (Fin 4 × Profile) :=
  let n := Profile.ofFields f
  match profileIndex index with
  | none => .refuse .range 0
  | some p =>
    if s.dse.engine ≠ .paused ∧ unitsOfProfile s p ≠ [] then
      match n.runFault with
      | some k => .refuse .invalid k
      | none => .store (profileClamped f) (p, n)
    else .store (profileClamped f) (p, n)

def storeProfile (p : Fin 4) (n : Profile) (s : State) : State :=
  recomputeProfile p none (s.setTbs { s.tbs with profiles := s.tbs.profiles.set p n })

/-- TABLE_WRITE of PROFILE. -/
def takeProfileWrite (h : Hdr) (index : Byte) (f : ProfileFields) (s : State) : State :=
  takeWrite h (writeAnswer h tableProfile index 0) (decideProfile s index f) (fun p => storeProfile p.1 p.2) s

def decideBand (profile band : Byte) (f : BandFields) : Decision (Fin 4 × Fin 12 × Band) :=
  match profileIndex profile, bandIndex band with
  | some p, some k => .store (bandClamped f) (p, k, .ofFields f)
  | _, _ => .refuse .range 0

def storeBand (p : Fin 4) (k : Fin 12) (b : Band) (s : State) : State :=
  recomputeProfile p (some k) (s.setTbs { s.tbs with bands := s.tbs.bands.set p ((s.tbs.bands[p]).set k b) })

/-- TABLE_WRITE of BAND. -/
def takeBandWrite (h : Hdr) (profile band : Byte) (f : BandFields) (s : State) : State :=
  takeWrite h (writeAnswer h tableBand profile band) (decideBand profile band f) (fun p => storeBand p.1 p.2.1 p.2.2) s

-- MERIT (R33, R36) ----------------------------------------------------------------------------------------

def decideMerit (index : Byte) (f : MeritFields) : Decision (List UnitNo) :=
  if index ≠ 0 ∧ index ≠ 1 then .refuse .range 0
  else match meritFault f with
    | some k => .refuse .range k
    | none => .store 0 (meritUnits f)

def storeMerit (index : Byte) (l : List UnitNo) (s : State) : State :=
  let t := if index = 0 then { s.tbs with meritGen := l } else { s.tbs with meritPump := l }
  closeEvent (.trigger true (.start (s.setTbs t)))

/-- TABLE_WRITE of MERIT. -/
def takeMeritWrite (h : Hdr) (index : Byte) (f : MeritFields) (s : State) : State :=
  takeWrite h (writeAnswer h tableMerit index 0) (decideMerit index f) (storeMerit index) s

-- WATERWAY (R34) ------------------------------------------------------------------------------------------

def decideWaterway (s : State) (index : Byte) (budget : Half) : Decision (Waterway × Nat) :=
  match waterwayIndex index with
  | none => .refuse .range 0
  | some w =>
    if s.dse.engine ≠ .paused then .refuse .state 0 else .store (budgetClamped budget) (w, budgetOfField budget)

def storeWaterway (w : Waterway) (b : Nat) (s : State) : State :=
  s.setTbs { s.tbs with budgets := s.tbs.budgets.set w b }

/-- TABLE_WRITE of WATERWAY. -/
def takeWaterwayWrite (h : Hdr) (index : Byte) (budget : Half) (s : State) : State :=
  takeWrite h (writeAnswer h tableWaterway index 0) (decideWaterway s index budget) (fun p => storeWaterway p.1 p.2) s

-- Unknown table, reads (R20, R38) -------------------------------------------------------------------------

/-- TABLE_WRITE of a table code that names no table: refused at check 2 (R20). -/
def takeUnknownTable (h : Hdr) (table index : Byte) (s : State) : State :=
  takeWrite (α := Unit) h (writeAnswer h table index 0) (.refuse .range 0) (fun _ s => s) s

/-- The band number an MGT_RESULT carries: that of an answered BAND cell, else 0 (R23). -/
def carriedBand (table band : Byte) : Byte := if table = tableBand then band else 0

/-- TABLE_READ (R38). -/
def takeTableRead (h : Hdr) (table index band : Byte) (s : State) : State :=
  match tableData s.tbs table index band with
  | some p => pushReport (.tableData h.src p) s
  | none => pushReport (.mgtResult h.src subTableRead .range table index (carriedBand table band) 0) s

-- Meanings ------------------------------------------------------------------------------------------------

/-- TABLE_GATE_OPEN. -/
def execTableGateOpen (h : Hdr) (pad : BitVec 200) (s : State) : Host.Outcome State Fault Refusal :=
  event (arriveUp (cellTableGate h gateOpen pad) (takeGateOpen h)) s

/-- TABLE_GATE_CLOSE. -/
def execTableGateClose (h : Hdr) (pad : BitVec 200) (s : State) : Host.Outcome State Fault Refusal :=
  event (arriveUp (cellTableGate h gateClose pad) (takeGateClose h)) s

/-- TABLE_GATE_BAD_REQUEST. -/
def execTableGateBadRequest (h : Hdr) (request : Byte) (pad : BitVec 200) (s : State) :
    Host.Outcome State Fault Refusal :=
  event (arriveUp (cellTableGate h request pad) (takeGateBadRequest h)) s

/-- PLANT_WRITE. -/
def execPlantWrite (h : Hdr) (index : Byte) (f : PlantFields) (pad : BitVec 120) (s : State) :
    Host.Outcome State Fault Refusal :=
  event (arriveUp (cellPlantWrite h index f pad) (takePlantWrite h index f)) s

/-- UNIT_WRITE_PRESENT. -/
def execUnitWritePresent (h : Hdr) (index present : Byte) (f : UnitFields) (pad : BitVec 80) (s : State) :
    Host.Outcome State Fault Refusal :=
  event (arriveUp (cellUnitWrite h index present f pad) (takeUnitWritePresent h index present f)) s

/-- UNIT_WRITE_ABSENT. -/
def execUnitWriteAbsent (h : Hdr) (index : Byte) (f : UnitFields) (pad : BitVec 80) (s : State) :
    Host.Outcome State Fault Refusal :=
  event (arriveUp (cellUnitWrite h index 0 f pad) (takeUnitWriteAbsent h index f)) s

/-- PROFILE_WRITE. -/
def execProfileWrite (h : Hdr) (index : Byte) (f : ProfileFields) (s : State) : Host.Outcome State Fault Refusal :=
  event (arriveUp (cellProfileWrite h index f) (takeProfileWrite h index f)) s

/-- BAND_WRITE. -/
def execBandWrite (h : Hdr) (profile band : Byte) (f : BandFields) (pad : BitVec 72) (s : State) :
    Host.Outcome State Fault Refusal :=
  event (arriveUp (cellBandWrite h profile band f pad) (takeBandWrite h profile band f)) s

/-- MERIT_WRITE. -/
def execMeritWrite (h : Hdr) (index : Byte) (f : MeritFields) (pad : BitVec 136) (s : State) :
    Host.Outcome State Fault Refusal :=
  event (arriveUp (cellMeritWrite h index f pad) (takeMeritWrite h index f)) s

/-- WATERWAY_WRITE. -/
def execWaterwayWrite (h : Hdr) (index : Byte) (budget : Half) (pad : BitVec 176) (s : State) :
    Host.Outcome State Fault Refusal :=
  event (arriveUp (cellWaterwayWrite h index budget pad) (takeWaterwayWrite h index budget)) s

/-- TABLE_READ. -/
def execTableRead (h : Hdr) (table index band : Byte) (pad : BitVec 184) (s : State) :
    Host.Outcome State Fault Refusal :=
  event (arriveUp (cellTableRead h table index band pad) (takeTableRead h table index band)) s

/-- TABLE_WRITE_UNKNOWN_TABLE. -/
def execTableWriteUnknownTable (h : Hdr) (table index : Byte) (rest : BitVec 192) (s : State) :
    Host.Outcome State Fault Refusal :=
  event (arriveUp (cellUnknownTable h table index rest) (takeUnknownTable h table index)) s

/-- BROADCAST_TABLE_GATE: ignored, and forwarded (R19). -/
def execBroadcastTableGate (src : Byte) (crc : Half) (request : Byte) (pad : BitVec 200) (s : State) :
    Host.Outcome State Fault Refusal :=
  event (arriveUp (cellTableGate { dest := Config.broadcast, src, crc } request pad) fun s => s) s

end Sys2Proof.Machine
end

