-- ==== Sys2Proof/Machine/Control.lean ====
section
/-! DEFINITION. The other management cells: ENGINE (R63 to R67, R39), RESTART, the warm reset (R68), TRACE (R69), WATCH
(R51, R52) and ECHO (R16). -/

namespace Sys2Proof.Machine

-- ENGINE RUN (R39, R64, R65) ------------------------------------------------------------------------------

/-- A failing check of R39: the table, entry and field an INVALID names. -/
structure RunFault where
  table : Byte
  index : Byte
  field : Nat
deriving DecidableEq, Repr

/-- The first failing check of a profile: band count, timeouts, rate of class 0 (R39, checks 1 to 3). -/
def Profile.validation (p : Profile) : Option Nat :=
  if p.bandCount = 0 then some 16
  else match firstZero p.timeouts with
    | some k => some k
    | none => if p.rate0 = 0 then some 11 else none

/-- The first failing check of a unit (R39). -/
def unitFault (s : State) (u : UnitNo) : Option RunFault :=
  match (s.profileOf u).validation with
  | some k => some { table := tableProfile, index := BitVec.ofNat 8 (s.unit u).profile.val, field := k }
  | none =>
    let w := (s.unit u).waterway
    if s.tbs.budgets.get w = 0 then some { table := tableWaterway, index := BitVec.ofNat 8 w.number, field := 1 }
    else none

/-- The first failing check of the present units in ascending unit number (R39). -/
def validation (s : State) : Option RunFault :=
  (UnitNo.all.filter fun u => (s.unit u).present).findSome? (unitFault s)

/-- An accepted RUN (R65). -/
def runAccepted (h : Hdr) (s : State) : State :=
  let s1 := pushReport (mgtPlain h subEngine .accepted) s
  let s2 := s1.setDse { s1.dse with assign := .ofFn (fun u => (s1.unit u).assign), engine := .running }
  closeEvent ((adoptAll (UnitNo.all.filter (adoptable s2)) (.start s2)).map fun s => startRampTimer (holdPlan s))

/-- ENGINE RUN (R64). -/
def takeEngineRun (h : Hdr) (s : State) : State :=
  if s.dse.engine = .paused then
    match validation s with
    | some f => pushReport (.mgtResult h.src subEngine .invalid f.table f.index 0 (BitVec.ofNat 8 f.field)) s
    | none => runAccepted h s
  else pushReport (mgtPlain h subEngine .state) s

-- ENGINE PAUSE (R66, R67) ---------------------------------------------------------------------------------

/-- A sequencer state in which a PAUSE finds a transition in progress (R66). -/
def SeqState.busy (n : SeqState) : Bool := n.transition || n == .stopping

/-- The condition on which a PAUSE is refused BUSY (R66). -/
def pauseBusy (s : State) : Bool :=
  (UnitNo.all.any fun u => (s.seq u).state.busy) || (s.pra.arb != .free && s.pra.arb != .faulted)

/-- An accepted PAUSE (R67). -/
def pauseAccepted (h : Hdr) (s : State) : State :=
  let s1 := pushReport (mgtPlain h subEngine .accepted) s
  let s2 := flushCommands (dropDeferred (endStanding .ended .cleared s1))
  driveAlert { s2 with seqs := .all .cold, rmp := .cold, dse := { s2.dse with engine := .paused, trace := false } }

/-- ENGINE PAUSE (R66). -/
def takeEnginePause (h : Hdr) (s : State) : State :=
  if s.dse.engine = .paused then pushReport (mgtPlain h subEngine .state) s
  else if pauseBusy s then pushReport (mgtPlain h subEngine .busy) s
  else pauseAccepted h s

/-- ENGINE with any other request (R63). -/
def takeEngineBadRequest (h : Hdr) (s : State) : State := pushReport (mgtPlain h subEngine .range) s

-- RESTART (R17, R60, R61, R68) ----------------------------------------------------------------------------

/-- The Link Port Unit after a warm reset: address kept, cells being sent go on to their end (R1, R17). -/
def Lpu.warm (l : Lpu) : Lpu := { Lpu.cold l.addr with dnTx := l.dnTx, upTx := l.upTx }

/-- Every block at its warm-reset values (R17, R18, R60, R61, R113, R146, R164, R185, R188). -/
def warmReset (s : State) : State :=
  { pending := s.pending, held := s.held, lpu := s.lpu.warm, tbs := { s.tbs with gateOpen := false }, uib := .cold,
    dse := .afterReset (.ofFn fun u => (s.unit u).assign), alc := .cold, seqs := .all .cold, pra := .cold, rmp := .cold,
    rpb := .cold }

/-- Identity exchanges started one after another (R54). -/
def startExchanges (us : List UnitNo) (s : State) : State := us.foldl (fun s u => startExchange u s) s

/-- RESTART (R68). -/
def takeRestart (h : Hdr) (s : State) : State :=
  startExchanges (UnitNo.all.filter fun u => (s.unit u).present)
    (pushReport (mgtPlain h subRestart .accepted) (warmReset s))

-- TRACE (R69) ---------------------------------------------------------------------------------------------

/-- TRACE ON (R69). -/
def takeTraceOn (h : Hdr) (s : State) : State :=
  pushReport (mgtPlain h subTrace .accepted) (s.setDse { s.dse with trace := true })

/-- TRACE OFF (R69). -/
def takeTraceOff (h : Hdr) (s : State) : State :=
  pushReport (mgtPlain h subTrace .accepted) (s.setDse { s.dse with trace := false })

/-- TRACE with any other code (R69). -/
def takeTraceBadRequest (h : Hdr) (s : State) : State := pushReport (mgtPlain h subTrace .range) s

-- WATCH (R51, R52) ----------------------------------------------------------------------------------------

/-- The interlock bits whose debounced value is active. -/
def Image.activeInterlocks (i : Image) : BitVec 8 :=
  Octet.byte (.zip (fun a _ => a.val) i.interlocks i.interlocks)

/-- The MGT_RESULT of a WATCH, the unit number in its index (R23, R51). -/
def watchAnswer (h : Hdr) (unit : Byte) (code : MgtCode) (field : Byte) : Report :=
  .mgtResult h.src subWatch code 0 unit 0 field

/-- WATCH (R51): a mask bit armed on an active interlock sets its event flag (R52). -/
def takeWatch (h : Hdr) (unit mask : Byte) (s : State) : State :=
  match presentUnit unit s with
  | none => pushReport (watchAnswer h unit .range 1) s
  | some u =>
    let i := s.image u
    raiseEvents u (mask &&& ~~~i.watch &&& i.activeInterlocks) false
      (pushReport (watchAnswer h unit .accepted 0) (s.setImage u { i with watch := mask }))

-- ECHO (R16) ----------------------------------------------------------------------------------------------

/-- ECHO (R16). -/
def takeEcho (h : Hdr) (payload : Payload) (s : State) : State := pushReport (.echo h.src payload) s

-- Meanings ------------------------------------------------------------------------------------------------

/-- ENGINE_RUN. -/
def execEngineRun (h : Hdr) (pad : BitVec 200) (s : State) : Host.Outcome State Fault Refusal :=
  event (arriveUp (cellEngine h engineRun pad) (takeEngineRun h)) s

/-- ENGINE_PAUSE. -/
def execEnginePause (h : Hdr) (pad : BitVec 200) (s : State) : Host.Outcome State Fault Refusal :=
  event (arriveUp (cellEngine h enginePause pad) (takeEnginePause h)) s

/-- ENGINE_BAD_REQUEST. -/
def execEngineBadRequest (h : Hdr) (request : Byte) (pad : BitVec 200) (s : State) :
    Host.Outcome State Fault Refusal :=
  event (arriveUp (cellEngine h request pad) (takeEngineBadRequest h)) s

/-- RESTART. -/
def execRestart (h : Hdr) (rest : Payload) (s : State) : Host.Outcome State Fault Refusal :=
  event (arriveUp (cellRestart h rest) (takeRestart h)) s

/-- TRACE_ON. -/
def execTraceOn (h : Hdr) (pad : BitVec 200) (s : State) : Host.Outcome State Fault Refusal :=
  event (arriveUp (cellTrace h traceOn pad) (takeTraceOn h)) s

/-- TRACE_OFF. -/
def execTraceOff (h : Hdr) (pad : BitVec 200) (s : State) : Host.Outcome State Fault Refusal :=
  event (arriveUp (cellTrace h traceOff pad) (takeTraceOff h)) s

/-- TRACE_BAD_REQUEST. -/
def execTraceBadRequest (h : Hdr) (request : Byte) (pad : BitVec 200) (s : State) :
    Host.Outcome State Fault Refusal :=
  event (arriveUp (cellTrace h request pad) (takeTraceBadRequest h)) s

/-- WATCH. -/
def execWatch (h : Hdr) (unit mask : Byte) (pad : BitVec 192) (s : State) : Host.Outcome State Fault Refusal :=
  event (arriveUp (cellWatch h unit mask pad) (takeWatch h unit mask)) s

/-- ECHO. -/
def execEcho (h : Hdr) (payload : Payload) (s : State) : Host.Outcome State Fault Refusal :=
  event (arriveUp (cellEcho h payload) (takeEcho h payload)) s

end Sys2Proof.Machine
end

