-- ==== Sys2Proof/Machine/Telemetry.lean ====
section
/-! DEFINITION. Telemetry: UNIT_STATUS (R41 to R46), UNIT_IDENT (R56, R57) and CONV_STATUS with the converter arbiter
(R58, R147 to R153). -/

namespace Sys2Proof.Machine

-- UNIT_STATUS (R41 to R46) --------------------------------------------------------------------------------

/-- One debounced bit at a taken UNIT_STATUS, against the debounce count D (R43). -/
def Debounced.take (d : Nat) (reported : Bool) (b : Debounced) : Debounced :=
  if reported = b.val then { b with run := 0 }
  else if d ≤ b.run + 1 then { val := reported, run := 0 }
  else { b with run := b.run + 1 }

/-- The permissives at a taken UNIT_STATUS, bits READY, AIR, REMOTE, LOCKOUT (R43, R195). -/
def Permissives.take (d : Nat) (perm : Byte) (p : Permissives) : Permissives :=
  { ready := p.ready.take d (perm.getLsbD 0), air := p.air.take d (perm.getLsbD 1),
    remote := p.remote.take d (perm.getLsbD 2), lockout := p.lockout.take d (perm.getLsbD 3) }

/-- The head carried; invalid above 15000 (R42). -/
def headOf (head : Half) : Option Nat := if head.toNat ≤ 15000 then some head.toNat else none

/-- The image's fields, debounced bits and stale flag at a taken UNIT_STATUS (R42, R43, R45). -/
def Image.take (p : Plant) (st : Stage) (fault : Byte) (power head : Half) (perm interlocks : Byte) (i : Image) : Image :=
  { i with
    stage := some st
    fault
    power := power.toInt
    head := headOf head
    perm := i.perm.take p.debounce perm
    interlocks := .zip (Debounced.take p.debounce) (.ofByte interlocks) i.interlocks
    stale := false
    staleTimer := some p.staleTime }

/-- The interlock bits that become active from one image to the next (R52). -/
def newlyActive (i n : Image) : BitVec 8 := n.activeInterlocks &&& ~~~i.activeInterlocks

/-- A debounced permissive changed (R44). -/
def permChanged (i n : Image) : Bool :=
  i.perm.ready.val != n.perm.ready.val || i.perm.air.val != n.perm.air.val || i.perm.remote.val != n.perm.remote.val ||
    i.perm.lockout.val != n.perm.lockout.val

/-- What a UNIT_STATUS hands to the sequencer of a VERIFIED unit: a REMOTE change, a LOCKOUT change, then the stage and
fault code (R46, R138). -/
def handToSequencer (u : UnitNo) (i n : Image) (st : Stage) (e : Ev) : Ev :=
  let e1 := if i.perm.remote.val = n.perm.remote.val then e else takeRemote u n.perm.remote.val e
  let e2 := if i.perm.lockout.val = n.perm.lockout.val then e1 else takeLockout u n.perm.lockout.val e1
  takeStage u st n.fault e2

/-- The event of a taken UNIT_STATUS, from the unit's image before and after (R46). DESIGN CHOICE (log entry 19): a unit
in ABSENT starts its exchange after the watch. -/
def statusEvent (u : UnitNo) (st : Stage) (n : Image) (s : State) : State :=
  let i := s.image u
  let s1 := raiseEvents u (newlyActive i n &&& i.watch) false (s.setImage u n)
  let s2 := if i.identity = .absent then startExchange u s1 else s1
  let e1 := if i.identity = .verified then handToSequencer u i n st (.start s2) else .start s2
  let e2 := if n.band = i.band then e1 else bandChange u e1
  closeEvent (e2.trigger (i.stale || permChanged i n))

/-- A snooped UNIT_STATUS: matched to a present unit by its source; one with an unknown stage code is not taken
(R41). -/
def snoopUnitStatus (h : Hdr) (stage fault : Byte) (power head : Half) (perm interlocks : Byte) (s : State) : State :=
  match unitAt h.src s, Stage.ofCode stage with
  | some u, some st =>
    statusEvent u st (s.evaluated u ((s.image u).take s.tbs.plant st fault power head perm interlocks)) s
  | _, _ => s

-- UNIT_IDENT (R56, R57) -----------------------------------------------------------------------------------

/-- The identity state becomes `n`, the identity-wait timer stops, VERIFY_CHANGE is set (R56, R57). -/
def concludeExchange (u : UnitNo) (n : Identity) (s : State) : State :=
  raiseEvents u 0 true (s.setImage u { s.image u with identity := n, identTimer := none })

/-- A change to VERIFIED: adopted in RUNNING, and an allocation trigger (R57, R114). -/
def verifiedEvent (u : UnitNo) (s : State) : State :=
  let e := Ev.start (concludeExchange u .verified s)
  closeEvent ((if s.dse.engine = .running then adopt u e else e).trigger true)

/-- A UNIT_IDENT addressed to the part (R56). -/
def takeUnitIdent (h : Hdr) (classCode : Byte) (rated : Half) (s : State) : State :=
  match unitAt h.src s with
  | none => s
  | some u =>
    if (s.image u).identity = .identWait then
      if classCode.toNat = (s.unit u).classCode ∧ rated.toNat = (s.unit u).rated then verifiedEvent u s
      else concludeExchange u .mismatch s
    else s

-- CONV_STATUS (R58, R147 to R153) -------------------------------------------------------------------------

/-- A converter fault reported: the arbiter becomes FAULTED, CONV_FAULT is raised, a grant holder is abandoned
(R152). -/
def converterFault (e : Ev) : Ev :=
  let failed := e.map fun s => setArbiter .faulted (raiseFlag .convFault s)
  let abandoned :=
    let e1 := failed.map fun s =>
      let s1 := placeConverter .convRelease s
      s1.setPra { s1.pra with holder := none }
    match e.s.pra.holder with
    | some u => stopWithReport u .converter e1
    | none => e1
  match e.s.pra.arb with
  | .free => failed
  | .connecting => abandoned
  | .inUse => abandoned
  | .releasing => failed.map fun s => s.setPra { s.pra with releaseTmr := none }
  | .faulted => e

/-- The converter is connected to the grant holder's link address (R148). -/
def connectedToHolder (s : State) : Bool := s.pra.holder.any fun u => (s.unit u).addr == s.uib.conv.connected

/-- The transition of the arbiter at a CONV_STATUS without fault (R147, R148, R150, R153). -/
def converterStep (s : State) : State :=
  let c := s.uib.conv
  match s.pra.arb with
  | .connecting => if connectedToHolder s then setArbiter .inUse s else s
  | .releasing =>
    if c.connected = 0 then setArbiter .free (s.setPra { s.pra with releaseTmr := none }) else s
  | .faulted => if c.ready ∧ c.connected = 0 then setArbiter .free s else s
  | .free => s
  | .inUse => s

/-- A CONV_STATUS at the arbiter, on the updated image: fault, transition, grant (R147). -/
def converterEvent (s : State) : State :=
  let e := Ev.start s
  closeEvent (if s.uib.conv.fault then converterFault e else grantConverter (e.map converterStep))

/-- The converter image a CONV_STATUS gives (R58). -/
def ConvImage.ofFields (ready fault connected : Byte) : ConvImage :=
  { ready := ready != 0, fault := fault != 0, connected := connected.toNat }

/-- A snooped CONV_STATUS: read from the converter address alone (R58). -/
def snoopConvStatus (h : Hdr) (ready fault connected : Byte) (s : State) : State :=
  if h.src.toNat = s.tbs.plant.convAddr then
    converterEvent (s.setUib { s.uib with conv := .ofFields ready fault connected })
  else s

-- Meanings ------------------------------------------------------------------------------------------------

/-- UNIT_STATUS: snooped in passing; one addressed to the part is discarded (R5, R6). -/
def execUnitStatus (h : Hdr) (stage fault : Byte) (power head : Half) (perm interlocks : Byte) (pad : BitVec 144)
    (s : State) : Host.Outcome State Fault Refusal :=
  event (arriveDn (cellUnitStatus h stage fault power head perm interlocks pad) (fun s => s)
    (snoopUnitStatus h stage fault power head perm interlocks)) s

/-- UNIT_IDENT: taken when addressed to the part; snooped in passing it is ignored (R7, R56). -/
def execUnitIdent (h : Hdr) (classCode : Byte) (rated : Half) (pad : BitVec 184) (s : State) :
    Host.Outcome State Fault Refusal :=
  event (arriveDn (cellUnitIdent h classCode rated pad) (takeUnitIdent h classCode rated) fun s => s) s

/-- CONV_STATUS: snooped in passing; one addressed to the part is discarded (R5, R6). -/
def execConvStatus (h : Hdr) (ready fault connected : Byte) (pad : BitVec 184) (s : State) :
    Host.Outcome State Fault Refusal :=
  event (arriveDn (cellConvStatus h ready fault connected pad) (fun s => s) (snoopConvStatus h ready fault connected)) s

end Sys2Proof.Machine
end

