-- ==== Sys2Proof/Machine/Timers.lean ====
section
/-! DEFINITION. The expiries of the part's timers, other than link loss and the guard: identity wait (R55), stale (R45),
converter release (R151), stage (R133 to R135), min-run and min-still (R132), linger (R131), ramp interval (R170, R176)
and refresh (R180). An expiry of a timer that is stopped, or of a stage timer in a state of another row, has no effect. -/

namespace Sys2Proof.Machine

-- Identity wait (R55) -------------------------------------------------------------------------------------

/-- The identity-wait timer expires in IDENT_WAIT: another request, or ABSENT after the third (R55). -/
def identityWaitExpired (u : UnitNo) (s : State) : State :=
  let i := s.image u
  if i.identCount < 3 then
    placeStage u .identReq
      (s.setImage u { i with identCount := i.identCount + 1, identTimer := some s.tbs.plant.identWait })
  else concludeExchange u .absent s

-- Stale (R45) ---------------------------------------------------------------------------------------------

/-- The stale timer expires (R45). -/
def staleExpired (u : UnitNo) (s : State) : State :=
  let i := s.image u
  let s1 := s.setImage u { i with stale := true, staleTimer := none }
  closeEvent ((Ev.start s1).trigger ((s.unit u).present && !i.stale))

-- Converter release (R151) --------------------------------------------------------------------------------

/-- The release timer expires in RELEASING (R151). -/
def releaseExpired (s : State) : State :=
  setArbiter .faulted (raiseFlag .convFault (s.setPra { s.pra with releaseTmr := none }))

-- Stage timer (R133 to R135) ------------------------------------------------------------------------------

/-- The states whose timeout trips the unit (R135). -/
def SeqState.tripsAtTimeout : SeqState → Bool
  | .gRunup => true
  | .gSync => true
  | .gLoad => true
  | .gUnload => true
  | .pDewater => true
  | .pRunup => true
  | .pPrime => true
  | .pUnload => true
  | .stopping => true
  | _ => false

/-- A lock wait ends at its timeout: STILL with min-still started, or back in air and acting (R133). -/
def lockwaitExpired (u : UnitNo) (e : Ev) : Ev :=
  let e1 := returnToOrigin u .lockwaitTimeout e
  if e1.state u = .still then
    (e1.setSeq u fun q => { q with minStill := some (e.s.unit u).minStill }).trigger true
  else actStable u e1

/-- The unit's stage timer runs. -/
def stageTimerRuns (s : State) (u : UnitNo) : Bool := (s.seq u).stageTimer.isSome

-- Min-run, min-still, linger (R131, R132) -----------------------------------------------------------------

/-- The min-run timer expires: an allocation trigger (R132). -/
def minRunExpired (u : UnitNo) (s : State) : State :=
  closeEvent (((Ev.start s).setSeq u fun q => { q with minRun := none }).trigger true)

/-- The min-still timer expires: an allocation trigger, then the sequencer acts in STILL (R132). -/
def minStillExpired (u : UnitNo) (s : State) : State :=
  let e := ((Ev.start s).setSeq u fun q => { q with minStill := none }).trigger true
  closeEvent (if e.state u = .still then e.addDue u else e)

/-- The linger timer expires: the sequencer enters STOPPING (R131). -/
def lingerExpired (u : UnitNo) (s : State) : State := closeEvent (enterStopping u (.start s))

/-- The sequencer is in a state in which a linger timer runs (R131). -/
def SeqState.inAir (n : SeqState) : Bool := n == .gAir || n == .pAir

-- Meanings ------------------------------------------------------------------------------------------------

/-- IDENTITY_WAIT_EXPIRY. -/
def execIdentityWaitExpiry (u : UnitNo) (s : State) : Host.Outcome State Fault Refusal :=
  event (fun s =>
    if (s.image u).identTimer.isSome ∧ (s.image u).identity = .identWait then identityWaitExpired u s else s) s

/-- STALE_EXPIRY. -/
def execStaleExpiry (u : UnitNo) (s : State) : Host.Outcome State Fault Refusal :=
  event (fun s => if (s.image u).staleTimer.isSome then staleExpired u s else s) s

/-- RELEASE_TIMER_EXPIRY. -/
def execReleaseTimerExpiry (s : State) : Host.Outcome State Fault Refusal :=
  event (fun s => if s.pra.releaseTmr.isSome ∧ s.pra.arb = .releasing then releaseExpired s else s) s

/-- STAGE_TIMEOUT (R135). -/
def execStageTimeout (u : UnitNo) (s : State) : Host.Outcome State Fault Refusal :=
  event (fun s =>
    if stageTimerRuns s u ∧ (s.seq u).state.tripsAtTimeout then
      closeEvent (enterTripped u .timeout true (.start s))
    else s) s

/-- LOCKWAIT_TIMEOUT (R133). -/
def execLockwaitTimeout (u : UnitNo) (s : State) : Host.Outcome State Fault Refusal :=
  event (fun s =>
    if stageTimerRuns s u ∧ ((s.seq u).state = .gLockwait ∨ (s.seq u).state = .pLockwait) then
      closeEvent (lockwaitExpired u (.start s))
    else s) s

/-- QUEUE_TIMEOUT (R134). -/
def execQueueTimeout (u : UnitNo) (s : State) : Host.Outcome State Fault Refusal :=
  event (fun s =>
    if stageTimerRuns s u ∧ (s.seq u).state = .pConvwait then
      closeEvent (stopWithReport u .queueTimeout (.start s))
    else s) s

/-- MIN_RUN_EXPIRY. -/
def execMinRunExpiry (u : UnitNo) (s : State) : Host.Outcome State Fault Refusal :=
  event (fun s => if (s.seq u).minRun.isSome then minRunExpired u s else s) s

/-- MIN_STILL_EXPIRY. -/
def execMinStillExpiry (u : UnitNo) (s : State) : Host.Outcome State Fault Refusal :=
  event (fun s => if (s.seq u).minStill.isSome then minStillExpired u s else s) s

/-- LINGER_EXPIRY. -/
def execLingerExpiry (u : UnitNo) (s : State) : Host.Outcome State Fault Refusal :=
  event (fun s => if (s.seq u).linger.isSome ∧ (s.seq u).state.inAir then lingerExpired u s else s) s

/-- RAMP_INTERVAL_EXPIRY. -/
def execRampIntervalExpiry (s : State) : Host.Outcome State Fault Refusal :=
  event (fun s => if s.rmp.timer.isSome then rampExpiry s else s) s

/-- REFRESH_EXPIRY: the current setpoint is placed again (R180). -/
def execRefreshExpiry (u : UnitNo) (s : State) : Host.Outcome State Fault Refusal :=
  event (fun s =>
    match (s.ramp u).refresh, (s.ramp u).setpoint with
    | some _, some v => placeSetpoint u v s
    | _, _ => s) s

end Sys2Proof.Machine
end

