-- ==== Sys2Proof/Machine/Link.lean ====
section
/-! DEFINITION. The Link Port Unit's own events: RESET_N (R1, R3, R17, R196), the two selections (R11 to R14, R187,
R189), the end of an UP HOLD (R189), link loss (R15), and cells that arrive without a row of their own (R4 to R7). -/

namespace Sys2Proof.Machine

-- RESET_N (R1, R3, R17, R192, R196) -----------------------------------------------------------------------

/-- The strap value as taken: 0 as 1, 31 as 30 (R3). -/
def strapAddress (strap : BitVec 5) : Nat :=
  if strap = 0 then 1 else if strap = 31 then 30 else strap.toNat

/-- RESET_N_LOW: a cell being sent is cut off, PLANT_ALERT_N is released, and nothing takes effect until the release
(R1, R192). -/
def execResetNLow (s : State) : Host.Outcome State Fault Refusal :=
  .next (driveAlert { s with held := true, lpu := { s.lpu with dnTx := .idle, upTx := .idle } })

/-- RESET_N_RELEASE: the cold reset (R3, R17). -/
def execResetNRelease (strap : BitVec 5) (s : State) : Host.Outcome State Fault Refusal :=
  .next { State.cold (strapAddress strap) with pending := s.pending }

-- Selections (R11 to R14) ---------------------------------------------------------------------------------

/-- The DN transmitter begins a forwarded cell. -/
def sendForwardDn (c : Cell) (rest : List Cell) (turn : DnTurn) (s : State) : State :=
  s.setLpu { s.lpu with dnFwd := rest, dnTurn := turn, dnTx := .cell c }

/-- The DN transmitter begins the command of the slot with the oldest position; the slot is empty from then on
(R10, R12). -/
def sendCommand (w : Waiting) (rest : List Waiting) (s : State) : State :=
  s.setLpu { s.lpu with cmds := rest, dnTurn := .forward, dnTx := .cell (w.cell s.lpu.addrByte) }

/-- The DN transmitter begins a HOLD cell (R14). -/
def sendDnHold (s : State) : State :=
  s.setLpu { s.lpu with dnTurn := .forward, dnTx := .hold (holdCell s (dnHoldPayload s)) }

/-- A selection of the DN arbiter (R12). -/
def selectDn (s : State) : State :=
  if s.lpu.dnFwd.length < Config.dnAlternateAt then
    match s.lpu.cmds, s.lpu.dnFwd with
    | w :: rest, _ => sendCommand w rest s
    | [], c :: rest => sendForwardDn c rest .forward s
    | [], [] => sendDnHold s
  else
    match s.lpu.dnTurn, s.lpu.cmds, s.lpu.dnFwd with
    | .command, w :: rest, _ => sendCommand w rest s
    | _, _, c :: rest => sendForwardDn c rest .command s
    | _, _, [] => s

/-- The UP transmitter begins a forwarded cell; the turn marker then names Q (R13). -/
def sendForwardUp (c : Cell) (rest : List Cell) (s : State) : State :=
  s.setLpu { s.lpu with upFwd := rest, upTurn := .report, upTx := .cell c }

/-- A report departs as the UP transmitter begins it (R13, R185, R187). -/
def sendReport (r : Report) (rest : List Report) (turn : UpTurn) (s : State) : State :=
  let s1 := s.setLpu { s.lpu with upTurn := turn, upTx := .cell (r.cell s.lpu.addrByte) }
  afterDeparture r (s1.setRpb { s1.rpb with queue := rest })

/-- The UP transmitter begins a HOLD cell: the summary is composed and the carried record taken (R14, R189, R190). -/
def sendUpHold (s : State) : State :=
  recordCarried (s.setLpu { s.lpu with upTurn := .report, upTx := .hold (holdCell s (upHoldPayload s)) })

/-- A selection of the UP arbiter (R13). -/
def selectUp (s : State) : State :=
  if s.rpb.queue.length < Config.upAlternateAt then
    match s.lpu.upFwd, s.rpb.queue with
    | c :: rest, _ => sendForwardUp c rest s
    | [], r :: rest => sendReport r rest .report s
    | [], [] => sendUpHold s
  else
    match s.lpu.upTurn, s.lpu.upFwd, s.rpb.queue with
    | .forward, c :: rest, _ => sendForwardUp c rest s
    | _, _, r :: rest => sendReport r rest .forward s
    | _, _, [] => s

/-- An UP HOLD cell has been sent to its last byte (R14, R189). -/
def upHoldDone (s : State) : State :=
  if s.sendingUpHold then clearCarried (s.setLpu { s.lpu with upTx := .idle }) else s

/-- DN_SELECTION. -/
def execDnSelection (s : State) : Host.Outcome State Fault Refusal := event selectDn s

/-- UP_SELECTION. DEDUCED (log entry 20): the transmitter is free, so an UP HOLD still on its way has been sent whole
(R1, R11), and its end is taken first. -/
def execUpSelection (s : State) : Host.Outcome State Fault Refusal := event (fun s => selectUp (upHoldDone s)) s

/-- UP_HOLD_SENT. -/
def execUpHoldSent (s : State) : Host.Outcome State Fault Refusal := event upHoldDone s

-- Link loss (R15) -----------------------------------------------------------------------------------------

/-- The flag that a port's fall raises (R15). -/
def lossFlag : Port → Sticky
  | .up => .linkDnUp
  | .dn => .linkDnDn

/-- LINK_LOSS_EXPIRY: the running link-loss timer of a port expires (R15). -/
def execLinkLossExpiry (p : Port) (s : State) : Host.Outcome State Fault Refusal :=
  event (fun s =>
    if (s.lpu.link.get p).loss.isSome then
      raiseFlag (lossFlag p) (s.setLpu { s.lpu with link := s.lpu.link.set p .down })
    else s) s

-- Cells that arrive as such (R4 to R7) --------------------------------------------------------------------

/-- The act of the block that takes a consumed ORDER or MGT cell, by the command the cell spells (R6). -/
def takeOrderOrMgt : Instr → State → State
  | .netPower h id t c _ => takeNetPower h id t c
  | .unitMode h id u m sp c _ => takeUnitMode h id u m sp c
  | .unitAssign h id u c _ => takeUnitAssign h id u c
  | .unitClear h id u _ => takeUnitClear h id u
  | .abort h id _ => takeAbort h id
  | .resume h id _ => takeResume h id
  | .tableGateOpen h _ => takeGateOpen h
  | .tableGateClose h _ => takeGateClose h
  | .tableGateBadRequest h _ _ => takeGateBadRequest h
  | .plantWrite h i f _ => takePlantWrite h i f
  | .unitWritePresent h i q f _ => takeUnitWritePresent h i q f
  | .unitWriteAbsent h i f _ => takeUnitWriteAbsent h i f
  | .profileWrite h i f => takeProfileWrite h i f
  | .bandWrite h i b f _ => takeBandWrite h i b f
  | .meritWrite h i f _ => takeMeritWrite h i f
  | .waterwayWrite h i b _ => takeWaterwayWrite h i b
  | .tableRead h t i b _ => takeTableRead h t i b
  | .engineRun h _ => takeEngineRun h
  | .enginePause h _ => takeEnginePause h
  | .engineBadRequest h _ _ => takeEngineBadRequest h
  | .restart h _ => takeRestart h
  | .traceOn h _ => takeTraceOn h
  | .traceOff h _ => takeTraceOff h
  | .traceBadRequest h _ _ => takeTraceBadRequest h
  | .watch h u m _ => takeWatch h u m
  | .echo h p => takeEcho h p
  | .tableWriteUnknownTable h t i _ => takeUnknownTable h t i
  | .broadcastTableGate _ _ _ _ => id
  | .resetNLow => id
  | .resetNRelease _ => id
  | .upCellArrival _ => id
  | .dnCellArrival _ => id
  | .linkLossExpiry _ => id
  | .dnSelection => id
  | .upSelection => id
  | .upHoldSent => id
  | .guardExpiry => id
  | .unitStatus _ _ _ _ _ _ _ _ => id
  | .unitIdent _ _ _ _ => id
  | .identityWaitExpiry _ => id
  | .staleExpiry _ => id
  | .convStatus _ _ _ _ _ => id
  | .releaseTimerExpiry => id
  | .stageTimeout _ => id
  | .lockwaitTimeout _ => id
  | .queueTimeout _ => id
  | .minRunExpiry _ => id
  | .minStillExpiry _ => id
  | .lingerExpiry _ => id
  | .rampIntervalExpiry => id
  | .refreshExpiry _ => id
  | .snoopedSubkindIgnored _ _ _ => id

/-- A cell arriving whole at the UP port (R4). A consumed cell of an unlisted sub-kind is discarded (R6). -/
def arriveAtUp (c : Cell) : State → State :=
  if c.kind = kindHold then receive .up .crcUp c id
  else if c.kind = kindOrder ∨ c.kind = kindMgt then
    arriveUp c ((readUpCell c).elim id takeOrderOrMgt)
  else receive .up .crcUp c (forwardDn c)

/-- The act of the Unit Image Block on a consumed TEL cell: UNIT_IDENT alone (R6). -/
def takeTel (c : Cell) (s : State) : State :=
  match readDnCell c with
  | some (.unitIdent h k r _) => takeUnitIdent h k r s
  | _ => s

/-- The act of the Unit Image Block on a snooped TEL cell: UNIT_STATUS and CONV_STATUS alone (R7). -/
def snoopTel (c : Cell) (s : State) : State :=
  match readDnCell c with
  | some (.unitStatus h st f pw hd pm il _) => snoopUnitStatus h st f pw hd pm il s
  | some (.convStatus h r f k _) => snoopConvStatus h r f k s
  | _ => s

/-- A cell arriving whole at the DN port (R5). -/
def arriveAtDn (c : Cell) : State → State :=
  if c.kind = kindHold then receive .dn .crcDn c id
  else if c.kind = kindTel then arriveDn c (takeTel c) (snoopTel c)
  else receive .dn .crcDn c (forwardUp c)

/-- UP_CELL_ARRIVAL. -/
def execUpCellArrival (c : Cell) (s : State) : Host.Outcome State Fault Refusal := event (arriveAtUp c) s

/-- DN_CELL_ARRIVAL. -/
def execDnCellArrival (c : Cell) (s : State) : Host.Outcome State Fault Refusal := event (arriveAtDn c) s

/-- SNOOPED_SUBKIND_IGNORED: a TEL cell, handled by its bytes (R5, R7). -/
def execSnoopedSubkindIgnored (h : Hdr) (sub : Byte) (payload : Payload) (s : State) :
    Host.Outcome State Fault Refusal :=
  event (arriveAtDn (h.cell kindTel sub payload)) s

end Sys2Proof.Machine
end

