-- ==== Sys2Proof/Machine/Dispatch.lean ====
section
/-! DEFINITION. The meaning of every command: one arm per row of spec/opcode_table.json. -/

namespace Sys2Proof.Machine

def exec (i : Instr) (s : State) : Host.Outcome State Fault Refusal :=
  match i with
  | .resetNLow => Sys2Proof.Machine.execResetNLow s
  | .resetNRelease strap => Sys2Proof.Machine.execResetNRelease strap s
  | .upCellArrival c => Sys2Proof.Machine.execUpCellArrival c s
  | .dnCellArrival c => Sys2Proof.Machine.execDnCellArrival c s
  | .linkLossExpiry p => Sys2Proof.Machine.execLinkLossExpiry p s
  | .dnSelection => Sys2Proof.Machine.execDnSelection s
  | .upSelection => Sys2Proof.Machine.execUpSelection s
  | .upHoldSent => Sys2Proof.Machine.execUpHoldSent s
  | .netPower h id target cls pad => Sys2Proof.Machine.execNetPower h id target cls pad s
  | .guardExpiry => Sys2Proof.Machine.execGuardExpiry s
  | .unitMode h id unit mode setpoint cls pad => Sys2Proof.Machine.execUnitMode h id unit mode setpoint cls pad s
  | .unitAssign h id unit code pad => Sys2Proof.Machine.execUnitAssign h id unit code pad s
  | .unitClear h id unit pad => Sys2Proof.Machine.execUnitClear h id unit pad s
  | .abort h id pad => Sys2Proof.Machine.execAbort h id pad s
  | .resume h id pad => Sys2Proof.Machine.execResume h id pad s
  | .tableGateOpen h pad => Sys2Proof.Machine.execTableGateOpen h pad s
  | .tableGateClose h pad => Sys2Proof.Machine.execTableGateClose h pad s
  | .tableGateBadRequest h request pad => Sys2Proof.Machine.execTableGateBadRequest h request pad s
  | .plantWrite h index f pad => Sys2Proof.Machine.execPlantWrite h index f pad s
  | .unitWritePresent h index present f pad => Sys2Proof.Machine.execUnitWritePresent h index present f pad s
  | .unitWriteAbsent h index f pad => Sys2Proof.Machine.execUnitWriteAbsent h index f pad s
  | .profileWrite h index f => Sys2Proof.Machine.execProfileWrite h index f s
  | .bandWrite h profile band f pad => Sys2Proof.Machine.execBandWrite h profile band f pad s
  | .meritWrite h index f pad => Sys2Proof.Machine.execMeritWrite h index f pad s
  | .waterwayWrite h index budget pad => Sys2Proof.Machine.execWaterwayWrite h index budget pad s
  | .tableRead h table index band pad => Sys2Proof.Machine.execTableRead h table index band pad s
  | .engineRun h pad => Sys2Proof.Machine.execEngineRun h pad s
  | .enginePause h pad => Sys2Proof.Machine.execEnginePause h pad s
  | .engineBadRequest h request pad => Sys2Proof.Machine.execEngineBadRequest h request pad s
  | .restart h rest => Sys2Proof.Machine.execRestart h rest s
  | .traceOn h pad => Sys2Proof.Machine.execTraceOn h pad s
  | .traceOff h pad => Sys2Proof.Machine.execTraceOff h pad s
  | .traceBadRequest h request pad => Sys2Proof.Machine.execTraceBadRequest h request pad s
  | .watch h unit mask pad => Sys2Proof.Machine.execWatch h unit mask pad s
  | .echo h payload => Sys2Proof.Machine.execEcho h payload s
  | .unitStatus h stage fault power head perm interlocks pad => Sys2Proof.Machine.execUnitStatus h stage fault power head perm interlocks pad s
  | .unitIdent h classCode rated pad => Sys2Proof.Machine.execUnitIdent h classCode rated pad s
  | .identityWaitExpiry u => Sys2Proof.Machine.execIdentityWaitExpiry u s
  | .staleExpiry u => Sys2Proof.Machine.execStaleExpiry u s
  | .convStatus h ready fault connected pad => Sys2Proof.Machine.execConvStatus h ready fault connected pad s
  | .releaseTimerExpiry => Sys2Proof.Machine.execReleaseTimerExpiry s
  | .stageTimeout u => Sys2Proof.Machine.execStageTimeout u s
  | .lockwaitTimeout u => Sys2Proof.Machine.execLockwaitTimeout u s
  | .queueTimeout u => Sys2Proof.Machine.execQueueTimeout u s
  | .minRunExpiry u => Sys2Proof.Machine.execMinRunExpiry u s
  | .minStillExpiry u => Sys2Proof.Machine.execMinStillExpiry u s
  | .lingerExpiry u => Sys2Proof.Machine.execLingerExpiry u s
  | .rampIntervalExpiry => Sys2Proof.Machine.execRampIntervalExpiry s
  | .refreshExpiry u => Sys2Proof.Machine.execRefreshExpiry u s
  | .tableWriteUnknownTable h table index rest => Sys2Proof.Machine.execTableWriteUnknownTable h table index rest s
  | .broadcastTableGate src crc request pad => Sys2Proof.Machine.execBroadcastTableGate src crc request pad s
  | .snoopedSubkindIgnored h sub payload => Sys2Proof.Machine.execSnoopedSubkindIgnored h sub payload s

end Sys2Proof.Machine
end

