-- ==== Sys2Proof/Safety.lean ====
section
/-! DEFINITION. The terms in which claims about the part are stated: how a cell reaches it, the ranges its tables keep,
and the consistency of its queues, its outputs and the resources its units share. -/

namespace Sys2Proof

-- The rows as cells --------------------------------------------------------------------------------------

/-- The rows whose cell arrives at the DN port. -/
def Instr.atDn : Instr → Bool
  | .dnCellArrival _ => true
  | .unitStatus _ _ _ _ _ _ _ _ => true
  | .unitIdent _ _ _ _ => true
  | .convStatus _ _ _ _ _ => true
  | .snoopedSubkindIgnored _ _ _ => true
  | _ => false

/-- The rows that carry a cell whole, to be read by its bytes. -/
def Instr.carriesCell : Instr → Bool
  | .upCellArrival _ => true
  | .dnCellArrival _ => true
  | .snoopedSubkindIgnored _ _ _ => true
  | _ => false

/-- The row that a command acts as: for a cell that arrives as such at UP, the row its bytes spell. -/
def Instr.spelled : Instr → Instr
  | .upCellArrival c => (readUpCell c).getD (.upCellArrival c)
  | i => i

/-- Of a TABLE_WRITE row, its header and the table, index and band number its MGT_RESULT carries (R23). -/
def Instr.tableWrite : Instr → Option (Hdr × Byte × Byte × Byte)
  | .plantWrite h i _ _ => some (h, 1, i, 0)
  | .unitWritePresent h i _ _ _ => some (h, 2, i, 0)
  | .unitWriteAbsent h i _ _ => some (h, 2, i, 0)
  | .profileWrite h i _ => some (h, 3, i, 0)
  | .bandWrite h i b _ _ => some (h, 4, i, b)
  | .meritWrite h i _ _ => some (h, 5, i, 0)
  | .waterwayWrite h i _ _ => some (h, 6, i, 0)
  | .tableWriteUnknownTable h t i _ => some (h, t, i, 0)
  | _ => none

end Sys2Proof

namespace Sys2Proof.Machine

-- How a cell reaches the part -----------------------------------------------------------------------------

/-- A whole cell arrives while RESET_N is not low, and its CRC matches (R1, R2). -/
def Delivered (c : Cell) (s : State) : Prop := s.held = false ∧ c.crcGood = true

/-- A valid cell arrives that is addressed to the part, whose address is never 31 (R3). -/
def DeliveredToPart (c : Cell) (s : State) : Prop := Delivered c s ∧ toPart c s = true ∧ c.dest ≠ Config.broadcast

/-- A valid broadcast cell arrives at a part whose own address is not 31, as R3 sees to. -/
def DeliveredBroadcast (c : Cell) (s : State) : Prop :=
  Delivered c s ∧ c.dest = Config.broadcast ∧ s.lpu.addr < 31

/-- A valid cell arrives that is not addressed to the part. -/
def DeliveredPast (c : Cell) (s : State) : Prop := Delivered c s ∧ toPart c s = false

-- What a command leaves, written out ----------------------------------------------------------------------

/-- The report queue has room for this many reports (R185). -/
def ReportRoom (n : Nat) (s : State) : Prop := s.rpb.queue.length + n ≤ 16

/-- A sticky flag raised, by its bit; during an UP HOLD's transmission its raised-again mark too (R188, R189). -/
def State.withFlag (s : State) (bit : BitVec 8) : State :=
  { s with rpb := { s.rpb with
      flags := s.rpb.flags ||| bit
      again := match s.lpu.upTx with
        | .hold _ => s.rpb.again ||| bit
        | _ => s.rpb.again } }

/-- A report at the tail of the queue, or REPORT_LOST when 16 are queued (R185, R188). -/
def State.reported (s : State) (r : Report) : State :=
  if s.rpb.queue.length < 16 then { s with rpb := { s.rpb with queue := s.rpb.queue ++ [r] } } else s.withFlag 0x01

/-- The port UP with its link-loss timer started from 100 ms (R15). -/
def State.withLinkUp (s : State) (p : Port) : State :=
  { s with lpu := { s.lpu with link := s.lpu.link.set p { isUp := true, loss := some 100 } } }

/-- A cell at the tail of the DN-forward queue, or FWD_DROP_DN when 32 are queued (R8). -/
def State.forwardedDn (s : State) (c : Cell) : State :=
  if s.lpu.dnFwd.length < 32 then { s with lpu := { s.lpu with dnFwd := s.lpu.dnFwd ++ [c] } } else s.withFlag 0x04

/-- A cell at the tail of the UP-forward queue, or FWD_DROP_UP when 32 are queued (R8). -/
def State.forwardedUp (s : State) (c : Cell) : State :=
  if s.lpu.upFwd.length < 32 then { s with lpu := { s.lpu with upFwd := s.lpu.upFwd ++ [c] } } else s.withFlag 0x02

/-- What orders, unit telemetry and the units' timers leave: RESET_N and the waiting commands, the tables, the converter
image, the crossing records, the carried record, the snapshot number, the trace flag, and of the link port everything
but link states, forward queues and waiting commands. -/
structure LeavesSetting (s t : State) : Prop where
  pending   : t.pending = s.pending
  held      : t.held = s.held
  lpu       : t.lpu = { s.lpu with link := t.lpu.link, dnFwd := t.lpu.dnFwd, upFwd := t.lpu.upFwd, cmds := t.lpu.cmds }
  tbs       : t.tbs = s.tbs
  conv      : t.uib.conv = s.uib.conv
  crossings : t.rmp.crossings = s.rmp.crossings
  carried   : t.rpb.carried = s.rpb.carried
  snapshot  : t.rpb.snapshot = s.rpb.snapshot
  trace     : t.dse.trace = s.dse.trace

-- What reports, runs and sequencers leave -----------------------------------------------------------------

/-- A report waits in the report queue, or the queue was full and REPORT_LOST is raised (R185, R188). -/
def Queued (r : Report) (t : State) : Prop := r ∈ t.rpb.queue ∨ t.rpb.flags.getLsbD 0 = true

/-- The ORDER_RESULT REPLANNED of a run made in `t` for the order that stands in `s` (R85). -/
def replannedReport (s t : State) : Report :=
  .orderResult s.dse.standing.order.src s.dse.standing.order.id 0x01 .replanned 0 (some t.alc.summary)

/-- What a run other than the one at a taking leaves of the standing order record: the order, the new summary, and the
state ACTIVE, or SETTLED again with its ORDER_STATE where a settling check of the same event has passed (R81, R82, R85). -/
def Replanned (s t : State) : Prop :=
  let o := s.dse.standing.order
  t.dse.standing.order = o ∧ t.dse.standing.summary = t.alc.summary ∧ (t.dse.standing.state = .active ∨
    t.dse.standing.state = .settled ∧ Queued (.orderState o.src o.id .settled o.target t.alc.summary) t)

/-- The unit holds no lock and no converter grant, and waits for neither (R125, R139, R142). -/
def GaveUp (t : State) (u : UnitNo) : Prop :=
  t.pra.holder ≠ some u ∧ u ∉ t.pra.startQueue ∧
    ∀ w, (t.pra.locks.get w).holder ≠ some u ∧ u ∉ (t.pra.locks.get w).waiters

/-- The sequencer has entered a timed state: its stage timer runs with the timeout, the stage in the image is its prior
stage, and the command waits to be sent (R118). -/
def Entered (t : State) (u : UnitNo) (n : SeqState) (cmd : Command) (timeout : Nat) : Prop :=
  (t.seq u).state = n ∧ (t.seq u).stageTimer = some timeout ∧ (t.seq u).prior = (t.image u).stage ∧
    { slot := .stage u, dest := (t.unit u).addr, cmd } ∈ t.lpu.cmds

/-- The sequencer has entered STOPPING and given up what the unit held (R125). -/
def Stopped (t : State) (u : UnitNo) : Prop :=
  Entered t u .stopping .stop (t.profileOf u).tStop ∧ (t.seq u).minRun = none ∧ (t.seq u).linger = none ∧ GaveUp t u

/-- The sequencer has asked for its waterway's lock: granted at once it has gone on to `next`, else it waits at the tail
of the waiter list, from the origin `o` (R119, R121, R124, R158). -/
def AskedLock (s t : State) (u : UnitNo) (wait next : SeqState) (o : Origin) (cmd : Command) (timeout : Nat) : Prop :=
  let w := (s.unit u).waterway
  let l := s.pra.locks.get w
  (l.holder = none → Entered t u next cmd timeout ∧ (t.pra.locks.get w).holder = some u) ∧
  (l.holder ≠ none → (t.seq u).state = wait ∧ (t.seq u).stageTimer = some (s.profileOf u).tLockwait ∧
    (t.seq u).origin = o ∧ (t.pra.locks.get w).waiters = (l.waiters.filter fun v => v != u) ++ [u])

/-- What the sequencer of a unit that stands in the stable state `x` does on the plan entry `e`, from `s` to `t`, with the
unit's image `i`, its min-still timer and its pending-lockout marker (R128 to R131). -/
def ActedFrom (s t : State) (u : UnitNo) (x : SeqState) (e : Entry) (i : Image) (minStill : Timer)
    (pendLockout : Bool) : Prop :=
  let p := s.profileOf u
  let linger := (s.unit u).linger
  let free := (∀ k, minStill = some k → k = 0) ∧ i.perm.lockout.val = false ∧ pendLockout = false
  let lingers := 0 < linger ∧ i.perm.air.val = true ∧ i.perm.lockout.val = false ∧ pendLockout = false ∧
    e.forcedOut = false
  let stays := (t.seq u).state = x
  let turbine := (free → AskedLock s t u .gLockwait .gRunup .still .goTurbine p.tRunup) ∧ (¬free → stays)
  let pump := (free → Entered t u .pDewater .dewater p.tDewater) ∧ (¬free → stays)
  let inAir := (lingers → stays ∧ (t.seq u).linger = some linger) ∧ (¬lingers → Stopped t u)
  match x, e.mode with
  | .still, .still => stays
  | .still, .gen => turbine
  | .still, .genAir => turbine
  | .still, .pump => pump
  | .still, .pumpAir => pump
  | .gOn, .gen => stays
  | .gOn, .genAir => Entered t u .gUnload .unloadAir p.tUnload
  | .gOn, .still => (lingers → Entered t u .gUnload .unloadAir p.tUnload) ∧ (¬lingers → Stopped t u)
  | .gOn, _ => Stopped t u
  | .pOn, .pump => stays
  | .pOn, .pumpAir => Entered t u .pUnload .unloadAir p.tUnload
  | .pOn, .still => (lingers → Entered t u .pUnload .unloadAir p.tUnload) ∧ (¬lingers → Stopped t u)
  | .pOn, _ => Stopped t u
  | .gAir, .gen => AskedLock s t u .gLockwait .gLoad .air .load p.tLoad
  | .gAir, .genAir => stays ∧ (t.seq u).linger = none
  | .gAir, .still => inAir
  | .gAir, _ => Stopped t u
  | .pAir, .pump => AskedLock s t u .pLockwait .pPrime .air .prime p.tPrime
  | .pAir, .pumpAir => stays ∧ (t.seq u).linger = none
  | .pAir, .still => inAir
  | .pAir, _ => Stopped t u
  | _, _ => True

-- Ranges of the tables (R22, R24, R26, R30, R32, R33, R34) ------------------------------------------------

/-- Every field of the PLANT entry lies in its range (R24). -/
structure Plant.InRange (p : Plant) : Prop where
  ti          : 5 ≤ p.ti ∧ p.ti ≤ 50
  guardTime   : p.guardTime ≤ 600
  staleTime   : 5 ≤ p.staleTime ∧ p.staleTime ≤ 100
  identWait   : 10 ≤ p.identWait ∧ p.identWait ≤ 100
  debounce    : 1 ≤ p.debounce ∧ p.debounce ≤ 4
  convAddr    : 1 ≤ p.convAddr ∧ p.convAddr ≤ 30
  releaseTime : 1 ≤ p.releaseTime ∧ p.releaseTime ≤ 60

/-- Every field of a UNIT entry lies in its range; the link address of an entry never written is 0 (R26). -/
structure UnitEntry.InRange (e : UnitEntry) : Prop where
  addr      : e.addr ≤ 30
  present   : e.present = true → 1 ≤ e.addr
  classCode : e.classCode ≤ 255
  rated     : 1 ≤ e.rated ∧ e.rated ≤ 5000
  minRun    : e.minRun ≤ 7200
  minStill  : e.minStill ≤ 7200
  linger    : e.linger ≤ 1800

/-- Every field of a PROFILE entry lies in its range (R30). -/
structure Profile.InRange (p : Profile) : Prop where
  timeouts  : ∀ t ∈ p.timeouts, t.2 ≤ 3600
  rates     : p.rate0 ≤ 1000 ∧ p.rate1 ≤ 1000 ∧ p.rate2 ≤ 1000 ∧ p.rate3 ≤ 1000
  refresh   : 1 ≤ p.refresh ∧ p.refresh ≤ 60
  bandCount : p.bandCount ≤ 12
  hyst      : p.hyst ≤ 500

/-- Every field of a BAND entry lies in its range (R32). -/
structure Band.InRange (b : Band) : Prop where
  lower : b.lower ≤ 15000
  gmin  : b.gmin ≤ 5000
  gmax  : b.gmax ≤ 5000
  ppump : b.ppump ≤ 5000
  rzlo  : b.rzlo ≤ 5000
  rzhi  : b.rzhi ≤ 5000

/-- Every entry of the six tables lies in its ranges, and a merit list names no unit twice. -/
structure Tbs.InRange (t : Tbs) : Prop where
  plant     : t.plant.InRange
  units     : ∀ u, (t.units.get u).InRange
  profiles  : ∀ p : Fin 4, (t.profiles[p]).InRange
  bands     : ∀ (p : Fin 4) (k : Fin 12), ((t.bands[p])[k]).InRange
  meritGen  : t.meritGen.Nodup
  meritPump : t.meritPump.Nodup
  budgets   : ∀ w, t.budgets.get w ≤ 2000

/-- The part's address is 1 to 30, and a present unit shares its link address with no other present unit, with the part
or with the converter (R3, R25, R27). -/
structure AddressesApart (s : State) : Prop where
  own       : 1 ≤ s.lpu.addr ∧ s.lpu.addr ≤ 30
  units     : ∀ u v, (s.unit u).present = true → (s.unit v).present = true → (s.unit u).addr = (s.unit v).addr → u = v
  fromPart  : ∀ u, (s.unit u).present = true → (s.unit u).addr ≠ s.lpu.addr
  fromConv  : ∀ u, (s.unit u).present = true → (s.unit u).addr ≠ s.tbs.plant.convAddr

-- Validation at RUN (R39) ---------------------------------------------------------------------------------

/-- The unit passes every check of the validation (R39). -/
structure PassesRun (s : State) (u : UnitNo) : Prop where
  bands    : (s.profileOf u).bandCount ≠ 0
  timeouts : ∀ t ∈ (s.profileOf u).timeouts, t.2 ≠ 0
  rate     : (s.profileOf u).rate0 ≠ 0
  budget   : s.tbs.budgets.get (s.unit u).waterway ≠ 0

-- Bands (R48) ---------------------------------------------------------------------------------------------

/-- A band whose limits and rough zone are in order, as the judgement of R48 asks of a band's own fields. -/
structure Band.Sound (b : Band) : Prop where
  limits : b.gmin ≤ b.gmax
  zone   : b.hasZone = true → b.gmin < b.rzlo ∧ b.rzlo < b.rzhi ∧ b.rzhi < b.gmax

/-- A power within a band's range and not strictly inside its rough zone (R87). -/
structure Band.Allows (b : Band) (v : Nat) : Prop where
  limits : b.gmin ≤ v ∧ v ≤ b.gmax
  zone   : b.hasZone = true → v ≤ b.rzlo ∨ b.rzhi ≤ v

-- Queues and outputs --------------------------------------------------------------------------------------

/-- No slot of the command queue waits twice (R9). -/
def Lpu.slotsDistinct (l : Lpu) : Prop := (l.cmds.map Waiting.slot).Nodup

/-- The queues are within their capacities, the command slots are distinct, and PLANT_ALERT_N stands as its condition
says (R8, R9, R185, R192). -/
structure QueuesAndAlert (s : State) : Prop where
  dnFwd  : s.lpu.dnFwd.length ≤ 32
  upFwd  : s.lpu.upFwd.length ≤ 32
  queue  : s.rpb.queue.length ≤ 16
  slots  : s.lpu.slotsDistinct
  alert  : s.rpb.alertLow = s.alertDue

-- Resources of the plant ----------------------------------------------------------------------------------

/-- The states in which a sequencer holds its waterway's lock (R158, R160). -/
def SeqState.holdsLock (n : SeqState) : Bool := n == .gRunup || n == .gSync || n == .gLoad || n == .pPrime

/-- The states in which a sequencer waits for a lock (R158). -/
def SeqState.waitsForLock (n : SeqState) : Bool := n == .gLockwait || n == .pLockwait

/-- The arbiter has a grant (R146). -/
def ConvState.granted (c : ConvState) : Bool := c == .connecting || c == .inUse

/-- What the Plant Resource Arbiter holds agrees with the sequencers: who waits is in a waiting state, who holds is in a
holding state, nobody waits twice, a lock is not free while a unit waits for it, and a sequencer out of DORMANT
belongs to a present, VERIFIED unit of an engine that is not PAUSED (R62, R114, R146, R149, R155, R158, R160). -/
structure ResourcesAgree (s : State) : Prop where
  queueNodup   : s.pra.startQueue.Nodup
  queueState   : ∀ u ∈ s.pra.startQueue, (s.seq u).state = .pConvwait
  granted      : s.pra.arb.granted = s.pra.holder.isSome
  holderState  : ∀ u, s.pra.holder = some u → (s.seq u).state = .pRunup
  waitersNodup : ∀ w, (s.pra.locks.get w).waiters.Nodup
  waiterState  : ∀ w, ∀ u ∈ (s.pra.locks.get w).waiters,
                   (s.unit u).waterway = w ∧ (s.seq u).state.waitsForLock = true
  lockState    : ∀ w u, (s.pra.locks.get w).holder = some u →
                   (s.unit u).waterway = w ∧ (s.seq u).state.holdsLock = true
  lockTaken    : ∀ w, (s.pra.locks.get w).holder = none → (s.pra.locks.get w).waiters = []
  awake        : ∀ u, (s.seq u).state ≠ .dormant →
                   s.dse.engine ≠ .paused ∧ (s.unit u).present = true ∧ (s.image u).identity = .verified

/-- While the engine is PAUSED, the sequencers and the Ramp Engine are at their reset values, no order stands or is
deferred, the arbiter is FREE or FAULTED, and only IDENT_REQ waits to be sent (R62, R67). -/
structure PausedQuiet (s : State) : Prop where
  seqs     : ∀ u, s.seq u = .cold
  ramp     : s.rmp = .cold
  standing : s.dse.standing.state = .none
  deferred : s.dse.deferred = none
  guard    : s.dse.guardTmr = none
  arbiter  : s.pra.arb = .free ∨ s.pra.arb = .faulted
  commands : ∀ w ∈ s.lpu.cmds, w.cmd = .identReq

/-- The consistency that every step keeps. -/
structure Consistent (s : State) : Prop where
  resources : ResourcesAgree s
  paused    : s.dse.engine = .paused → PausedQuiet s

-- The sequencers' turns on a plan ---------------------------------------------------------------------------

/-- The path that a start is on leads to the planned mode, so that the sequencer goes on with it (R126, R127). -/
def GoesOn (q : Seq) (m : PlanMode) : Prop :=
  match q.state with
  | .gLockwait => m = .gen ∨ m = .genAir ∧ q.origin ≠ .air
  | .gRunup => m = .gen ∨ m = .genAir
  | .gSync => m = .gen ∨ m = .genAir
  | .gLoad => m = .gen ∨ m = .genAir
  | .pLockwait => m = .pump
  | .pDewater => m = .pump ∨ m = .pumpAir
  | .pConvwait => m = .pump ∨ m = .pumpAir
  | .pRunup => m = .pump ∨ m = .pumpAir
  | .pPrime => m = .pump ∨ m = .pumpAir
  | _ => False

/-- A start that is under way and no longer waits for its lock (R126). -/
def Starting (n : SeqState) : Prop :=
  n = .gRunup ∨ n = .gSync ∨ n = .gLoad ∨ n = .pDewater ∨ n = .pConvwait ∨ n = .pRunup ∨ n = .pPrime

/-- A sequencer waits for its lock, and its wait ends in its origin when it acts on this planned mode (R127). -/
def Returns (q : Seq) (m : PlanMode) : Prop := (q.state = .gLockwait ∨ q.state = .pLockwait) ∧ ¬GoesOn q m

/-- A waiting sequencer is handed its lock and goes on by its state and origin, its other timers kept (R118, R159). -/
def Granted (a b : State) (v : UnitNo) : Prop :=
  let q := a.seq v
  let p := a.profileOf v
  let entered (n : SeqState) (cmd : Command) (timeout : Nat) : Prop :=
    b.seq v = { q with state := n, origin := (b.seq v).origin, prior := (a.image v).stage, stageTimer := some timeout } ∧
      { slot := .stage v, dest := (a.unit v).addr, cmd } ∈ b.lpu.cmds
  (q.state = .pLockwait → entered .pPrime .prime p.tPrime) ∧
  (q.state = .gLockwait → q.origin = .air → entered .gLoad .load p.tLoad) ∧
  (q.state = .gLockwait → q.origin ≠ .air → entered .gRunup .goTurbine p.tRunup)

/-- What the turn of one sequencer leaves, from `a` to `b`: everything but sequencers, resources, waiting stage and
converter commands and reports; its own min-still timer and marker; its setpoint until it leaves G_ON; the setpoint
slots; and every other sequencer, but for the head of the waiter list of a lock that it gives up by stopping, which is
handed that lock. A converter grant so given up is released (R89, R113, R118, R149, R156, R158 to R162, R168). -/
structure TurnFrame (a b : State) (u : UnitNo) : Prop where
  rest      : b = { a with
                lpu := { a.lpu with cmds := b.lpu.cmds }
                seqs := b.seqs
                pra := b.pra
                rmp := { a.rmp with units := b.rmp.units }
                rpb := b.rpb }
  own       : (b.seq u).minStill = (a.seq u).minStill ∧ (b.seq u).pendLockout = (a.seq u).pendLockout
  stays     : (b.seq u).state = (a.seq u).state →
                b = { a with seqs := a.seqs.set u { a.seq u with linger := (b.seq u).linger } }
  ramp      : b.ramp u = if (a.seq u).state = .gOn ∧ (b.seq u).state ≠ .gOn
                then { setpoint := none, refresh := none, rate := none } else a.ramp u
  others    : ∀ v, v ≠ u →
                let l := a.pra.locks.get (a.unit u).waterway
                let handed := l.holder = some u ∧ (b.seq u).state = .stopping ∧ l.waiters.head? = some v
                b.ramp v = a.ramp v ∧ (handed → Granted a b v) ∧ (¬handed → b.seq v = a.seq v ∧
                  (b.lpu.cmds.filter fun w => w.slot == .stage v) = a.lpu.cmds.filter fun w => w.slot == .stage v)
  setpoints : ∀ v, (b.lpu.cmds.filter fun w => w.slot == .setpoint v) = a.lpu.cmds.filter fun w => w.slot == .setpoint v
  lock      : let l := a.pra.locks.get (a.unit u).waterway
              let k := b.pra.locks.get (a.unit u).waterway
              (l.holder = some u → (b.seq u).state = .stopping →
                k = { holder := l.waiters.head?, waiters := l.waiters.tail }) ∧
              (l.holder = some u → (b.seq u).state ≠ .stopping → k = l) ∧
              (l.holder ≠ some u → (k.holder = l.holder ∨ l.holder = none ∧ k.holder = some u) ∧
                (k.waiters.filter fun v => v != u) = l.waiters.filter fun v => v != u) ∧
              ((b.seq u).state.waitsForLock = false → u ∉ k.waiters)
  otherLock : ∀ w, w ≠ (a.unit u).waterway → b.pra.locks.get w = a.pra.locks.get w
  queue     : b.pra.startQueue = if (b.seq u).state = .stopping then a.pra.startQueue.filter fun v => v != u
                else a.pra.startQueue
  released  : a.pra.holder = some u → (b.seq u).state = .stopping →
                b.pra.arb = .releasing ∧ b.pra.holder = none ∧ b.pra.releaseTmr = some a.tbs.plant.releaseTime ∧
                  { slot := .converter, dest := a.tbs.plant.convAddr, cmd := .convRelease } ∈ b.lpu.cmds
  converter : a.pra.holder ≠ some u ∨ (b.seq u).state ≠ .stopping →
                b.pra.arb = a.pra.arb ∧ b.pra.holder = a.pra.holder ∧ b.pra.releaseTmr = a.pra.releaseTmr ∧
                  (b.lpu.cmds.filter fun w => w.slot == .converter) = a.lpu.cmds.filter fun w => w.slot == .converter

/-- A sequencer acts on its planned mode, from `a` to `b`: from a stable state as its table says; a start goes on or is
abandoned through STOPPING; a lock wait goes on or returns to its origin and acts there; and one that unloads, stops or is
outside dispatch does nothing. Only an abandoned start and a return are reported (R117, R126 to R131, R144). -/
def SequencerTurn (a b : State) (u : UnitNo) : Prop :=
  let q := a.seq u
  let e := a.entry u
  let i := a.image u
  let back : SeqState := if q.state = .pLockwait then .pAir else if q.origin = .air then .gAir else .still
  let actsFrom (x : SeqState) : Prop := ActedFrom a b u x e i q.minStill q.pendLockout
  let reports (l : List Report) : Prop :=
    b.rpb = { (l.foldl State.reported a).rpb with alertLow := b.rpb.alertLow }
  TurnFrame a b u ∧
  (q.state.stable = true → actsFrom q.state ∧ reports []) ∧
  (Returns q e.mode → actsFrom back ∧ reports [.unitState u q.state back .returned i.stage i.fault]) ∧
  (Starting q.state → ¬GoesOn q e.mode →
    Stopped b u ∧ reports [.unitState u q.state .stopping .abandoned i.stage i.fault]) ∧
  (q.state.stable = false → ¬Returns q e.mode → ¬(Starting q.state ∧ ¬GoesOn q e.mode) → b = a)

/-- A sequencer is to act on a plan just written: its planned mode is another than in `old`, or the event owes it an action
(R89, R116, R117, R132, R141). -/
def ToAct (old : PerUnit Entry) (due : List UnitNo) (a : State) (u : UnitNo) : Prop :=
  (old.get u).mode ≠ (a.entry u).mode ∨ u ∈ due

/-- One sequencer's turn on a plan just written: it acts where it is to act; lingering in air with STILL planned it stops
where the forced-out marker is newly set; and in every other case it does nothing (R89, R117, R131). -/
def PlanTurn (old : PerUnit Entry) (due : List UnitNo) (a b : State) (u : UnitNo) : Prop :=
  let e := a.entry u
  let q := a.seq u
  let marked := e.mode = .still ∧ e.forcedOut = true ∧ (old.get u).forcedOut = false ∧ q.linger.isSome = true ∧
    (q.state = .gAir ∨ q.state = .pAir)
  (ToAct old due a u → SequencerTurn a b u) ∧
  (¬ToAct old due a u → marked → TurnFrame a b u ∧ Stopped b u ∧
    b.rpb = { a.rpb with alertLow := b.rpb.alertLow }) ∧
  (¬ToAct old due a u → ¬marked → b = a)

/-- Every present auto unit has reached its plan (R82). -/
def PlanReached (s : State) : Prop :=
  ∀ u, (s.unit u).present = true → s.assignOf u = .auto →
    ((s.entry u).mode = .gen → (s.seq u).state = .gOn) ∧ ((s.entry u).mode = .pump → (s.seq u).state = .pOn) ∧
    ((s.entry u).mode = .still →
      (s.seq u).state = .still ∨ (s.seq u).state = .tripped ∨ (s.seq u).state = .localCmd) ∧
    ((s.seq u).state = .gOn → (s.ramp u).setpoint = (s.entry u).share)

/-- The settling check that ends an event, made where the event took a sequencer into a stable state (R82, R89). -/
def SettlesIf (entered : Prop) (s t : State) : Prop :=
  let r := s.dse.standing
  let passes := entered ∧ s.dse.engine = .running ∧ r.state = .active ∧ PlanReached s
  (passes → t = ({ s with dse := { s.dse with standing := { r with state := .settled } } } : State).reported
    (.orderState r.order.src r.order.id .settled r.order.target r.summary)) ∧
  (¬passes → t = s)

/-- The sequencers of these units take their turns on a plan just written, one after another, each finding what the one
before it left; then the settling check. `old` is the plan before, `due` the units that the event owes an action,
`entered` whether the event has taken a sequencer into a stable state (R82, R89, R116). -/
def InTurn (old : PerUnit Entry) (due : List UnitNo) : List UnitNo → Prop → State → State → Prop
  | [], entered, s, t => SettlesIf entered s t
  | u :: us, entered, s, t => ∃ b, PlanTurn old due s b u ∧
      InTurn old due us (entered ∨ ToAct old due s u ∧ Returns (s.seq u) (s.entry u).mode) b t

/-- The sequencers' turns on a plan just written, in ascending unit number (R89, R117); the units in `due` take theirs in
the same pass (log entry 13). -/
def PlanActed (old : PerUnit Entry) (due : List UnitNo) (entered : Prop) (s t : State) : Prop :=
  InTurn old due [.u1, .u2, .u3, .u4, .u5, .u6] entered s t

/-- What an allocation run other than the one at a taking writes: the plan, the standing order record ACTIVE with the
plan's summary, and REPLANNED (R81, R85, R88, R89). -/
def State.afterRun (s : State) : State :=
  let o := s.dse.standing.order
  let a := plan s
  ({ s with
      alc := a
      dse := { s.dse with standing := { state := .active, order := o, summary := a.summary } } } : State).reported
    (.orderResult o.src o.id 0x01 .replanned 0 (some a.summary))

/-- An allocation run in `s`, the sequencers' turns on its plan, and the settling check (R85, R89). -/
def RanFrom (s : State) (due : List UnitNo) (entered : Prop) (t : State) : Prop :=
  PlanActed s.alc.entries due entered s.afterRun t

-- What a content change of a profile or band does ---------------------------------------------------------

/-- An image with band and region taken at once from its head and these tables; NONE where the head is invalid (R35,
R50). -/
def retaken (tbs : Tbs) (p : Fin 4) (i : Image) : Image :=
  match i.head with
  | none => { i with band := .none, region := none }
  | some h =>
    let taken := selectBand tbs.bands[p] (tbs.profiles[p]).bandCount h
    { i with band := taken.1, region := some taken.2 }

/-- The consequences of a unit's band change from `s` to `t`, no order standing: its entry re-examined against the new
band and a changed manual entry reported, its sequencer's action where the unit is forced out, and the setpoint of a unit in
G_ON clamped into the new band, set, or ended (R107, R108, R110, R111, R126, R127, R178, R179). -/
def BandChangeTaken (s t : State) (u : UnitNo) : Prop :=
  let n := (s.seq u).state
  let e := s.entry u
  let i := s.image u
  let turbine := ∃ b, t.bandOf u = some b ∧ b.turb = true
  let pump := ∃ b, t.bandOf u = some b ∧ b.pump = true
  let goes := (e.mode = .gen ∧ ¬turbine) ∨ (e.mode = .pump ∧ ¬pump)
  let running := n = .gOn ∨ n = .gAir ∨ n = .pAir ∨ n = .pOn
  let starting := n = .gRunup ∨ n = .gSync ∨ n = .gLoad ∨ n = .pDewater ∨ n = .pConvwait ∨ n = .pRunup ∨ n = .pPrime
  let waits := n = .gLockwait ∨ n = .pLockwait
  let fromStill := n = .gLockwait ∧ (s.seq u).origin ≠ .air
  (goes → t.entry u = { e with mode := .still, share := none, forcedOut := true }) ∧
  (¬goes → ∀ b, t.bandOf u = some b → t.entry u =
    if e.mode = .gen then { e with share := e.share.map fun v : Nat => b.clamp v } else e) ∧
  (¬goes → t.bandOf u = none → t.entry u = e) ∧
  (s.assignOf u = .manual → t.entry u ≠ e →
    Queued (.manualReplan e.originSrc e.originId u (t.entry u).mode (t.entry u).share) t) ∧
  (goes → running → Stopped t u) ∧
  (goes → starting → Stopped t u ∧ Queued (.unitState u n .stopping .abandoned i.stage i.fault) t) ∧
  (goes → waits → Stopped t u ∨ (fromStill ∧ (t.seq u).state = .still ∧ GaveUp t u)) ∧
  (¬goes → waits → t.seq u = s.seq u ∨ (t.pra.locks.get (s.unit u).waterway).holder = some u) ∧
  (¬waits → ¬goes ∨ ¬(running ∨ starting) → t.seq u = s.seq u) ∧
  (n ≠ .gOn → t.ramp u = s.ramp u) ∧
  (n = .gOn → goes ∨ ¬turbine → t.ramp u = { setpoint := none, refresh := none, rate := none }) ∧
  (n = .gOn → ¬goes → ∀ b, t.bandOf u = some b → b.turb = true →
    let v := b.clamp (((s.ramp u).setpoint.map fun x : Nat => (x : Int)).getD i.power)
    (t.ramp u).setpoint = some v ∧ (t.ramp u).refresh = some (t.profileOf u).refresh ∧
    { slot := .setpoint u, dest := (s.unit u).addr, cmd := .setpoint v } ∈ t.lpu.cmds)

/-- What a stored PROFILE or BAND write does to the units, no order standing: a present unit of the profile whose band is
another than before, or is the band `rewritten`, takes a band change; every other unit keeps entry, setpoint and sequencer,
but for a wait that ends with its lock granted (R35, R36). -/
def ContentsTaken (s t : State) (p : Fin 4) (rewritten : Option (Fin 12)) : Prop :=
  t.dse = s.dse ∧ t.alc.summary = s.alc.summary ∧
  ∀ u,
    let changed := (s.unit u).present = true ∧ (s.unit u).profile = p ∧
      ((t.image u).band ≠ (s.image u).band ∨ ∃ k, rewritten = some k ∧ (t.image u).band = .num k)
    (changed → BandChangeTaken s t u) ∧
    (¬changed → t.entry u = s.entry u ∧ t.ramp u = s.ramp u ∧
      (t.seq u = s.seq u ∨ (s.seq u).state.waitsForLock = true ∧
        (t.pra.locks.get (s.unit u).waterway).holder = some u))

/-- The run that a command calls for under a standing order: made once, on the state that the command leaves where no order
stands, its REPLANNED queued after every report of that state; the sequencers then take their turns on its plan, and
the settling check is made where the command or a turn took one into a stable state (R36, R82, R85, R89). -/
def RunAfter (i : Instr) (s t : State) : Prop :=
  ∃ r, exec i { s with dse := { s.dse with standing := { s.dse.standing with state := .none } } } = .next r ∧
    t.alc = plan { r with dse := s.dse } ∧ Replanned s t ∧
    (r.rpb.queue.length < 16 → ∃ rs, t.rpb.queue = r.rpb.queue ++ replannedReport s t :: rs) ∧
    (ResourcesAgree s → ∃ entered : Prop, (entered → ∃ u, r.seq u ≠ s.seq u) ∧
      ((∃ u, (r.seq u).state ≠ (s.seq u).state ∧ (r.seq u).state.stable = true) → entered) ∧
      RanFrom { r with dse := s.dse } [] entered t)

end Sys2Proof.Machine
end

