-- ==== Sys2Proof/Certificates/Slice0/Obligations.lean ====
section
/-! DEFINITION. The statements for the provers: one Prop each, listed in OBLIGATIONS.json. -/

open Sys2Proof Sys2Proof.Machine

-- Step, resets, framing -----------------------------------------------------------------------------------

/-- The command at the front of the queue runs on the state with the queue's rest (R6, R46: every event is taken
whole). With no command waiting the step changes nothing, which is the model's choice (log entry 3). -/
def Obligations.StepTakesFrontCommand : Prop :=
  (∀ (c : Instr) (rest : List Instr) (s : State), s.pending = c :: rest → step s = exec c { s with pending := rest }) ∧
    ∀ s : State, s.pending = [] → step s = .next s

/-- Release of RESET_N: the strap gives the address by its three cases, every block takes its cold values, field by
field, and each transmitter begins a HOLD cell (R1, R3, R15, R17, R18, R24, R26, R30, R32, R34, R40, R58, R60, R61, R86,
R113, R146, R164, R185, R188). That it does so whatever came before is log entry 11, and that the MERIT lists of the cold
tables are empty, which R33 leaves open, is log entry 28. -/
def Obligations.ColdResetGivesColdValues : Prop :=
  ∀ (strap : BitVec 5) (s : State), ∃ t, exec (.resetNRelease strap) s = .next t ∧
    (strap = 0 → t.lpu.addr = 1) ∧ (strap = 31 → t.lpu.addr = 30) ∧
    (1 ≤ strap.toNat → strap.toNat ≤ 30 → t.lpu.addr = strap.toNat) ∧
    t.pending = s.pending ∧ t.held = false ∧
    t.lpu.link = { up := { isUp := false, loss := none }, dn := { isUp := false, loss := none } } ∧
    t.lpu.dnFwd = [] ∧ t.lpu.upFwd = [] ∧ t.lpu.cmds = [] ∧ t.lpu.dnTurn = .forward ∧ t.lpu.upTurn = .report ∧
    (∃ c, t.lpu.dnTx = .hold c ∧ c.kind = kindHold ∧ c.dest = 31 ∧ c.src.toNat = t.lpu.addr ∧ c.crcGood = true) ∧
    (∃ c, t.lpu.upTx = .hold c ∧ c.kind = kindHold ∧ c.dest = 31 ∧ c.src.toNat = t.lpu.addr ∧ c.crcGood = true) ∧
    t.tbs = .cold ∧ t.tbs.gateOpen = false ∧
    t.tbs.plant = { ti := 10, shortCircuit := false, guardTime := 30, staleTime := 20, identWait := 20, debounce := 2,
                    convAddr := 7, releaseTime := 10 } ∧
    (∀ u, t.unit u = { present := false, addr := 0, waterway := .w1, profile := 0, classCode := 0, rated := 1,
                       assign := .auto, minRun := 0, minStill := 0, linger := 0 }) ∧
    (∀ p : Fin 4, t.tbs.profiles[p] =
      { tRunup := 0, tSync := 0, tLoad := 0, tUnload := 0, tStop := 0, tDewater := 0, tPrun := 0, tPrime := 0,
        tConvwait := 0, tLockwait := 0, rate0 := 0, rate1 := 0, rate2 := 0, rate3 := 0, refresh := 5,
        bandCount := 0, hyst := 0 }) ∧
    (∀ (p : Fin 4) (k : Fin 12), (t.tbs.bands[p])[k] =
      { lower := 0, gmin := 0, gmax := 0, ppump := 0, rzlo := 0, rzhi := 0, turb := false, pump := false }) ∧
    t.tbs.meritGen = [] ∧ t.tbs.meritPump = [] ∧ (∀ w, t.tbs.budgets.get w = 0) ∧
    (∀ u, t.image u = .cold) ∧
    (let off : Debounced := { val := false, run := 0 }
     ∀ u, t.image u =
       { identity := .unverified, stage := none, fault := 0, power := 0, head := none, band := .none, region := none,
         perm := { ready := off, air := off, remote := off, lockout := off },
         interlocks := { b0 := off, b1 := off, b2 := off, b3 := off, b4 := off, b5 := off, b6 := off, b7 := off },
         stale := false, staleTimer := none, watch := 0, events := 0, verifyEvent := false, identCount := 0,
         identTimer := none }) ∧
    t.uib.conv = { ready := false, fault := false, connected := 0 } ∧
    t.dse.engine = .paused ∧ t.dse.standing.state = .none ∧ t.dse.deferred = none ∧ t.dse.guardTmr = none ∧
    (let o := t.dse.standing.order
     o.id = 0 ∧ o.target = 0 ∧ o.cls = 0 ∧ o.clamped = false) ∧
    t.dse.standing.summary = { genCount := 0, pumpCount := 0, total := 0, deviation := 0 } ∧
    t.dse.trace = false ∧ (∀ u, t.assignOf u = .auto) ∧
    (∀ u, t.entry u = { mode := .still, share := none, cls := 0, forcedOut := false, originId := 0, originSrc := 0 }) ∧
    t.alc.summary = { genCount := 0, pumpCount := 0, total := 0, deviation := 0 } ∧
    (∀ u, t.seq u = { state := .dormant, origin := .none, prior := none, stageTimer := none, minRun := none,
                      minStill := none, linger := none, pendLockout := false }) ∧
    t.pra.arb = .free ∧ t.pra.holder = none ∧ t.pra.releaseTmr = none ∧ t.pra.startQueue = [] ∧
    (∀ w, t.pra.locks.get w = { holder := none, waiters := [] }) ∧
    t.rmp.timer = none ∧ (∀ u, t.ramp u = { setpoint := none, refresh := none, rate := none }) ∧
    (∀ w, t.rmp.crossings.get w = { outcome := .idle, unit := none, requested := 0, moved := 0 }) ∧
    t.rpb = { queue := [], flags := 0, again := 0, carried := 0, snapshot := 0, alertLow := false }

/-- The state after a cold reset with any address of R3, State.reset among them, meets every invariant that the steps
keep: table ranges, addresses apart, queue bounds and alert, and consistency.
(R3, R8, R9, R18, R62, R185, R192). That State.reset takes the strap value 0 is log entry 1. -/
def Obligations.ResetMeetsInvariants : Prop :=
  (∃ a, State.reset = State.cold a ∧ 1 ≤ a ∧ a ≤ 30) ∧
    ∀ a, 1 ≤ a → a ≤ 30 → (State.cold a).tbs.InRange ∧ AddressesApart (State.cold a) ∧ QueuesAndAlert (State.cold a) ∧
      Consistent (State.cold a)

/-- RESET_N falling cuts off the cells being sent and releases PLANT_ALERT_N, and a cell that arrives while RESET_N is
low has no effect (R1, R192, R196). That every other register keeps its value at the fall is log entry 2. -/
def Obligations.ResetLowStopsPorts : Prop :=
  (∀ s : State, exec .resetNLow s = .next
    { s with
      held := true
      lpu := { s.lpu with dnTx := .idle, upTx := .idle }
      rpb := { s.rpb with alertLow := false } }) ∧
    ∀ (i : Instr) (c : Cell) (s : State), cellOf i = some c → s.held = true → exec i s = .next s

-- Reception, forwarding, consumption ----------------------------------------------------------------------

/-- A cell whose CRC fails is discarded, raising its port's flag and nothing else, at every row that is a cell's arrival
(R2, R188). -/
def Obligations.BadCrcRaisesFlagOnly : Prop :=
  ∀ (i : Instr) (c : Cell) (s : State), cellOf i = some c → s.held = false → c.crcGood = false →
    exec i s = .next (s.withFlag (if i.atDn then 0x10 else 0x08))

/-- A cell that arrives as such is handled as the row that its bytes spell (R4 to R7, R194, R195). That the three rows
which carry a cell whole act so, the row of ignored snooped sub-kinds for every sub-kind that it is given, is log entry 12
(DESIGN CHOICE). -/
def Obligations.ArrivalActsAsItsRow : Prop :=
  (∀ (c : Cell) (i : Instr) (s : State), readUpCell c = some i → exec (.upCellArrival c) s = exec i s) ∧
    (∀ (c : Cell) (i : Instr) (s : State), readDnCell c = some i → exec (.dnCellArrival c) s = exec i s) ∧
    ∀ (h : Hdr) (sub : Byte) (p : Payload) (s : State),
      exec (.snoopedSubkindIgnored h sub p) s = exec (.dnCellArrival (h.cell kindTel sub p)) s

/-- Every row's cell spells the row again, with every operand: no bit of a layout of R195 is dropped or read twice.
(R193 to R195). -/
def Obligations.CellsSpellTheirRows : Prop :=
  ∀ (i : Instr) (c : Cell), WellFormed i → i.carriesCell = false → cellOf i = some c →
    (if i.atDn then readDnCell c else readUpCell c) = some i

/-- A consumed ORDER or MGT cell is handed to its block, a broadcast one also copied to the DN-forward queue, and one
addressed elsewhere is forwarded alone (R4, R6). -/
def Obligations.OrderAndMgtCellsByDestination : Prop :=
  ∀ (i : Instr) (c : Cell) (s : State), cellOf i = some c → i.atDn = false → i.carriesCell = false → Delivered c s →
    (c.dest.toNat = s.lpu.addr → exec i s = .next (takeOrderOrMgt i (s.withLinkUp .up))) ∧
    (c.dest = 31 → s.lpu.addr < 31 → exec i s = .next ((takeOrderOrMgt i (s.withLinkUp .up)).forwardedDn c)) ∧
    (c.dest.toNat ≠ s.lpu.addr → c.dest ≠ 31 → exec i s = .next ((s.withLinkUp .up).forwardedDn c))

/-- A valid cell arriving at UP that is no ORDER or MGT cell is discarded when HOLD and forwarded otherwise, whatever its
destination; a consumed cell of an unlisted sub-kind is discarded, and its broadcast copy still forwarded. A valid cell
arriving at DN: HOLD and what is consumed without a use are discarded, every other cell is forwarded, and one of an
ignored sub-kind, or from nobody the tables know, changes nothing else (R4 to R8). -/
def Obligations.OtherArrivals : Prop :=
  (∀ (c : Cell) (s : State), Delivered c s →
    (c.kind = kindHold → exec (.upCellArrival c) s = .next (s.withLinkUp .up)) ∧
    (c.kind ≠ kindHold → c.kind ≠ kindOrder → c.kind ≠ kindMgt →
      exec (.upCellArrival c) s = .next ((s.withLinkUp .up).forwardedDn c)) ∧
    ((c.kind = kindOrder ∨ c.kind = kindMgt) → readUpCell c = none →
      exec (.upCellArrival c) s = .next (if c.dest.toNat = s.lpu.addr then s.withLinkUp .up
        else (s.withLinkUp .up).forwardedDn c))) ∧
  (∀ (c : Cell) (s : State), Delivered c s →
    (c.kind = kindHold → exec (.dnCellArrival c) s = .next (s.withLinkUp .dn)) ∧
    (c.kind ≠ kindHold → c.kind ≠ kindTel →
      exec (.dnCellArrival c) s = .next ((s.withLinkUp .dn).forwardedUp c)) ∧
    (c.kind = kindTel → c.dest.toNat = s.lpu.addr → c.sub ≠ subUnitIdent →
      exec (.dnCellArrival c) s = .next (s.withLinkUp .dn)) ∧
    (c.kind = kindTel → c.dest.toNat ≠ s.lpu.addr →
      ((∀ u, (s.unit u).present = true → (s.unit u).addr ≠ c.src.toNat) ∧ s.tbs.plant.convAddr ≠ c.src.toNat) ∨
        (c.sub ≠ subUnitStatus ∧ c.sub ≠ subConvStatus) →
      exec (.dnCellArrival c) s = .next ((s.withLinkUp .dn).forwardedUp c))) ∧
  ∀ (h : Hdr) (sub : Byte) (p : Payload) (s : State),
    let c := h.cell kindTel sub p
    Delivered c s → sub ≠ subUnitStatus → sub ≠ subConvStatus →
    (toPart c s = true → sub ≠ subUnitIdent → exec (.snoopedSubkindIgnored h sub p) s = .next (s.withLinkUp .dn)) ∧
    (toPart c s = false → exec (.snoopedSubkindIgnored h sub p) s = .next ((s.withLinkUp .dn).forwardedUp c))

/-- Every valid cell brings its port UP with the link-loss timer at its full 100 ms, but for RESTART, whose warm reset
leaves both ports DOWN; at the timer's expiry the port falls to DOWN, the timer stops and the port's flag is raised,
nothing else changing; a stopped timer does not expire (R2, R15, R17, R113, R188; log entry 3). -/
def Obligations.LinkStates : Prop :=
  (∀ (i : Instr) (c : Cell) (s t : State), cellOf i = some c → Delivered c s → exec i s = .next t →
    (∀ h r, i.spelled ≠ .restart h r) →
    t.lpu.link.get (if i.atDn then .dn else .up) = { isUp := true, loss := some 100 }) ∧
  ∀ (p : Port) (s : State), s.held = false →
    ((s.lpu.link.get p).loss.isSome = true → exec (.linkLossExpiry p) s = .next
      (({ s with lpu := { s.lpu with link := s.lpu.link.set p { isUp := false, loss := none } } } : State).withFlag
        (match p with
          | .up => 0x20
          | .dn => 0x40))) ∧
    ((s.lpu.link.get p).loss = none → exec (.linkLossExpiry p) s = .next s)

-- Selections ----------------------------------------------------------------------------------------------

/-- The DN arbiter's table, row by row, and its turn marker after each reset (R12). -/
def Obligations.DnArbiter : Prop :=
  (∀ a, (State.cold a).lpu.dnTurn = .forward) ∧ (∀ s, (warmReset s).lpu.dnTurn = .forward) ∧
    ∀ s : State, s.held = false →
      let alone := decide (s.lpu.dnFwd.length < 16)
      (∀ w rest, s.lpu.cmds = w :: rest → (alone = true ∨ s.lpu.dnTurn = .command) →
        exec .dnSelection s = .next { s with lpu := { s.lpu with
          cmds := rest, dnTurn := .forward, dnTx := .cell (w.cell (BitVec.ofNat 8 s.lpu.addr)) } }) ∧
      (∀ c rest, s.lpu.dnFwd = c :: rest → alone = true → s.lpu.cmds = [] →
        exec .dnSelection s = .next { s with lpu := { s.lpu with
          dnFwd := rest, dnTurn := .forward, dnTx := .cell c } }) ∧
      (s.lpu.dnFwd = [] → s.lpu.cmds = [] →
        ∃ c, c.kind = kindHold ∧ c.dest = 31 ∧ exec .dnSelection s = .next { s with lpu := { s.lpu with
          dnTurn := .forward, dnTx := .hold c } }) ∧
      (∀ c rest, s.lpu.dnFwd = c :: rest → alone = false → (s.lpu.dnTurn = .forward ∨ s.lpu.cmds = []) →
        exec .dnSelection s = .next { s with lpu := { s.lpu with
          dnFwd := rest, dnTurn := .command, dnTx := .cell c } })

/-- The UP arbiter's table, row by row, and its turn marker after each reset. A report departs at its selection, its
UNIT_EVENT flags are cleared then, and pending units are offered its place; a HOLD records the flags that it carries, their
raised-again marks cleared (R11, R13, R187, R189). -/
def Obligations.UpArbiter : Prop :=
  (∀ a, (State.cold a).lpu.upTurn = .report) ∧ (∀ s, (warmReset s).lpu.upTurn = .report) ∧
    ∀ s : State, s.held = false → s.sendingUpHold = false →
      let alone := decide (s.rpb.queue.length < 12)
      (∀ c rest, s.lpu.upFwd = c :: rest → (alone = true ∨ s.lpu.upTurn = .forward) →
        exec .upSelection s = .next { s with lpu := { s.lpu with
          upFwd := rest, upTurn := .report, upTx := .cell c } }) ∧
      (∀ r rest, s.rpb.queue = r :: rest → (alone = true → s.lpu.upFwd = []) →
        (alone = false → s.lpu.upTurn = .report ∨ s.lpu.upFwd = []) →
        exec .upSelection s = .next (afterDeparture r
          { s with
            lpu := { s.lpu with
              upTurn := if alone then .report else .forward
              upTx := .cell (r.cell (BitVec.ofNat 8 s.lpu.addr)) }
            rpb := { s.rpb with queue := rest } })) ∧
      (s.lpu.upFwd = [] → s.rpb.queue = [] →
        ∃ c, c.kind = kindHold ∧ c.dest = 31 ∧ exec .upSelection s = .next
          { s with
            lpu := { s.lpu with upTurn := .report, upTx := .hold c }
            rpb := { s.rpb with carried := s.rpb.flags, again := 0 } })

/-- A departing UNIT_EVENT clears the flags it carries and no other of its unit; of the other units' images nothing
changes; and each unit that then has event flags set and no UNIT_EVENT waiting is offered a place at the queue's tail, in
ascending unit number, while fewer than 16 reports wait (R53, R185 to R187). -/
def Obligations.DepartureClearsCarriedEvents : Prop :=
  ∀ (r : Report) (s : State), s.rpb.queue.length ≤ 16 →
    let cleared (u : UnitNo) : Image := match r with
      | .unitEvent v ev verify =>
        if v = u then { s.image u with
          events := (s.image u).events &&& ~~~ev
          verifyEvent := (s.image u).verifyEvent && !verify }
        else s.image u
      | _ => s.image u
    let pending (u : UnitNo) : Bool := ((cleared u).events != 0 || (cleared u).verifyEvent) &&
      s.rpb.queue.all fun x => !x.isEventOf u
    (afterDeparture r s).rpb.queue = s.rpb.queue ++
      (([.u1, .u2, .u3, .u4, .u5, .u6].filter pending).take (16 - s.rpb.queue.length)).map
        (fun u => .unitEvent u (cleared u).events (cleared u).verifyEvent) ∧
    ∀ u, (afterDeparture r s).image u = cleared u

/-- A HOLD cell is composed at its selection: a DN one with the engine state and whether an order stands, with its id; an
UP one with the station summary, field by field (R1, R14, R59, R190, R195). -/
def Obligations.HoldCellsCarryState : Prop :=
  (∀ s : State, s.held = false → s.lpu.dnFwd = [] → s.lpu.cmds = [] →
    ∃ c t, exec .dnSelection s = .next t ∧ t.lpu.dnTx = .hold c ∧ c.crcGood = true ∧
      c.src = BitVec.ofNat 8 s.lpu.addr ∧ c.payload.byte 4 = s.dse.engine.code ∧
      (c.payload.byte 5 = if s.dse.standing.state = .none then 0 else 1) ∧
      (c.payload.half 6 = if s.dse.standing.state = .none then 0 else s.dse.standing.order.id)) ∧
  ∀ s : State, s.held = false → s.sendingUpHold = false → s.lpu.upFwd = [] → s.rpb.queue = [] →
    ∃ c t, exec .upSelection s = .next t ∧ t.lpu.upTx = .hold c ∧ c.crcGood = true ∧
      c.src = BitVec.ofNat 8 s.lpu.addr ∧ c.payload.byte 4 = s.dse.engine.code ∧
      c.payload.byte 7 = s.dse.standing.state.code ∧
      (s.dse.standing.state ≠ .none → c.payload.half 5 = s.dse.standing.order.id ∧
        c.payload.half 8 = carried16 s.dse.standing.order.target ∧
        c.payload.half 10 = carried16 s.dse.standing.summary.total ∧
        c.payload.half 14 = carried16 s.dse.standing.summary.deviation) ∧
      (s.dse.standing.state = .none → c.payload.half 5 = 0 ∧ c.payload.half 8 = 0 ∧ c.payload.half 10 = 0 ∧
        c.payload.half 14 = 0) ∧
      c.payload.half 12 = carried16
        (UnitNo.all.map fun u => if (s.unit u).present = true then (s.image u).power else 0).sum ∧
      (∀ u : UnitNo, c.payload.byte (15 + u.number) = (s.seq u).state.code) ∧
      c.payload.byte 22 = s.rpb.flags ∧ c.payload.byte 23 = s.pra.arb.code

/-- The end of an UP HOLD cell clears each carried flag whose raised-again mark is clear, and empties the carried record;
with no UP HOLD on its way nothing happens (R14, R189). An UP selection that finds one still on its way takes its end
first, which is the model's reading (log entry 20). -/
def Obligations.UpHoldSentClearsFlags : Prop :=
  ∀ s : State, s.held = false →
    (∀ c, s.lpu.upTx = .hold c → ∃ t, exec .upHoldSent s = .next t ∧
      (∀ k : Fin 8, t.rpb.flags.getLsbD k =
        (s.rpb.flags.getLsbD k && !(s.rpb.carried.getLsbD k && !s.rpb.again.getLsbD k))) ∧
      t = { s with lpu := { s.lpu with upTx := .idle }, rpb := { s.rpb with flags := t.rpb.flags, carried := 0 } }) ∧
    ((∀ c, s.lpu.upTx ≠ .hold c) → exec .upHoldSent s = .next s) ∧
    ∀ t, exec .upHoldSent s = .next t → exec .upSelection s = exec .upSelection t

/-- An ECHO that the part consumes produces one ECHO report with the same payload, to the cell's source, in every engine
state and whatever the gate; a broadcast one is forwarded too (R16). -/
def Obligations.EchoReportsPayload : Prop :=
  ∀ (h : Hdr) (p : Payload) (s : State),
    (DeliveredToPart (cellEcho h p) s →
      exec (.echo h p) s = .next ((s.withLinkUp .up).reported (.echo h.src p))) ∧
    (DeliveredBroadcast (cellEcho h p) s →
      exec (.echo h p) s = .next (((s.withLinkUp .up).reported (.echo h.src p)).forwardedDn (cellEcho h p)))

/-- The cells the part sends: a report's and a command's bytes as R195 lays them out, every byte beyond them 0, from the
part's address to the destination that R184 or the slot gives, with its CRC (R1, R9, R184, R193 to R195). -/
def Obligations.SentCellsCarryContents : Prop :=
  (∀ (a : Byte) (r : Report),
    let c := r.cell a
    let p := c.payload
    let summary (m : Summary) : Prop := p.byte 9 = BitVec.ofNat 8 m.genCount ∧ p.byte 10 = BitVec.ofNat 8 m.pumpCount ∧
      p.half 11 = carried16 m.total ∧ p.half 13 = carried16 m.deviation
    c.src = a ∧ c.kind = 0x50 ∧ c.crcGood = true ∧ (match r with
      | .orderResult d id sub code unit m =>
        c.dest = d ∧ c.sub = 1 ∧ p.half 4 = id ∧ p.byte 6 = sub ∧ p.byte 7 = code.code ∧ p.byte 8 = unit ∧
          p.tail 120 = 0 ∧ (match m with
            | some x => summary x
            | none => p.tail 168 = 0)
      | .manualReplan d id u mode share =>
        c.dest = d ∧ c.sub = 1 ∧ p.half 4 = id ∧ p.byte 6 = 2 ∧ p.byte 7 = 5 ∧ (p.byte 8).toNat = u.number ∧
          p.byte 9 = mode.code ∧ p.byte 10 = 0 ∧ p.tail 136 = 0 ∧
          p.half 11 = (match share with
            | some v => BitVec.ofNat 16 v
            | none => 0xFFFF)
      | .orderState d id st target m =>
        c.dest = d ∧ c.sub = 2 ∧ p.half 4 = id ∧ p.byte 6 = st.code ∧ p.half 7 = carried16 target ∧ summary m ∧
          p.tail 120 = 0
      | .unitState u before after cause stage fault =>
        c.dest = 0 ∧ c.sub = 3 ∧ (p.byte 4).toNat = u.number ∧ p.byte 5 = before.code ∧ p.byte 6 = after.code ∧
          p.byte 7 = cause.code ∧ p.byte 9 = fault ∧ p.tail 160 = 0 ∧
          p.byte 8 = (match stage with
            | some st => st.code
            | none => 0xFF)
      | .unitEvent u ev verify =>
        c.dest = 0 ∧ c.sub = 4 ∧ (p.byte 4).toNat = u.number ∧ p.byte 5 = ev ∧ (p.byte 6).toNat = verify.toNat ∧
          p.tail 184 = 0
      | .mgtResult d sub code table index band field =>
        c.dest = d ∧ c.sub = 5 ∧ p.byte 4 = sub ∧ p.byte 5 = code.code ∧ p.byte 6 = table ∧ p.byte 7 = index ∧
          p.byte 8 = band ∧ p.byte 9 = field ∧ p.tail 160 = 0
      | .tableData d q => c.dest = d ∧ c.sub = 6 ∧ p = q
      | .snapshot q => c.dest = 0 ∧ c.sub = 7 ∧ p = q
      | .echo d q => c.dest = d ∧ c.sub = 8 ∧ p = q)) ∧
  ∀ (a : Byte) (w : Waiting),
    let c := w.cell a
    c.dest = BitVec.ofNat 8 w.dest ∧ c.src = a ∧ c.kind = kindUcmd ∧ c.crcGood = true ∧ c.sub = w.cmd.sub ∧
      (match w.cmd with
        | .setpoint v => c.payload.half 4 = BitVec.ofNat 16 v ∧ c.payload.tail 192 = 0
        | .convConnect addr => c.payload.byte 4 = BitVec.ofNat 8 addr ∧ c.payload.tail 200 = 0
        | _ => c.payload = 0)

-- Tables --------------------------------------------------------------------------------------------------

/-- The gate: OPEN and CLOSE set it, any other request is answered RANGE, and a broadcast TABLE_GATE is ignored though it
is forwarded. With the gate closed every TABLE_WRITE is answered GATE_CLOSED and stores nothing, a broadcast one is not
even answered (R4, R19, R20, R23). That OPEN's and CLOSE's own codes, given to the bad request row, are answered RANGE too is
log entry 12. -/
def Obligations.GateRowsAndClosedGate : Prop :=
  (∀ (h : Hdr) (pad : BitVec 200) (s : State), DeliveredToPart (cellTableGate h 1 pad) s →
      exec (.tableGateOpen h pad) s = .next
        (({ s.withLinkUp .up with tbs := { s.tbs with gateOpen := true } } : State).reported
          (.mgtResult h.src 0x01 .accepted 0 0 0 0))) ∧
    (∀ (h : Hdr) (pad : BitVec 200) (s : State), DeliveredToPart (cellTableGate h 0 pad) s →
      exec (.tableGateClose h pad) s = .next
        (({ s.withLinkUp .up with tbs := { s.tbs with gateOpen := false } } : State).reported
          (.mgtResult h.src 0x01 .accepted 0 0 0 0))) ∧
    (∀ (h : Hdr) (request : Byte) (pad : BitVec 200) (s : State), DeliveredToPart (cellTableGate h request pad) s →
      exec (.tableGateBadRequest h request pad) s = .next
        ((s.withLinkUp .up).reported (.mgtResult h.src 0x01 .range 0 0 0 0))) ∧
    (∀ (src : Byte) (crc : Half) (request : Byte) (pad : BitVec 200) (s : State),
      DeliveredBroadcast (cellTableGate { dest := 31, src, crc } request pad) s →
      exec (.broadcastTableGate src crc request pad) s = .next
        ((s.withLinkUp .up).forwardedDn (cellTableGate { dest := 31, src, crc } request pad))) ∧
    ∀ (i : Instr) (h : Hdr) (table index band : Byte) (c : Cell) (s : State),
      i.tableWrite = some (h, table, index, band) → cellOf i = some c → s.tbs.gateOpen = false →
      (DeliveredToPart c s → exec i s = .next
        ((s.withLinkUp .up).reported (.mgtResult h.src 0x02 .gateClosed table index band 0))) ∧
      (DeliveredBroadcast c s → exec i s = .next ((s.withLinkUp .up).forwardedDn c))

/-- A PLANT write with the gate open: stored and answered in PAUSED, a changed converter address clearing the converter
image; refused for its index, outside PAUSED, and for a collision of the converter address (R20, R24, R25). -/
def Obligations.PlantWriteStoredOrRefused : Prop :=
  ∀ (h : Hdr) (index : Byte) (f : PlantFields) (pad : BitVec 120) (s : State),
    DeliveredToPart (cellPlantWrite h index f pad) s → s.tbs.gateOpen = true →
    let p := Plant.ofFields f
    let answer (code : MgtCode) (field : Nat) : Report :=
      .mgtResult h.src 0x02 code 1 index 0 (BitVec.ofNat 8 field)
    let collides := p.convAddr = s.lpu.addr ∨ ∃ u, (s.unit u).present = true ∧ (s.unit u).addr = p.convAddr
    (index = 0 → s.dse.engine = .paused → ¬collides → exec (.plantWrite h index f pad) s = .next
      (({ s.withLinkUp .up with
          tbs := { s.tbs with plant := p }
          uib := if p.convAddr = s.tbs.plant.convAddr then s.uib
            else { s.uib with conv := { ready := false, fault := false, connected := 0 } } } : State).reported
        (answer (if plantClamped f = 0 then .accepted else .clamped) (plantClamped f)))) ∧
    (index ≠ 0 → exec (.plantWrite h index f pad) s = .next ((s.withLinkUp .up).reported (answer .range 0))) ∧
    (index = 0 → s.dse.engine ≠ .paused →
      exec (.plantWrite h index f pad) s = .next ((s.withLinkUp .up).reported (answer .state 0))) ∧
    (index = 0 → s.dse.engine = .paused → collides →
      exec (.plantWrite h index f pad) s = .next ((s.withLinkUp .up).reported (answer .range 7)))

/-- A UNIT write that makes a unit present, in PAUSED: the entry is stored, the band recomputed without hysteresis, the
telemetry kept only for a unit that was present at the same address, and an identity exchange begun; no other unit,
sequencer or setpoint changes (R21, R26, R28, R50, R54).
What the telemetry content is that is kept or cleared is log entry 27. -/
def Obligations.UnitWritePresentStored : Prop :=
  ∀ (h : Hdr) (index present : Byte) (f : UnitFields) (pad : BitVec 80) (u : UnitNo) (s : State),
    DeliveredToPart (cellUnitWrite h index present f pad) s → s.tbs.gateOpen = true → index.toNat = u.number →
    present ≠ 0 → s.dse.engine = .paused → PausedQuiet s →
    let n := UnitEntry.ofFields present f
    (∀ v, v ≠ u → (s.unit v).present = true → (s.unit v).addr ≠ n.addr) → n.addr ≠ s.lpu.addr →
    n.addr ≠ s.tbs.plant.convAddr →
    ∃ t, exec (.unitWritePresent h index present f pad) s = .next t ∧
      t.tbs = { s.tbs with units := s.tbs.units.set u n } ∧ n.present = true ∧
      (let i := s.image u
       let kept := (s.unit u).present = true ∧ (s.unit u).addr = n.addr
       let j := t.image u
       j.identity = .identWait ∧ j.identCount = 1 ∧ j.identTimer = some s.tbs.plant.identWait ∧
       j.verifyEvent = true ∧ j.watch = i.watch ∧ j.events = i.events ∧
       (kept → j.stage = i.stage ∧ j.fault = i.fault ∧ j.power = i.power ∧ j.head = i.head ∧ j.perm = i.perm ∧
         j.interlocks = i.interlocks ∧ j.stale = i.stale ∧ j.staleTimer = i.staleTimer) ∧
       (¬kept → j.stage = none ∧ j.fault = 0 ∧ j.power = 0 ∧ j.head = none ∧ j.perm = .cold ∧
         j.interlocks = .cold ∧ j.stale = false ∧ j.staleTimer = none) ∧
       (j.head = none → j.band = .none ∧ j.region = none) ∧
       (∀ hd, j.head = some hd →
         let b := selectBand s.tbs.bands[n.profile] (s.tbs.profiles[n.profile]).bandCount hd
         j.band = b.1 ∧ j.region = some b.2)) ∧
      (∀ v, v ≠ u → t.image v = s.image v ∧ t.entry v = s.entry v) ∧
      { slot := .stage u, dest := n.addr, cmd := .identReq } ∈ t.lpu.cmds ∧
      (t.lpu.cmds.filter fun w => w.slot != .stage u) = (s.lpu.cmds.filter fun w => w.slot != .stage u) ∧
      t.seqs = s.seqs ∧ t.rmp = s.rmp ∧ t.pra = s.pra ∧ t.dse = s.dse ∧ t.alc.summary = s.alc.summary ∧
      t.uib.conv = s.uib.conv ∧ t.rpb.alertLow = t.alertDue ∧
      (ReportRoom 1 s → (∀ r ∈ s.rpb.queue, r.isEventOf u = false) → ∃ rs, t.rpb.queue = s.rpb.queue ++
        .mgtResult h.src 0x02 (if unitClamped present f = 0 then .accepted else .clamped) 2 index 0
          (BitVec.ofNat 8 (unitClamped present f)) :: rs)

/-- A UNIT write that takes a unit out of service, in PAUSED: the entry is stored, the image takes its cold values, and
the unit's stage and setpoint slots are emptied (R10, R21, R29, R192). -/
def Obligations.UnitWriteAbsentStored : Prop :=
  ∀ (h : Hdr) (index : Byte) (f : UnitFields) (pad : BitVec 80) (u : UnitNo) (s : State),
    DeliveredToPart (cellUnitWrite h index 0 f pad) s → s.tbs.gateOpen = true → index.toNat = u.number →
    s.dse.engine = .paused →
    let n := UnitEntry.ofFields 0 f
    let t : State := { s.withLinkUp .up with
      tbs := { s.tbs with units := s.tbs.units.set u n }
      uib := { s.uib with images := s.uib.images.set u .cold }
      lpu := { (s.withLinkUp .up).lpu with
        cmds := s.lpu.cmds.filter fun w => w.slot != .stage u && w.slot != .setpoint u } }
    n.present = false ∧ exec (.unitWriteAbsent h index f pad) s = .next
      (({ t with rpb := { t.rpb with alertLow := t.alertDue } } : State).reported
        (.mgtResult h.src 0x02 (if unitClamped 0 f = 0 then .accepted else .clamped) 2 index 0
          (BitVec.ofNat 8 (unitClamped 0 f))))

/-- A UNIT write is refused for its index, outside PAUSED, and, when it makes the unit present, for a collision of its
link address; nothing is stored (R20, R26, R27). -/
def Obligations.UnitWriteRefused : Prop :=
  ∀ (h : Hdr) (index present : Byte) (f : UnitFields) (pad : BitVec 80) (i : Instr) (s : State),
    (i = .unitWritePresent h index present f pad ∨ i = .unitWriteAbsent h index f pad ∧ present = 0) →
    DeliveredToPart (cellUnitWrite h index present f pad) s → s.tbs.gateOpen = true →
    let answer (code : MgtCode) (field : Byte) : State :=
      (s.withLinkUp .up).reported (.mgtResult h.src 0x02 code 2 index 0 field)
    ((index.toNat = 0 ∨ 6 < index.toNat) → exec i s = .next (answer .range 0)) ∧
    (∀ u : UnitNo, index.toNat = u.number → s.dse.engine ≠ .paused → exec i s = .next (answer .state 0)) ∧
    ∀ u : UnitNo, index.toNat = u.number → s.dse.engine = .paused → present ≠ 0 →
      (let a := (UnitEntry.ofFields present f).addr
       (∃ v, v ≠ u ∧ (s.unit v).present = true ∧ (s.unit v).addr = a) ∨ a = s.lpu.addr ∨ a = s.tbs.plant.convAddr) →
      exec i s = .next (answer .range 2)

/-- A stored PROFILE or BAND write replaces its one entry and takes the bands of the profile's present units at once from
their heads, without hysteresis; the tables are otherwise as they were, and so is the converter image. With no
order standing, each unit whose band changed or whose band's contents were rewritten has its entry re-examined, its
setpoint clamped and its sequencer act as at any band change, and every other keeps them; under a standing order one run
follows on the state so reached, its REPLANNED after every report of the write, and the sequencers take their turns on its
plan. A profile of present units out of PAUSED
is refused INVALID, with the number of the lowest-numbered field at fault, when a timeout, the rate of class 0 or the band
count is 0 (R20, R21, R30, R32, R35, R36, R50, R85, R89, R107, R108, R110, R111, R178, R179). That a re-examined entry keeps
rate class and origin is log entry 10. -/
def Obligations.ProfileAndBandWriteStored : Prop :=
  (∀ (h : Hdr) (index : Byte) (f : ProfileFields) (p : Fin 4) (s : State),
    DeliveredToPart (cellProfileWrite h index f) s → s.tbs.gateOpen = true → index.toNat = p.val →
    let n := Profile.ofFields f
    let tbs : Tbs := { s.tbs with profiles := s.tbs.profiles.set p n }
    (s.dse.engine = .paused ∨ (∀ u, (s.unit u).present = true → (s.unit u).profile ≠ p) ∨
      (∀ x ∈ n.timeouts, x.2 ≠ 0) ∧ n.rate0 ≠ 0 ∧ n.bandCount ≠ 0) →
    ∃ t, exec (.profileWrite h index f) s = .next t ∧ t.tbs = tbs ∧
      (∀ u, t.image u = if (s.unit u).present = true ∧ (s.unit u).profile = p then retaken tbs p (s.image u)
        else s.image u) ∧
      LeavesSetting { s.withLinkUp .up with tbs } t ∧ t.dse.engine = s.dse.engine ∧
      t.dse.standing.order = s.dse.standing.order ∧
      (s.orderStands = false → ResourcesAgree s → ContentsTaken s t p none) ∧
      (s.orderStands = true → RunAfter (.profileWrite h index f) s t) ∧
      (ReportRoom 1 s → ∃ rs, t.rpb.queue = s.rpb.queue ++
        .mgtResult h.src 0x02 (if profileClamped f = 0 then .accepted else .clamped) 3 index 0
          (BitVec.ofNat 8 (profileClamped f)) :: rs)) ∧
  (∀ (h : Hdr) (index : Byte) (f : ProfileFields) (p : Fin 4) (u : UnitNo) (s : State),
    DeliveredToPart (cellProfileWrite h index f) s → s.tbs.gateOpen = true → index.toNat = p.val →
    s.dse.engine ≠ .paused → (s.unit u).present = true → (s.unit u).profile = p →
    let n := Profile.ofFields f
    let needed := n.timeouts ++ [(11, n.rate0), (16, n.bandCount)]
    ∀ x ∈ needed, x.2 = 0 → (∀ y ∈ needed, y.1 < x.1 → y.2 ≠ 0) →
      exec (.profileWrite h index f) s = .next
        ((s.withLinkUp .up).reported (.mgtResult h.src 0x02 .invalid 3 index 0 (BitVec.ofNat 8 x.1)))) ∧
  ∀ (h : Hdr) (profile band : Byte) (f : BandFields) (pad : BitVec 72) (p : Fin 4) (k : Fin 12) (s : State),
    DeliveredToPart (cellBandWrite h profile band f pad) s → s.tbs.gateOpen = true →
    profile.toNat = p.val → band.toNat = k.val →
    let tbs : Tbs := { s.tbs with bands := s.tbs.bands.set p ((s.tbs.bands[p]).set k (Band.ofFields f)) }
    ∃ t, exec (.bandWrite h profile band f pad) s = .next t ∧ t.tbs = tbs ∧
      (∀ u, t.image u = if (s.unit u).present = true ∧ (s.unit u).profile = p then retaken tbs p (s.image u)
        else s.image u) ∧
      LeavesSetting { s.withLinkUp .up with tbs } t ∧ t.dse.engine = s.dse.engine ∧
      t.dse.standing.order = s.dse.standing.order ∧
      (s.orderStands = false → ResourcesAgree s → ContentsTaken s t p (some k)) ∧
      (s.orderStands = true → RunAfter (.bandWrite h profile band f pad) s t) ∧
      (ReportRoom 1 s → ∃ rs, t.rpb.queue = s.rpb.queue ++
        .mgtResult h.src 0x02 (if bandClamped f = 0 then .accepted else .clamped) 4 profile band
          (BitVec.ofNat 8 (bandClamped f)) :: rs)

/-- A MERIT write stores the listed unit numbers in their order, in every engine state, and changes nothing else where no
order stands; under a standing order one run follows against the lists as just written, its REPLANNED next after the
MGT_RESULT, and the sequencers take their turns on its plan. A list too long is refused with field 1, one with a number outside 1..6 or a number twice with the field of such
a number (R33, R36, R81, R85, R89); which of two faults is named is log entry 14. -/
def Obligations.MeritWriteStoredOrRefused : Prop :=
  ∀ (h : Hdr) (index : Byte) (f : MeritFields) (pad : BitVec 136) (s : State),
    DeliveredToPart (cellMeritWrite h index f pad) s → s.tbs.gateOpen = true → (index = 0 ∨ index = 1) →
    let listed := ([f.p1, f.p2, f.p3, f.p4, f.p5, f.p6].take f.len.toNat).map BitVec.toNat
    let good := (∀ n ∈ listed, 1 ≤ n ∧ n ≤ 6) ∧ listed.Nodup
    (f.len.toNat ≤ 6 → good → ∃ t, exec (.meritWrite h index f pad) s = .next t ∧
      (index = 0 → t.tbs.meritGen.map UnitNo.number = listed ∧ t.tbs = { s.tbs with meritGen := t.tbs.meritGen }) ∧
      (index = 1 → t.tbs.meritPump.map UnitNo.number = listed ∧ t.tbs = { s.tbs with meritPump := t.tbs.meritPump }) ∧
      t.uib = s.uib ∧ LeavesSetting { s.withLinkUp .up with tbs := t.tbs } t ∧ t.dse.engine = s.dse.engine ∧
      t.dse.standing.order = s.dse.standing.order ∧
      (s.orderStands = false → t = ({ s.withLinkUp .up with tbs := t.tbs } : State).reported
        (.mgtResult h.src 0x02 .accepted 5 index 0 0)) ∧
      (s.orderStands = true → ResourcesAgree s → RanFrom
        (({ s.withLinkUp .up with tbs := t.tbs } : State).reported (.mgtResult h.src 0x02 .accepted 5 index 0 0))
        [] False t) ∧
      (s.orderStands = true → t.alc = plan { s with tbs := t.tbs } ∧ Replanned s t ∧
        (ReportRoom 2 s → ∃ rs, t.rpb.queue = s.rpb.queue ++
          .mgtResult h.src 0x02 .accepted 5 index 0 0 :: replannedReport s t :: rs)) ∧
      (ReportRoom 1 s →
        ∃ rs, t.rpb.queue = s.rpb.queue ++ .mgtResult h.src 0x02 .accepted 5 index 0 0 :: rs)) ∧
    (6 < f.len.toNat → exec (.meritWrite h index f pad) s = .next
      ((s.withLinkUp .up).reported (.mgtResult h.src 0x02 .range 5 index 0 1))) ∧
    (f.len.toNat ≤ 6 → ¬good → ∃ k < f.len.toNat, (∃ n, listed[k]? = some n ∧
        (n < 1 ∨ 6 < n ∨ n ∈ listed.take k)) ∧
      exec (.meritWrite h index f pad) s = .next
        ((s.withLinkUp .up).reported (.mgtResult h.src 0x02 .range 5 index 0 (BitVec.ofNat 8 (k + 2)))))

/-- A WATERWAY write stores its budget in PAUSED, brought to at most 2000, and is refused elsewhere. A write of an entry
that its table does not have (a WATERWAY number other than 1 and 2, a PROFILE number above 3, a BAND of a profile above 3
or a band above 11, a MERIT list above 1), and one of a table code that names no table, is refused with RANGE and field 0
in every engine state, and nothing is stored (R18, R20, R22, R34). That the codes 1 to 6, given to the row of unknown
tables, are answered RANGE too is log entry 12. -/
def Obligations.WaterwayAndUnknownTableWrites : Prop :=
  (∀ (h : Hdr) (index : Byte) (budget : Half) (pad : BitVec 176) (w : Waterway) (s : State),
    DeliveredToPart (cellWaterwayWrite h index budget pad) s → s.tbs.gateOpen = true → index.toNat = w.number →
    let stored := if 2000 < budget.toNat then 2000 else budget.toNat
    let answer (code : MgtCode) (field : Byte) : Report := .mgtResult h.src 0x02 code 6 index 0 field
    (s.dse.engine = .paused → exec (.waterwayWrite h index budget pad) s = .next
      (({ s.withLinkUp .up with tbs := { s.tbs with budgets := s.tbs.budgets.set w stored } } : State).reported
        (if 2000 < budget.toNat then answer .clamped 1 else answer .accepted 0))) ∧
    (s.dse.engine ≠ .paused → exec (.waterwayWrite h index budget pad) s = .next
      ((s.withLinkUp .up).reported (answer .state 0)))) ∧
  (∀ (h : Hdr) (index : Byte) (budget : Half) (pad : BitVec 176) (s : State),
    DeliveredToPart (cellWaterwayWrite h index budget pad) s → s.tbs.gateOpen = true → index ≠ 1 → index ≠ 2 →
    exec (.waterwayWrite h index budget pad) s = .next
      ((s.withLinkUp .up).reported (.mgtResult h.src 0x02 .range 6 index 0 0))) ∧
  (∀ (h : Hdr) (index : Byte) (f : ProfileFields) (s : State),
    DeliveredToPart (cellProfileWrite h index f) s → s.tbs.gateOpen = true → 3 < index.toNat →
    exec (.profileWrite h index f) s = .next
      ((s.withLinkUp .up).reported (.mgtResult h.src 0x02 .range 3 index 0 0))) ∧
  (∀ (h : Hdr) (profile band : Byte) (f : BandFields) (pad : BitVec 72) (s : State),
    DeliveredToPart (cellBandWrite h profile band f pad) s → s.tbs.gateOpen = true →
    (3 < profile.toNat ∨ 11 < band.toNat) →
    exec (.bandWrite h profile band f pad) s = .next
      ((s.withLinkUp .up).reported (.mgtResult h.src 0x02 .range 4 profile band 0))) ∧
  (∀ (h : Hdr) (index : Byte) (f : MeritFields) (pad : BitVec 136) (s : State),
    DeliveredToPart (cellMeritWrite h index f pad) s → s.tbs.gateOpen = true → 1 < index.toNat →
    exec (.meritWrite h index f pad) s = .next
      ((s.withLinkUp .up).reported (.mgtResult h.src 0x02 .range 5 index 0 0))) ∧
  ∀ (h : Hdr) (table index : Byte) (rest : BitVec 192) (s : State),
    DeliveredToPart (cellUnknownTable h table index rest) s → s.tbs.gateOpen = true →
    exec (.tableWriteUnknownTable h table index rest) s = .next
      ((s.withLinkUp .up).reported (.mgtResult h.src 0x02 .range table index 0 0))

/-- A TABLE_READ of an entry is answered with the entry's table, index and every field as held, to the read's source; one
of no table or of no entry is answered RANGE. A MERIT list is carried as its length and six positions, those beyond the
length 0, and the bytes that a layout leaves over are 0 (R38, R193, R195). The tables and all else stay as they are. -/
def Obligations.TableReadCarriesEntry : Prop :=
  ∀ (h : Hdr) (table index band : Byte) (pad : BitVec 184) (s : State),
    DeliveredToPart (cellTableRead h table index band pad) s → s.tbs.InRange →
    let answers (good : Payload → Prop) : Prop := ∃ p : Payload, p.byte 4 = table ∧ p.byte 5 = index ∧ good p ∧
      exec (.tableRead h table index band pad) s = .next ((s.withLinkUp .up).reported (.tableData h.src p))
    let listed (p : Payload) (l : List UnitNo) : Prop :=
      meritUnits (readMerit p) = l ∧ (p.byte 6).toNat = l.length ∧ p.tail 136 = 0 ∧
        ∀ k : Fin 6, (p.byte (7 + k.val)).toNat = (l[k.val]?).elim 0 UnitNo.number
    (table = 1 → index = 0 → answers fun p =>
      let e := s.tbs.plant
      let g := readPlant p
      Plant.ofFields g = e ∧ g.ti.toNat = e.ti ∧ g.shortCircuit.toNat = e.shortCircuit.toNat ∧
        g.guardTime.toNat = e.guardTime ∧ g.staleTime.toNat = e.staleTime ∧ g.identWait.toNat = e.identWait ∧
        g.debounce.toNat = e.debounce ∧ g.convAddr.toNat = e.convAddr ∧ g.releaseTime.toNat = e.releaseTime ∧
        p.tail 120 = 0) ∧
    (∀ u : UnitNo, table = 2 → index.toNat = u.number → answers fun p =>
      let e := s.unit u
      let g := readUnit p
      (p.byte 6).toNat = e.present.toNat ∧ g.addr.toNat = e.addr ∧ g.waterway.toNat = e.waterway.number ∧
        g.profile.toNat = e.profile.val ∧ g.classCode.toNat = e.classCode ∧ g.rated.toNat = e.rated ∧
        g.assign.toNat = e.assign.code ∧ g.minRun.toNat = e.minRun ∧ g.minStill.toNat = e.minStill ∧
        g.linger.toNat = e.linger ∧ p.tail 80 = 0) ∧
    (∀ k : Fin 4, table = 3 → index.toNat = k.val → answers fun p =>
      let e := s.tbs.profiles[k]
      let g := readProfile p
      Profile.ofFields g = e ∧ g.tRunup.toNat = e.tRunup ∧ g.tSync.toNat = e.tSync ∧ g.tLoad.toNat = e.tLoad ∧
        g.tUnload.toNat = e.tUnload ∧ g.tStop.toNat = e.tStop ∧ g.tDewater.toNat = e.tDewater ∧
        g.tPrun.toNat = e.tPrun ∧ g.tPrime.toNat = e.tPrime ∧ g.tConvwait.toNat = e.tConvwait ∧
        g.tLockwait.toNat = e.tLockwait ∧ g.rate0.toNat = e.rate0 ∧ g.rate1.toNat = e.rate1 ∧
        g.rate2.toNat = e.rate2 ∧ g.rate3.toNat = e.rate3 ∧ g.hyst.toNat = e.hyst ∧
        g.bandCount.toNat = e.bandCount ∧ g.refresh.toNat = e.refresh) ∧
    (∀ (k : Fin 4) (b : Fin 12), table = 4 → index.toNat = k.val → band.toNat = b.val → answers fun p =>
      let e := (s.tbs.bands[k])[b]
      let g := readBand p
      p.byte 6 = band ∧ Band.ofFields g = e ∧ g.lower.toNat = e.lower ∧ g.gmin.toNat = e.gmin ∧
        g.gmax.toNat = e.gmax ∧ g.ppump.toNat = e.ppump ∧ g.rzlo.toNat = e.rzlo ∧ g.rzhi.toNat = e.rzhi ∧
        g.turb.toNat = e.turb.toNat ∧ g.pump.toNat = e.pump.toNat ∧ p.tail 72 = 0) ∧
    (table = 5 → index = 0 → answers fun p => listed p s.tbs.meritGen) ∧
    (table = 5 → index = 1 → answers fun p => listed p s.tbs.meritPump) ∧
    (∀ w : Waterway, table = 6 → index.toNat = w.number → answers fun p =>
      (p.half 6).toNat = s.tbs.budgets.get w ∧ p.tail 176 = 0) ∧
    ((table = 0 ∨ 6 < table.toNat ∨ (table = 1 ∧ index ≠ 0) ∨ (table = 2 ∧ (index = 0 ∨ 6 < index.toNat)) ∨
        (table = 3 ∧ 3 < index.toNat) ∨ (table = 4 ∧ (3 < index.toNat ∨ 11 < band.toNat)) ∨
        (table = 5 ∧ 1 < index.toNat) ∨ (table = 6 ∧ (index = 0 ∨ 2 < index.toNat))) →
      exec (.tableRead h table index band pad) s = .next ((s.withLinkUp .up).reported
        (.mgtResult h.src 0x03 .range table index (if table = 4 then band else 0) 0)))

/-- What a write stores of each field of PLANT, UNIT, PROFILE and BAND: the value given when it lies in the field's own
range, the lower limit below it and the upper limit above it, a power read as signed; a 0/1 field any value above 1 as 1;
and the field a write is answered CLAMPED with is the lowest-numbered one whose stored value is not the value given, 0
where there is none (R22 to R24, R26, R30, R32, R193). -/
def Obligations.WritesStoreClampedFields : Prop :=
  let bound (lo hi : Nat) (v : Int) : Nat := if v < lo then lo else if (hi : Int) < v then hi else v.toNat
  let firstChanged (l : List (Int × Int)) : Nat := if ∃ x ∈ l, x.1 ≠ x.2 then l.findIdx (fun x => x.1 != x.2) + 1 else 0
  (∀ f : PlantFields,
    Plant.ofFields f =
      { ti := bound 5 50 f.ti.toNat, shortCircuit := decide (1 ≤ f.shortCircuit.toNat),
        guardTime := bound 0 600 f.guardTime.toNat, staleTime := bound 5 100 f.staleTime.toNat,
        identWait := bound 10 100 f.identWait.toNat, debounce := bound 1 4 f.debounce.toNat,
        convAddr := bound 1 30 f.convAddr.toNat, releaseTime := bound 1 60 f.releaseTime.toNat } ∧
    (Plant.ofFields f).InRange ∧ (plantClamped f = 0 ↔ (Plant.ofFields f).fields = f) ∧
    (let p := Plant.ofFields f
     plantClamped f = firstChanged [(f.ti.toNat, p.ti), (f.shortCircuit.toNat, p.shortCircuit.toNat),
       (f.guardTime.toNat, p.guardTime), (f.staleTime.toNat, p.staleTime), (f.identWait.toNat, p.identWait),
       (f.debounce.toNat, p.debounce), (f.convAddr.toNat, p.convAddr), (f.releaseTime.toNat, p.releaseTime)])) ∧
  (∀ (present : Byte) (f : UnitFields),
    let e := UnitEntry.ofFields present f
    e.present = decide (1 ≤ present.toNat) ∧ e.addr = bound 1 30 f.addr.toNat ∧
    e.waterway.number = bound 1 2 f.waterway.toNat ∧ e.profile.val = bound 0 3 f.profile.toNat ∧
    e.classCode = f.classCode.toNat ∧ e.rated = bound 1 5000 f.rated.toInt ∧
    e.assign = (if f.assign = 0 then .auto else .manual) ∧ e.minRun = bound 0 7200 f.minRun.toNat ∧
    e.minStill = bound 0 7200 f.minStill.toNat ∧ e.linger = bound 0 1800 f.linger.toNat ∧
    e.InRange ∧ (unitClamped present f = 0 ↔ e.fields = f ∧ present.toNat ≤ 1) ∧
    unitClamped present f = firstChanged [(present.toNat, e.present.toNat), (f.addr.toNat, e.addr),
      (f.waterway.toNat, e.waterway.number), (f.profile.toNat, e.profile.val), (f.classCode.toNat, e.classCode),
      (f.rated.toInt, e.rated), (f.assign.toNat, e.assign.code), (f.minRun.toNat, e.minRun),
      (f.minStill.toNat, e.minStill), (f.linger.toNat, e.linger)]) ∧
  (∀ f : ProfileFields,
    Profile.ofFields f =
      { tRunup := bound 0 3600 f.tRunup.toNat, tSync := bound 0 3600 f.tSync.toNat,
        tLoad := bound 0 3600 f.tLoad.toNat, tUnload := bound 0 3600 f.tUnload.toNat,
        tStop := bound 0 3600 f.tStop.toNat, tDewater := bound 0 3600 f.tDewater.toNat,
        tPrun := bound 0 3600 f.tPrun.toNat, tPrime := bound 0 3600 f.tPrime.toNat,
        tConvwait := bound 0 3600 f.tConvwait.toNat, tLockwait := bound 0 3600 f.tLockwait.toNat,
        rate0 := bound 0 1000 f.rate0.toNat, rate1 := bound 0 1000 f.rate1.toNat,
        rate2 := bound 0 1000 f.rate2.toNat, rate3 := bound 0 1000 f.rate3.toNat,
        refresh := bound 1 60 f.refresh.toNat, bandCount := bound 0 12 f.bandCount.toNat,
        hyst := bound 0 500 f.hyst.toNat } ∧
    (Profile.ofFields f).InRange ∧ (profileClamped f = 0 ↔ (Profile.ofFields f).fields = f) ∧
    (let p := Profile.ofFields f
     profileClamped f = firstChanged [(f.tRunup.toNat, p.tRunup), (f.tSync.toNat, p.tSync), (f.tLoad.toNat, p.tLoad),
       (f.tUnload.toNat, p.tUnload), (f.tStop.toNat, p.tStop), (f.tDewater.toNat, p.tDewater),
       (f.tPrun.toNat, p.tPrun), (f.tPrime.toNat, p.tPrime), (f.tConvwait.toNat, p.tConvwait),
       (f.tLockwait.toNat, p.tLockwait), (f.rate0.toNat, p.rate0), (f.rate1.toNat, p.rate1),
       (f.rate2.toNat, p.rate2), (f.rate3.toNat, p.rate3), (f.refresh.toNat, p.refresh),
       (f.bandCount.toNat, p.bandCount), (f.hyst.toNat, p.hyst)])) ∧
  ∀ f : BandFields,
    Band.ofFields f =
      { lower := bound 0 15000 f.lower.toNat, gmin := bound 0 5000 f.gmin.toInt, gmax := bound 0 5000 f.gmax.toInt,
        ppump := bound 0 5000 f.ppump.toInt, rzlo := bound 0 5000 f.rzlo.toInt, rzhi := bound 0 5000 f.rzhi.toInt,
        turb := decide (1 ≤ f.turb.toNat), pump := decide (1 ≤ f.pump.toNat) } ∧
    (Band.ofFields f).InRange ∧ (bandClamped f = 0 ↔ (Band.ofFields f).fields = f) ∧
    let b := Band.ofFields f
    bandClamped f = firstChanged [(f.lower.toNat, b.lower), (f.gmin.toInt, b.gmin), (f.gmax.toInt, b.gmax),
      (f.ppump.toInt, b.ppump), (f.rzlo.toInt, b.rzlo), (f.rzhi.toInt, b.rzhi), (f.turb.toNat, b.turb.toNat),
      (f.pump.toNat, b.pump.toNat)]

/-- Every step keeps every field of the six tables in its range and the merit lists without repeats (R18, R22, R24, R26,
R30, R32 to R34). -/
def Obligations.TablesStayInRange : Prop :=
  ∀ s t : State, s.tbs.InRange → step s = .next t → t.tbs.InRange

/-- The link address changes only by a cold reset; the tables only by a table cell, by RESTART, which closes the gate,
and by a cold reset; the engine state only by ENGINE, ABORT, RESUME, RESTART and a cold reset (R3, R18 to R21, R61 to
R66, R68, R79, R80). -/
def Obligations.OnlyNamedRowsChangeSettings : Prop :=
  ∀ (i : Instr) (s t : State), exec i s = .next t → (∀ strap, i ≠ .resetNRelease strap) →
    t.lpu.addr = s.lpu.addr ∧
    (t.tbs ≠ s.tbs → i.spelled.tableWrite.isSome = true ∨ (∃ h p, i.spelled = .tableGateOpen h p) ∨
      (∃ h p, i.spelled = .tableGateClose h p) ∨ ∃ h r, i.spelled = .restart h r) ∧
    (t.dse.engine ≠ s.dse.engine → (∃ h p, i.spelled = .engineRun h p) ∨ (∃ h p, i.spelled = .enginePause h p) ∨
      (∃ h id p, i.spelled = .abort h id p) ∨ (∃ h id p, i.spelled = .resume h id p) ∨ ∃ h r, i.spelled = .restart h r)

/-- Every step keeps the part's address in 1..30, and the link address of each present unit apart from those of the other
present units, the part and the converter (R3, R25, R27). -/
def Obligations.AddressesStayApart : Prop :=
  ∀ s t : State, AddressesApart s → step s = .next t → AddressesApart t

-- Engine control ------------------------------------------------------------------------------------------

/-- An ENGINE RUN in PAUSED whose present units all pass the validation: the engine runs with the assignments of the UNIT
table and the ramp interval timer started; each sequencer of a present, VERIFIED unit adopts by R115's table, its timers
stopped and its LOCKOUT marker set as the table's rule says; the hold plan follows the adopted states, and a unit in G_ON
or P_ON whose band does not allow its direction is forced out and stops; any other unit stays DORMANT (R39, R64, R65, R83,
R87, R114 to R116, R129, R165, R167). That origin and prior stage become none is log entry 7. -/
def Obligations.EngineRunAccepted : Prop :=
  ∀ (h : Hdr) (pad : BitVec 200) (s : State), DeliveredToPart (cellEngine h 1 pad) s → s.dse.engine = .paused →
    Consistent s → (∀ u, (s.unit u).present = true → PassesRun s u) →
    let adopted (i : Image) : SeqState :=
      if i.perm.remote.val = false then .localCmd
      else if i.stage = some .trip ∨ i.fault ≠ 0 then .tripped
      else if i.stage = some .still then .still
      else if i.stage = some .turbOn then .gOn
      else if i.stage = some .turbAir then .gAir
      else if i.stage = some .pumpAir then .pAir
      else if i.stage = some .pumpOn then .pOn
      else .unsettled
    ∃ t, exec (.engineRun h pad) s = .next t ∧ t.dse.engine = .running ∧
      (∀ u, t.assignOf u = (s.unit u).assign) ∧ t.rmp.timer = some s.tbs.plant.ti ∧ t.dse.standing.state = .none ∧
      t.dse.deferred = none ∧ t.dse.guardTmr = none ∧ t.uib = s.uib ∧ LeavesSetting (s.withLinkUp .up) t ∧
      (∀ u, ¬((s.unit u).present = true ∧ (s.image u).identity = .verified) → t.seq u = s.seq u ∧ t.ramp u = s.ramp u) ∧
      (∀ u, (s.unit u).present = true → (s.image u).identity = .verified →
        let i := s.image u
        let n := adopted i
        let record : Seq := { state := n, origin := .none, prior := none, stageTimer := none, minRun := none,
                              minStill := none, linger := none, pendLockout := i.perm.lockout.val && n != .still }
        let plans (m : PlanMode) (share : Option Nat) (marker : Bool) : Prop :=
          t.entry u = { mode := m, share, cls := 0, forcedOut := marker, originId := 0, originSrc := 0 }
        let stops : Prop := plans .still none true ∧ (t.seq u).state = .stopping ∧
          (t.seq u).stageTimer = some (s.profileOf u).tStop ∧
          { slot := .stage u, dest := (s.unit u).addr, cmd := .stop } ∈ t.lpu.cmds ∧ (t.ramp u).setpoint = none
        (n ≠ .gOn → n ≠ .pOn → t.seq u = record ∧
          plans (if n = .gAir then .genAir else if n = .pAir then .pumpAir else .still) none false) ∧
        (n = .gOn → ∀ b, s.bandOf u = some b → b.turb = true → t.seq u = record ∧
          (t.ramp u).setpoint = some (b.clamp i.power) ∧ plans .gen (some (b.clamp i.power)) false) ∧
        (n = .pOn → ∀ b, s.bandOf u = some b → b.pump = true → t.seq u = record ∧ plans .pump none false) ∧
        (n = .gOn → (∀ b, s.bandOf u = some b → b.turb = false) → stops) ∧
        (n = .pOn → (∀ b, s.bandOf u = some b → b.pump = false) → stops)) ∧
      (ReportRoom 1 s → ∃ rs, t.rpb.queue = s.rpb.queue ++ .mgtResult h.src 0x04 .accepted 0 0 0 0 :: rs)

/-- An ENGINE RUN outside PAUSED is answered STATE; in PAUSED the first check that fails, by unit number and then in the
order of R39, is answered INVALID with the table, entry and field it names; nothing else changes (R39, R64). -/
def Obligations.EngineRunRefused : Prop :=
  ∀ (h : Hdr) (pad : BitVec 200) (s : State), DeliveredToPart (cellEngine h 1 pad) s →
    let answer (code : MgtCode) (table index field : Byte) : State :=
      (s.withLinkUp .up).reported (.mgtResult h.src 0x04 code table index 0 field)
    (s.dse.engine ≠ .paused → exec (.engineRun h pad) s = .next (answer .state 0 0 0)) ∧
    (s.dse.engine = .paused → ∀ u, (s.unit u).present = true →
      (∀ v : UnitNo, v.number < u.number → (s.unit v).present = true → PassesRun s v) →
      let p := s.profileOf u
      let pno : Byte := BitVec.ofNat 8 (s.unit u).profile.val
      let w := (s.unit u).waterway
      (p.bandCount = 0 → exec (.engineRun h pad) s = .next (answer .invalid 3 pno 16)) ∧
      (p.bandCount ≠ 0 → ∀ k, (∀ x ∈ p.timeouts, x.1 < k → x.2 ≠ 0) → (k, 0) ∈ p.timeouts →
        exec (.engineRun h pad) s = .next (answer .invalid 3 pno (BitVec.ofNat 8 k))) ∧
      (p.bandCount ≠ 0 → (∀ x ∈ p.timeouts, x.2 ≠ 0) → p.rate0 = 0 →
        exec (.engineRun h pad) s = .next (answer .invalid 3 pno 11)) ∧
      (p.bandCount ≠ 0 → (∀ x ∈ p.timeouts, x.2 ≠ 0) → p.rate0 ≠ 0 → s.tbs.budgets.get w = 0 →
        exec (.engineRun h pad) s = .next (answer .invalid 6 (BitVec.ofNat 8 w.number) 1)))

/-- An ENGINE PAUSE: answered STATE in PAUSED, BUSY while a sequencer is in a transition or STOPPING or the converter
arbiter is CONNECTING, IN_USE or RELEASING; accepted otherwise, with the standing and the deferred order ended and
reported, the waiting commands but IDENT_REQ removed, and sequencers and Ramp Engine at their reset values (R66, R67,
R113, R164).
That the record's other fields are cleared too is log entry 25. -/
def Obligations.EnginePauseDecided : Prop :=
  ∀ (h : Hdr) (pad : BitVec 200) (s : State), DeliveredToPart (cellEngine h 2 pad) s →
    let answer (code : MgtCode) : Report := .mgtResult h.src 0x04 code 0 0 0 0
    let busy := (∃ u, (s.seq u).state.transition = true ∨ (s.seq u).state = .stopping) ∨ s.pra.arb = .connecting ∨
      s.pra.arb = .inUse ∨ s.pra.arb = .releasing
    let r := s.dse.standing
    let ended : List Report := if r.state = .none then []
      else [.orderState r.order.src r.order.id .ended r.order.target r.summary]
    let dropped : List Report := match s.dse.deferred with
      | some o => [.orderResult o.src o.id 0x01 .dropped 0 none]
      | none => []
    (s.dse.engine = .paused → exec (.enginePause h pad) s = .next ((s.withLinkUp .up).reported (answer .state))) ∧
    (s.dse.engine ≠ .paused → busy →
      exec (.enginePause h pad) s = .next ((s.withLinkUp .up).reported (answer .busy))) ∧
    (s.dse.engine ≠ .paused → ¬busy → ∃ t, exec (.enginePause h pad) s = .next t ∧
      t.dse = { engine := .paused, standing := .cleared, deferred := none, guardTmr := none, assign := s.dse.assign,
                trace := false } ∧
      (∀ u, t.seq u = .cold) ∧ t.rmp = .cold ∧ t.pra = s.pra ∧ t.uib = s.uib ∧ t.tbs = s.tbs ∧ t.alc = s.alc ∧
      t.lpu = { (s.withLinkUp .up).lpu with cmds := s.lpu.cmds.filter fun w => w.cmd == .identReq } ∧
      t.rpb.alertLow = t.alertDue ∧
      (ReportRoom 3 s → t.rpb.queue = s.rpb.queue ++ answer .accepted :: (ended ++ dropped) ∧
        t.rpb.flags = s.rpb.flags))

/-- ENGINE with another request is answered RANGE; TRACE ON and OFF set the trace flag in every engine state and are
answered ACCEPTED, another code is answered RANGE (R63, R69). That the codes of the other rows, given to a bad request
row, are answered RANGE too is log entry 12. -/
def Obligations.TraceAndBadEngineRequests : Prop :=
  (∀ (h : Hdr) (request : Byte) (pad : BitVec 200) (s : State), DeliveredToPart (cellEngine h request pad) s →
      exec (.engineBadRequest h request pad) s = .next
        ((s.withLinkUp .up).reported (.mgtResult h.src 0x04 .range 0 0 0 0))) ∧
    (∀ (h : Hdr) (pad : BitVec 200) (s : State), DeliveredToPart (cellTrace h 1 pad) s →
      exec (.traceOn h pad) s = .next (({ s.withLinkUp .up with dse := { s.dse with trace := true } } : State).reported
        (.mgtResult h.src 0x08 .accepted 0 0 0 0))) ∧
    (∀ (h : Hdr) (pad : BitVec 200) (s : State), DeliveredToPart (cellTrace h 0 pad) s →
      exec (.traceOff h pad) s = .next (({ s.withLinkUp .up with dse := { s.dse with trace := false } } : State).reported
        (.mgtResult h.src 0x08 .accepted 0 0 0 0))) ∧
    ∀ (h : Hdr) (request : Byte) (pad : BitVec 200) (s : State), DeliveredToPart (cellTrace h request pad) s →
      exec (.traceBadRequest h request pad) s = .next
        ((s.withLinkUp .up).reported (.mgtResult h.src 0x08 .range 0 0 0 0))

/-- RESTART, the warm reset: every block at its reset values but the tables, the address and the cells on their way; the
live assignments those of the UNIT table; then MGT_RESULT ACCEPTED first in the emptied queue, and for each present unit
in ascending number a UNIT_EVENT with VERIFY_CHANGE and an IDENT_REQ (R1, R17, R18, R54, R57, R60, R61, R68).
That the raised-again marks are cleared is log entry 23. -/
def Obligations.RestartIsWarmReset : Prop :=
  ∀ (h : Hdr) (rest : Payload) (s : State), DeliveredToPart (cellRestart h rest) s →
    let us := UnitNo.all.filter fun u => (s.unit u).present
    ∃ t, exec (.restart h rest) s = .next t ∧ t.pending = s.pending ∧ t.held = false ∧
      t.lpu = { addr := s.lpu.addr
                link := { up := { isUp := false, loss := none }, dn := { isUp := false, loss := none } }
                dnFwd := []
                upFwd := []
                cmds := us.map fun u => { slot := .stage u, dest := (s.unit u).addr, cmd := .identReq }
                dnTurn := .forward
                upTurn := .report
                dnTx := s.lpu.dnTx
                upTx := s.lpu.upTx } ∧
      t.tbs = { s.tbs with gateOpen := false } ∧ t.uib.conv = { ready := false, fault := false, connected := 0 } ∧
      (∀ u, t.image u = if (s.unit u).present = true then { Image.cold with
          identity := .identWait, identCount := 1, identTimer := some s.tbs.plant.identWait, verifyEvent := true }
        else .cold) ∧
      t.dse.engine = .paused ∧ t.dse.standing.state = .none ∧ t.dse.deferred = none ∧ t.dse.guardTmr = none ∧
      (let o := t.dse.standing.order
       o.id = 0 ∧ o.target = 0 ∧ o.cls = 0 ∧ o.clamped = false) ∧
      t.dse.standing.summary = { genCount := 0, pumpCount := 0, total := 0, deviation := 0 } ∧
      t.dse.trace = false ∧ (∀ u, t.assignOf u = (s.unit u).assign) ∧ t.alc = .cold ∧ (∀ u, t.seq u = .cold) ∧
      t.pra = .cold ∧ t.rmp = .cold ∧
      t.rpb = { queue := .mgtResult h.src 0x05 .accepted 0 0 0 0 :: us.map fun u => .unitEvent u 0 true
                flags := 0
                again := 0
                carried := 0
                snapshot := 0
                alertLow := false }

/-- WATCH replaces a unit's mask and is answered ACCEPTED with the unit number; it is refused RANGE for a number outside
1..6 or a unit that is not present. An active bit newly watched sets its event flag. Flags that go from clear to set join
the unit's UNIT_EVENT where one waits in the report queue; where none waits, a UNIT_EVENT with every flag of the unit is
queued after the MGT_RESULT, or lost with REPORT_LOST when the queue is full, the flags staying set. Nothing else
changes (R51, R52, R185, R186). -/
def Obligations.WatchSetsMask : Prop :=
  ∀ (h : Hdr) (unit mask : Byte) (pad : BitVec 192) (s : State), DeliveredToPart (cellWatch h unit mask pad) s →
    (∀ u : UnitNo, unit.toNat = u.number → (s.unit u).present = true →
      let i := s.image u
      let fresh : BitVec 8 := mask &&& ~~~i.watch &&& i.activeInterlocks &&& ~~~i.events
      let waits := ∃ r ∈ s.rpb.queue, r.isEventOf u = true
      let answered : State := State.reported
        { s.withLinkUp .up with uib := { s.uib with
            images := s.uib.images.set u { i with watch := mask, events := i.events ||| fresh } } }
        (.mgtResult h.src 0x06 .accepted 0 unit 0 0)
      let joined (r : Report) : Report := match r with
        | .unitEvent v ev verify => if v = u then .unitEvent v (ev ||| fresh) verify else r
        | _ => r
      (fresh = 0 → exec (.watch h unit mask pad) s = .next answered) ∧
      (fresh ≠ 0 → waits → exec (.watch h unit mask pad) s = .next
        { answered with rpb := { answered.rpb with queue := answered.rpb.queue.map joined } }) ∧
      (fresh ≠ 0 → ¬waits → exec (.watch h unit mask pad) s = .next
        (answered.reported (.unitEvent u (i.events ||| fresh) i.verifyEvent)))) ∧
    ((unit = 0 ∨ 6 < unit.toNat ∨ ∃ u : UnitNo, unit.toNat = u.number ∧ (s.unit u).present = false) →
      exec (.watch h unit mask pad) s = .next
        ((s.withLinkUp .up).reported (.mgtResult h.src 0x06 .range 0 unit 0 1)))

-- Orders --------------------------------------------------------------------------------------------------

/-- NET_POWER: refused outside RUNNING; deferred while the guard timer runs, the order it displaces superseded; else
taken, with its target and rate class brought into range, a plan made for it, its result carrying the plan's summary,
the standing order it replaces superseded, and the guard timer started. Then each sequencer whose planned mode the plan
changes acts on it, in ascending unit number, and every other keeps its record, its setpoint and its waiting commands, but
one that is handed the lock of a lower-numbered one that stops (R71 to R73, R82, R88, R89, R117, R126 to R131, R162).
That the order is held with its source is log entry 24. -/
def Obligations.NetPowerDecided : Prop :=
  ∀ (h : Hdr) (id target : Half) (cls : Byte) (pad : BitVec 168) (s : State),
    DeliveredToPart (cellNetPower h id target cls pad) s →
    let i := Instr.netPower h id target cls pad
    let v := target.toInt
    let isOrder (o : Order) : Prop := o.id = id ∧ o.src = h.src ∧
      o.target = (if v < -30000 then -30000 else if 30000 < v then 30000 else v) ∧
      (o.clamped = true ↔ v < -30000 ∨ 30000 < v) ∧ o.cls.val = (if cls.toNat ≤ 3 then cls.toNat else 0)
    let result (o : Order) (code : OrderCode) (m : Option Summary) : Report := .orderResult o.src o.id 0x01 code 0 m
    (s.dse.engine ≠ .running → exec i s = .next
      ((s.withLinkUp .up).reported (.orderResult h.src id 0x01 .refusedState 0 none))) ∧
    (s.dse.engine = .running → s.dse.guardTmr.isSome = true → ∃ o, isOrder o ∧
      let t : State := ({ s.withLinkUp .up with dse := { s.dse with deferred := some o } } : State).reported
        (result o .deferred none)
      exec i s = .next (match s.dse.deferred with
        | some d => t.reported (result d .superseded none)
        | none => t)) ∧
    (s.dse.engine = .running → s.dse.guardTmr = none → ∃ t, exec i s = .next t ∧
      isOrder t.dse.standing.order ∧ (t.dse.standing.state = .active ∨ t.dse.standing.state = .settled) ∧
      t.alc = plan { s with dse := { s.dse with standing := t.dse.standing } } ∧
      t.dse = { s.dse with
        standing := { t.dse.standing with summary := t.alc.summary }
        guardTmr := if s.tbs.plant.guardTime = 0 then none else some s.tbs.plant.guardTime } ∧
      t.uib = s.uib ∧ t.rmp.timer = s.rmp.timer ∧ LeavesSetting (s.withLinkUp .up) t ∧
      (ResourcesAgree s →
        let o := t.dse.standing.order
        let a := plan { s with dse := { s.dse with standing := { s.dse.standing with state := .active, order := o } } }
        let written : State := { s.withLinkUp .up with
          alc := a
          dse := { s.dse with
            standing := { state := .active, order := o, summary := a.summary }
            guardTmr := if s.tbs.plant.guardTime = 0 then none else some s.tbs.plant.guardTime } }
        let answered := written.reported
          (result o (if v < -30000 ∨ 30000 < v then .clamped else .accepted) (some a.summary))
        PlanActed s.alc.entries [] False (if s.dse.standing.state = .none then answered
          else answered.reported (result s.dse.standing.order .superseded none)) t) ∧
      (ReportRoom 2 s → ∃ rs, t.rpb.queue = s.rpb.queue ++
        (result t.dse.standing.order (if v < -30000 ∨ 30000 < v then .clamped else .accepted) (some t.alc.summary) ::
          (if s.dse.standing.state = .none then [] else [result s.dse.standing.order .superseded none])) ++ rs))

/-- Expiry of the running guard timer: with the deferred slot empty the timer stops and no more; with an order there, the
slot is emptied and the order taken, the guard timer started again, and the sequencers take their turns on its plan (R72,
R74, R82, R89, R117, R126 to R131, R162); a stopped timer does not expire (R113; log entry 3). -/
def Obligations.GuardExpiryTakesDeferred : Prop :=
  ∀ s : State, s.held = false →
    (s.dse.guardTmr.isSome = true → s.dse.deferred = none →
      exec .guardExpiry s = .next { s with dse := { s.dse with guardTmr := none } }) ∧
    (s.dse.guardTmr.isSome = true → ∀ o, s.dse.deferred = some o → ∃ t, exec .guardExpiry s = .next t ∧
      t.dse.standing.order = o ∧ (t.dse.standing.state = .active ∨ t.dse.standing.state = .settled) ∧
      t.alc = plan { s with dse := { s.dse with standing := t.dse.standing } } ∧
      t.dse = { s.dse with
        standing := { t.dse.standing with summary := t.alc.summary }
        deferred := none
        guardTmr := if s.tbs.plant.guardTime = 0 then none else some s.tbs.plant.guardTime } ∧
      t.uib = s.uib ∧ t.rmp.timer = s.rmp.timer ∧ LeavesSetting s t ∧
      (ResourcesAgree s →
        let a := plan { s with dse := { s.dse with standing := { s.dse.standing with state := .active, order := o } } }
        let r := s.dse.standing.order
        let written : State := { s with
          alc := a
          dse := { s.dse with
            standing := { state := .active, order := o, summary := a.summary }
            deferred := none
            guardTmr := if s.tbs.plant.guardTime = 0 then none else some s.tbs.plant.guardTime } }
        let answered := written.reported
          (.orderResult o.src o.id 0x01 (if o.clamped then .clamped else .accepted) 0 (some a.summary))
        PlanActed s.alc.entries [] False (if s.dse.standing.state = .none then answered
          else answered.reported (.orderResult r.src r.id 0x01 .superseded 0 none)) t) ∧
      (ReportRoom 2 s → ∃ rs, t.rpb.queue = s.rpb.queue ++
        (.orderResult o.src o.id 0x01 (if o.clamped then .clamped else .accepted) 0 (some t.alc.summary) ::
          (if s.dse.standing.state = .none then []
            else [.orderResult s.dse.standing.order.src s.dse.standing.order.id 0x01 .superseded 0 none])) ++ rs)) ∧
    (s.dse.guardTmr = none → exec .guardExpiry s = .next s)

/-- UNIT_MODE: the four checks of R75 in their order, and an accepted order's entry with its share brought into the band;
an unknown mode code is STILL and CLAMPED, a share that differs from the setpoint given is CLAMPED. Where it changes the
planned mode (no order standing), the unit's sequencer acts on it: from a stable state by the tables of R128 to R131, from
a rotating start stage by going on or abandoning, from a lock wait by going on or returning to its origin and acting
there, and not at all while it unloads, stops or is outside dispatch. Under a standing order it acts so too, and a run
follows, on whose plan the sequencers take their turns (R75, R76, R82, R84 to R86, R89, R119, R121, R125 to R131).
That the result is the first report is log entry 18. -/
def Obligations.UnitModeDecided : Prop :=
  ∀ (h : Hdr) (id : Half) (unit mode : Byte) (setpoint : Half) (cls : Byte) (pad : BitVec 152) (s : State),
    DeliveredToPart (cellUnitMode h id unit mode setpoint cls pad) s →
    let i := Instr.unitMode h id unit mode setpoint cls pad
    let answer (code : OrderCode) : Report := .orderResult h.src id 0x02 code unit none
    let refused (code : OrderCode) : Prop := exec i s = .next ((s.withLinkUp .up).reported (answer code))
    ((unit = 0 ∨ 6 < unit.toNat ∨ ∃ u : UnitNo, unit.toNat = u.number ∧ (s.unit u).present = false) →
      refused .refusedUnit) ∧
    ∀ u : UnitNo, unit.toNat = u.number → (s.unit u).present = true →
      (s.assignOf u = .auto → refused .refusedNotManual) ∧
      (s.assignOf u = .manual → s.dse.engine = .paused → refused .refusedState) ∧
      (s.assignOf u = .manual → s.dse.engine ≠ .paused →
        (mode = 1 → (∀ b, s.bandOf u = some b → b.turb = false) → refused .refusedBand) ∧
        (mode = 2 → (∀ b, s.bandOf u = some b → b.pump = false) → refused .refusedBand) ∧
        ∀ (m : PlanMode) (share : Option Nat),
          (m = .gen ∧ mode = 1 ∧ ∃ b, s.bandOf u = some b ∧ b.turb = true ∧ share = some (b.clamp setpoint.toInt)) ∨
          (m = .pump ∧ mode = 2 ∧ (∃ b, s.bandOf u = some b ∧ b.pump = true) ∧ share = none) ∨
          (m = .genAir ∧ mode = 3 ∧ share = none) ∨ (m = .pumpAir ∧ mode = 4 ∧ share = none) ∨
          (m = .still ∧ (mode = 0 ∨ 4 < mode.toNat) ∧ share = none) →
          ∃ t, exec i s = .next t ∧
            t.entry u = { mode := m, share, cls := rateClass cls, forcedOut := false, originId := id,
                          originSrc := h.src } ∧
            t.uib = s.uib ∧ LeavesSetting (s.withLinkUp .up) t ∧ t.dse = { s.dse with standing := t.dse.standing } ∧
            t.dse.standing.order = s.dse.standing.order ∧
            (s.orderStands = false → ∀ v, v ≠ u → t.entry v = s.entry v) ∧
            (s.orderStands = false → ResourcesAgree s → (s.entry u).mode ≠ m →
              let q := s.seq u
              let i := s.image u
              let actsFrom (x : SeqState) : Prop := ActedFrom s t u x (t.entry u) i q.minStill q.pendLockout
              let gens := m = .gen ∨ m = .genAir
              let pumps := m = .pump ∨ m = .pumpAir
              let reports (n : SeqState) (k : Cause) : Prop := ReportRoom 2 s →
                .unitState u q.state n k i.stage i.fault ∈ t.rpb.queue
              let abandons : Prop := Stopped t u ∧ reports .stopping .abandoned
              (q.state.stable = true → actsFrom q.state) ∧
              (q.state = .gRunup ∨ q.state = .gSync ∨ q.state = .gLoad →
                (gens → t.seq u = q) ∧ (¬gens → abandons)) ∧
              (q.state = .pDewater ∨ q.state = .pConvwait ∨ q.state = .pRunup ∨ q.state = .pPrime →
                (pumps → t.seq u = q) ∧ (¬pumps → abandons)) ∧
              (q.state = .gLockwait ∨ q.state = .pLockwait →
                let x : SeqState := if q.state = .pLockwait then .pAir else if q.origin = .air then .gAir else .still
                let goesOn := (x = .pAir ∧ m = .pump) ∨ (x = .gAir ∧ m = .gen) ∨ (x = .still ∧ gens)
                (goesOn → t.seq u = q) ∧ (¬goesOn → actsFrom x ∧ reports x .returned)) ∧
              (q.state = .gUnload ∨ q.state = .pUnload ∨ q.state = .stopping ∨ q.state = .dormant ∨
                  q.state = .unsettled ∨ q.state = .localCmd ∨ q.state = .tripped →
                t.seq u = q)) ∧
            (s.orderStands = true → ResourcesAgree s →
              let ordered : Entry := { mode := m, share, cls := rateClass cls, forcedOut := false, originId := id,
                                       originSrc := h.src }
              let written : State := State.reported
                { s.withLinkUp .up with alc := { s.alc with entries := s.alc.entries.set u ordered } }
                (answer (if 4 < mode.toNat ∨ (∃ v, share = some v ∧ (v : Int) ≠ setpoint.toInt) then .clamped
                  else .accepted))
              ((s.entry u).mode = m → RanFrom written [] False t) ∧
              ((s.entry u).mode ≠ m → ∃ e, SequencerTurn written e u ∧ RanFrom e [] (Returns (s.seq u) m) t)) ∧
            (ReportRoom 1 s → ∃ rs, t.rpb.queue = s.rpb.queue ++
              answer (if 4 < mode.toNat ∨ (∃ v, share = some v ∧ (v : Int) ≠ setpoint.toInt) then .clamped
                else .accepted) :: rs))

/-- UNIT_ASSIGN sets the live assignment of a present unit in every engine state, any code but 0 as MANUAL and one above 1
answered CLAMPED; the entry of a unit made MANUAL stays as it was last written. Under a standing order a run follows, and
the sequencers take their turns on its plan (R77, R82, R84, R85, R89). -/
def Obligations.UnitAssignSetsAssignment : Prop :=
  ∀ (h : Hdr) (id : Half) (unit code : Byte) (pad : BitVec 176) (s : State),
    DeliveredToPart (cellUnitAssign h id unit code pad) s →
    let i := Instr.unitAssign h id unit code pad
    let answer (code : OrderCode) : Report := .orderResult h.src id 0x03 code unit none
    let result : Report := answer (if 1 < code.toNat then .clamped else .accepted)
    ((unit = 0 ∨ 6 < unit.toNat ∨ ∃ u : UnitNo, unit.toNat = u.number ∧ (s.unit u).present = false) →
      exec i s = .next ((s.withLinkUp .up).reported (answer .refusedUnit))) ∧
    ∀ u : UnitNo, unit.toNat = u.number → (s.unit u).present = true →
      let a : Assign := if code = 0 then .auto else .manual
      (s.orderStands = false → exec i s = .next
        (({ s.withLinkUp .up with dse := { s.dse with assign := s.dse.assign.set u a } } : State).reported result)) ∧
      ∃ t, exec i s = .next t ∧ t.assignOf u = a ∧ (∀ v, v ≠ u → t.assignOf v = s.assignOf v) ∧
        (code ≠ 0 → t.entry u = s.entry u) ∧ t.uib = s.uib ∧ LeavesSetting (s.withLinkUp .up) t ∧
        t.dse.engine = s.dse.engine ∧ t.dse.standing.order = s.dse.standing.order ∧
        (s.orderStands = true → ResourcesAgree s → RanFrom
          (({ s.withLinkUp .up with dse := { s.dse with assign := s.dse.assign.set u a } } : State).reported result)
          [] False t) ∧
        (ReportRoom 1 s → ∃ rs, t.rpb.queue = s.rpb.queue ++ result :: rs)

/-- UNIT_CLEAR takes a TRIPPED sequencer whose image shows STILL without a fault to STILL with its min-still timer
started, or on to LOCAL when REMOTE is inactive; in every other case it is refused and nothing changes. In STILL it acts on
its planned mode, after the run that follows under a standing order, on whose plan the other sequencers act where it
changes theirs (R78, R82, R84, R85, R89, R128, R132, R141, R142). The order of the two reports is log entry 15.
The other model choices in it: that origin and prior stage become none is log entry 7; that a min-still of period 0 is
held as started log entry 5, and stopped by the entry into LOCAL of the same event log entry 32; that a waiting IDENT_REQ
stays at that entry log entry 9; that the cleared sequencer and those whose planned mode the run changes act in one
ascending pass log entry 13. -/
def Obligations.UnitClearReleasesTrip : Prop :=
  ∀ (h : Hdr) (id : Half) (unit : Byte) (pad : BitVec 184) (s : State),
    DeliveredToPart (cellUnitClear h id unit pad) s →
    let i := Instr.unitClear h id unit pad
    let answer (code : OrderCode) : Report := .orderResult h.src id 0x04 code unit none
    ((unit = 0 ∨ 6 < unit.toNat ∨ ∃ u : UnitNo, unit.toNat = u.number ∧ (s.unit u).present = false) →
      exec i s = .next ((s.withLinkUp .up).reported (answer .refusedUnit))) ∧
    ∀ u : UnitNo, unit.toNat = u.number → (s.unit u).present = true →
      let clear := (s.seq u).state = .tripped ∧ (s.image u).stage = some .still ∧ (s.image u).fault = 0
      (¬clear → exec i s = .next ((s.withLinkUp .up).reported (answer .refusedNotClearable))) ∧
      (clear → ResourcesAgree s → ∃ t, exec i s = .next t ∧ t.uib = s.uib ∧ LeavesSetting (s.withLinkUp .up) t ∧
        t.dse = { s.dse with standing := t.dse.standing } ∧ t.dse.standing.order = s.dse.standing.order ∧
        ((s.image u).perm.remote.val = true → 0 < (s.unit u).minStill →
          t.seq u = { s.seq u with state := .still, origin := .none, prior := none, stageTimer := none,
                                   minStill := some (s.unit u).minStill }) ∧
        ((s.image u).perm.remote.val = false →
          t.seq u = { state := .localCmd, origin := .none, prior := none, stageTimer := none, minRun := none,
                      minStill := none, linger := none, pendLockout := (s.seq u).pendLockout }) ∧
        ((s.image u).perm.remote.val = true → s.orderStands = false →
          ActedFrom s t u .still (s.entry u) (s.image u) (some (s.unit u).minStill) (s.seq u).pendLockout ∧
          (∀ v, v ≠ u → t.seq v = s.seq v) ∧ t.rmp = s.rmp ∧ t.alc = s.alc) ∧
        (s.orderStands = true →
          let q := s.seq u
          let still : Seq := { q with state := .still, origin := .none, prior := none, stageTimer := none,
                                      minStill := some (s.unit u).minStill }
          let away : Seq := { state := .localCmd, origin := .none, prior := none, stageTimer := none, minRun := none,
                              minStill := none, linger := none, pendLockout := q.pendLockout }
          let cleared : State := ({ s.withLinkUp .up with seqs := s.seqs.set u still } : State).reported
            (.unitState u .tripped .still .cleared (some .still) 0)
          let gone : State := ({ cleared with
              seqs := s.seqs.set u away
              lpu := { cleared.lpu with
                cmds := s.lpu.cmds.filter fun w => w.slot != .stage u || w.cmd == .identReq } } : State).reported
            (.unitState u .still .localCmd .remoteLoss (some .still) 0)
          let answered (e : State) : State :=
            ({ e with rpb := { e.rpb with alertLow := e.alertDue } } : State).reported (answer .accepted)
          ((s.image u).perm.remote.val = true → RanFrom (answered cleared) [u] True t) ∧
          ((s.image u).perm.remote.val = false → RanFrom (answered gone) [] True t)) ∧
        (ReportRoom 3 s → .unitState u .tripped .still .cleared (some .still) 0 ∈ t.rpb.queue ∧
          answer .accepted ∈ t.rpb.queue))

/-- ABORT in RUNNING ends the standing order, drops the deferred one, stops the guard timer, halts the engine and freezes
the plan from the sequencers' states; in HALTED it is answered and changes nothing; in PAUSED it is refused. RESUME in
HALTED makes the engine run again and lets the DORMANT sequencers of present, VERIFIED units adopt by R115's table, which
stay in the state adopted where their planned mode asks for it, every other sequencer keeping its state; elsewhere it is
refused. After ABORT each sequencer acts on its frozen entry: in a stable state it stays, but that a unit in G_ON or P_ON
whose band forbids it stops; a rotating start stage is abandoned through STOPPING; an unloading or stopping stage goes on;
a lock wait returns to its origin and acts there, unless a sequencer of a lower number, acting first, has passed the lock
on to it, which is then abandoned (R79, R80, R87, R114 to R117, R126 to R131, R160, R162, R167). That the record's other
fields stay is log entry 25, that origin and prior stage become none log entry 7, that an auto unit adopting at RESUME
acts on its entry as last written, STILL or not, log entry 34. -/
def Obligations.AbortAndResume : Prop :=
  (∀ (h : Hdr) (id : Half) (pad : BitVec 192) (s : State), DeliveredToPart (cellAbort h id pad) s →
    let answer (code : OrderCode) : Report := .orderResult h.src id 0x05 code 0 none
    let r := s.dse.standing
    (s.dse.engine = .paused → exec (.abort h id pad) s = .next ((s.withLinkUp .up).reported (answer .refusedState))) ∧
    (s.dse.engine = .halted → exec (.abort h id pad) s = .next ((s.withLinkUp .up).reported (answer .accepted))) ∧
    (s.dse.engine = .running → ∃ t, exec (.abort h id pad) s = .next t ∧
      t.dse = { s.dse with engine := .halted, standing := { r with state := .none }, deferred := none,
                           guardTmr := none } ∧
      t.uib = s.uib ∧ t.alc.summary = s.alc.summary ∧ t.rmp.timer = s.rmp.timer ∧
      LeavesSetting (s.withLinkUp .up) t ∧
      (∀ u, let still : Entry := { mode := .still, share := none, cls := 0, forcedOut := false, originId := 0,
                                   originSrc := 0 }
        t.entry u = match (s.seq u).state with
          | .gOn => if (s.turbineBand u).isSome then { still with mode := .gen, share := (s.ramp u).setpoint }
            else { still with forcedOut := true }
          | .pOn => if (s.pumpBand u).isSome then { still with mode := .pump } else { still with forcedOut := true }
          | .gAir => { still with mode := .genAir }
          | .pAir => { still with mode := .pumpAir }
          | _ => still) ∧
      (ResourcesAgree s → ∀ u,
        let q := s.seq u
        let n := q.state
        let i := s.image u
        let l := s.pra.locks.get (s.unit u).waterway
        let abandons (a : SeqState) : Prop :=
          Stopped t u ∧ Queued (.unitState u a .stopping .abandoned i.stage i.fault) t
        let kept := (n = .gOn ∧ (s.turbineBand u).isSome = true) ∨ (n = .pOn ∧ (s.pumpBand u).isSome = true)
        (n = .still ∨ kept ∨ n = .gUnload ∨ n = .pUnload ∨ n = .stopping ∨ n = .dormant ∨ n = .unsettled ∨
            n = .localCmd ∨ n = .tripped → t.seq u = q ∧ t.ramp u = s.ramp u) ∧
        (n = .gAir ∨ n = .pAir → t.seq u = { q with linger := none }) ∧
        (n = .gOn ∨ n = .pOn → ¬kept → Stopped t u) ∧
        (n = .gRunup ∨ n = .gSync ∨ n = .gLoad ∨ n = .pDewater ∨ n = .pConvwait ∨ n = .pRunup ∨ n = .pPrime →
          abandons n) ∧
        (n = .gLockwait ∨ n = .pLockwait →
          let back : SeqState := if n = .pLockwait then .pAir else if q.origin = .air then .gAir else .still
          let granted : SeqState := if n = .pLockwait then .pPrime else if q.origin = .air then .gLoad else .gRunup
          let returns : Prop := ActedFrom s t u back (t.entry u) i q.minStill q.pendLockout ∧
            Queued (.unitState u n back .returned i.stage i.fault) t
          (returns ∨ abandons granted) ∧
          ((∀ h, l.holder = some h → u.number < h.number) → returns) ∧
          ∀ h, l.holder = some h → h.number < u.number →
            (l.waiters.filter fun v => decide (h.number < v.number)).head? = some u → abandons granted)) ∧
      (ReportRoom 3 s → ∃ rs, t.rpb.queue = s.rpb.queue ++ (answer .accepted ::
        ((if r.state = .none then [] else [.orderState r.order.src r.order.id .aborted r.order.target r.summary]) ++
          match s.dse.deferred with
            | some o => [.orderResult o.src o.id 0x01 .dropped 0 none]
            | none => [])) ++ rs))) ∧
  ∀ (h : Hdr) (id : Half) (pad : BitVec 192) (s : State), DeliveredToPart (cellResume h id pad) s →
    let answer (code : OrderCode) : Report := .orderResult h.src id 0x06 code 0 none
    (s.dse.engine ≠ .halted → exec (.resume h id pad) s = .next ((s.withLinkUp .up).reported (answer .refusedState))) ∧
    (s.dse.engine = .halted → s.dse.standing.state = .none → ResourcesAgree s →
      ∃ t, exec (.resume h id pad) s = .next t ∧ t.dse = { s.dse with engine := .running } ∧ t.alc = s.alc ∧
        t.uib = s.uib ∧ t.rmp.timer = s.rmp.timer ∧ LeavesSetting (s.withLinkUp .up) t ∧
        (∀ u, (s.seq u).state ≠ .dormant → t.seq u = s.seq u) ∧
        (∀ u, (s.seq u).state = .dormant →
          let adopts := (s.unit u).present = true ∧ (s.image u).identity = .verified
          let i := s.image u
          let n : SeqState :=
            if i.perm.remote.val = false then .localCmd
            else if i.stage = some .trip ∨ i.fault ≠ 0 then .tripped
            else if i.stage = some .still then .still
            else if i.stage = some .turbOn then .gOn
            else if i.stage = some .turbAir then .gAir
            else if i.stage = some .pumpAir then .pAir
            else if i.stage = some .pumpOn then .pOn
            else .unsettled
          let m := (s.entry u).mode
          let stays := n = .unsettled ∨ n = .tripped ∨ n = .localCmd ∨ (n = .still ∧ m = .still) ∨ (n = .gOn ∧ m = .gen) ∨
            (n = .gAir ∧ m = .genAir) ∨ (n = .pAir ∧ m = .pumpAir) ∨ (n = .pOn ∧ m = .pump)
          (¬adopts → t.seq u = s.seq u) ∧
          (adopts → stays → t.seq u =
            { state := n, origin := .none, prior := none, stageTimer := none, minRun := none, minStill := none,
              linger := none, pendLockout := i.perm.lockout.val && n != .still }) ∧
          (adopts → n = .gOn → m = .gen → ∀ b, s.bandOf u = some b → b.turb = true →
            (t.ramp u).setpoint = some (b.clamp i.power))) ∧
        (ReportRoom 1 s → ∃ rs, t.rpb.queue = s.rpb.queue ++ answer .accepted :: rs))

-- Telemetry and identity ----------------------------------------------------------------------------------

/-- A UNIT_STATUS snooped from a present unit writes stage, fault code, power and head at once, clears staleness, starts
the stale timer, evaluates the band and sets the event flags of the watched interlocks that became active; it is
forwarded. One with an unknown stage code, from nobody, or addressed to the part reaches no image (R5, R7, R41, R42,
R45, R46, R49, R50, R52). Where it changes the band of a unit whose sequencer it otherwise leaves alone (no order
standing), the unit's plan entry is re-examined against the new band, a changed manual entry reported to its origin, the
setpoint of a unit in G_ON re-clamped or ended, and a sequencer in G_ON, P_ON, G_AIR or P_AIR that is forced out stops.
Under a standing order, and but for an adoption, one run follows where the cell raises an allocation trigger, on the state
that it leaves where no order stands, and the sequencers take their turns on its plan; without a trigger the plan stays
(R84, R85, R89, R107, R108, R110, R111, R178, R179). That a re-examined entry keeps rate class and origin is log entry
10. -/
def Obligations.UnitStatusUpdatesImage : Prop :=
  ∀ (h : Hdr) (stage fault : Byte) (power head : Half) (perm interlocks : Byte) (pad : BitVec 144) (s : State),
    let c := cellUnitStatus h stage fault power head perm interlocks pad
    let i := Instr.unitStatus h stage fault power head perm interlocks pad
    Delivered c s →
    (toPart c s = true → exec i s = .next (s.withLinkUp .dn)) ∧
    (toPart c s = false → (unitAt h.src s = none ∨ 8 < stage.toNat) →
      exec i s = .next ((s.withLinkUp .dn).forwardedUp c)) ∧
    ∀ (u : UnitNo) (st : Stage), toPart c s = false → unitAt h.src s = some u → st.code = stage →
      ∃ t, exec i s = .next t ∧
        (let a := s.image u
         let j := t.image u
         let hy := (s.profileOf u).hyst
         let taken := selectBand s.tbs.bands[(s.unit u).profile] (s.profileOf u).bandCount
         j.stage = some st ∧ j.fault = fault ∧ j.power = power.toInt ∧ j.stale = false ∧
         j.staleTimer = some s.tbs.plant.staleTime ∧ j.watch = a.watch ∧
         j.identity = (if a.identity = .absent then .identWait else a.identity) ∧
         (15000 < head.toNat → j.head = none ∧ j.band = .none ∧ j.region = none) ∧
         (head.toNat ≤ 15000 → j.head = some head.toNat ∧
           (a.region = none → j.band = (taken head.toNat).1 ∧ j.region = some (taken head.toNat).2) ∧
           ∀ r, a.region = some r →
             (r.lo ≤ head.toNat + hy ∧ (∀ hi, r.hi = some hi → head.toNat < hi + hy) →
               j.band = a.band ∧ j.region = some r) ∧
             (¬(r.lo ≤ head.toNat + hy ∧ (∀ hi, r.hi = some hi → head.toNat < hi + hy)) →
               j.band = (taken head.toNat).1 ∧ j.region = some (taken head.toNat).2)) ∧
         (∀ k : Fin 8, j.events.getLsbD k = (a.events.getLsbD k ||
           (a.watch.getLsbD k && j.activeInterlocks.getLsbD k && !a.activeInterlocks.getLsbD k)))) ∧
        (∀ v, v ≠ u → t.image v = s.image v) ∧ LeavesSetting (s.withLinkUp .dn) t ∧
        t.dse.engine = s.dse.engine ∧ t.dse.standing.order = s.dse.standing.order ∧ t.dse.assign = s.dse.assign ∧
        t.dse.deferred = s.dse.deferred ∧ t.dse.guardTmr = s.dse.guardTmr ∧
        t.lpu.upFwd = (if s.lpu.upFwd.length < 32 then s.lpu.upFwd ++ [c] else s.lpu.upFwd) ∧
        t.lpu.dnFwd = s.lpu.dnFwd ∧
        (s.orderStands = true → (s.seq u).state ≠ .unsettled → (s.seq u).state ≠ .localCmd →
          let a := s.image u
          let j := t.image u
          let samePerm := a.perm.ready.val = j.perm.ready.val ∧ a.perm.air.val = j.perm.air.val ∧
            a.perm.remote.val = j.perm.remote.val ∧ a.perm.lockout.val = j.perm.lockout.val
          let n := (s.seq u).state
          let arrives := a.identity = .verified ∧ fault = 0 ∧ n.awaited = some st ∧
            (n = .gSync ∨ n = .gLoad ∨ n = .pPrime ∨ n = .stopping)
          ∃ r : State, exec i { s with dse := { s.dse with standing := { s.dse.standing with state := .none } } } =
              .next (r.forwardedUp c) ∧
            (let k := (r.seq u).state
             let triggers := a.stale = true ∨ ¬samePerm ∨ (j.band ≠ a.band ∧ s.assignOf u = .auto) ∨
               (s.assignOf u = .manual ∧ r.entry u ≠ s.entry u) ∨ (k = .tripped ∧ n ≠ .tripped) ∨ arrives
             let ends (how : Prop → State → State → Prop) : Prop := ∃ (entered : Prop) (e : State),
               (entered → r.seq u ≠ s.seq u) ∧ (k ≠ n → k.stable = true → entered) ∧
                 how entered { r with dse := s.dse } e ∧ t = e.forwardedUp c
             ResourcesAgree s → (triggers → ends fun entered x e => RanFrom x [] entered e) ∧
               (¬triggers → ends SettlesIf))) ∧
        (let a := s.image u
         let n := (s.seq u).state
         let e := s.entry u
         let turbine := ∃ b, t.bandOf u = some b ∧ b.turb = true
         let pump := ∃ b, t.bandOf u = some b ∧ b.pump = true
         let goes := (e.mode = .gen ∧ ¬turbine) ∨ (e.mode = .pump ∧ ¬pump)
         let stopPlaced := { slot := .stage u, dest := (s.unit u).addr, cmd := .stop } ∈ t.lpu.cmds
         (n = .dormant ∨ n = .tripped ∨ n = .localCmd ∨
             (n.stable = true ∧ (a.identity = .verified → n.ownStage = some st ∧ fault = 0))) →
         (a.identity = .verified → perm.getLsbD 2 = a.perm.remote.val ∧ perm.getLsbD 3 = a.perm.lockout.val) →
         s.orderStands = false → ResourcesAgree s → (t.image u).band ≠ a.band →
         (goes → t.entry u = { e with mode := .still, share := none, forcedOut := true }) ∧
         (¬goes → ∀ b, t.bandOf u = some b → t.entry u =
           if e.mode = .gen then { e with share := e.share.map fun v => b.clamp v } else e) ∧
         (¬goes → t.bandOf u = none → t.entry u = e) ∧
         (∀ v, v ≠ u → t.entry v = s.entry v) ∧ t.alc.summary = s.alc.summary ∧
         (s.assignOf u = .manual → t.entry u ≠ e → ReportRoom 2 s →
           .manualReplan e.originSrc e.originId u (t.entry u).mode (t.entry u).share ∈ t.rpb.queue) ∧
         (goes → n = .gOn ∨ n = .pOn ∨ n = .gAir ∨ n = .pAir → (t.seq u).state = .stopping ∧
           (t.seq u).stageTimer = some (s.profileOf u).tStop ∧ stopPlaced) ∧
         (¬goes ∨ n = .still ∨ n = .dormant ∨ n = .tripped ∨ n = .localCmd → t.seq u = s.seq u) ∧
         (n = .gOn → goes ∨ ¬turbine → t.ramp u = { setpoint := none, refresh := none, rate := none }) ∧
         (n = .gOn → ¬goes → ∀ b, t.bandOf u = some b → b.turb = true →
           let v := b.clamp (((s.ramp u).setpoint.map fun x => (x : Int)).getD power.toInt)
           (t.ramp u).setpoint = some v ∧ (t.ramp u).refresh = some (s.profileOf u).refresh ∧
           { slot := .setpoint u, dest := (s.unit u).addr, cmd := .setpoint v } ∈ t.lpu.cmds))

/-- Each permissive and interlock bit changes at the D-th consecutive taken cell that reports the new value: the three
cases of R43, bit by bit, and its bound on run counts.
(R43). -/
def Obligations.DebounceCountsCells : Prop :=
  ∀ (h : Hdr) (stage fault : Byte) (power head : Half) (perm interlocks : Byte) (pad : BitVec 144) (u : UnitNo)
      (s : State),
    let c := cellUnitStatus h stage fault power head perm interlocks pad
    DeliveredPast c s → unitAt h.src s = some u → stage.toNat ≤ 8 →
    let d := s.tbs.plant.debounce
    let taken (reported : Bool) (old new : Debounced) : Prop :=
      (reported = old.val → new = { val := old.val, run := 0 }) ∧
      (reported ≠ old.val → d ≤ old.run + 1 → new = { val := reported, run := 0 }) ∧
      (reported ≠ old.val → old.run + 1 < d → new = { val := old.val, run := old.run + 1 }) ∧
      (d ≤ 4 → old.run ≤ 3 → new.run ≤ 3)
    ∃ t, exec (.unitStatus h stage fault power head perm interlocks pad) s = .next t ∧
      let a := s.image u
      let j := t.image u
      taken (perm.getLsbD 0) a.perm.ready j.perm.ready ∧ taken (perm.getLsbD 1) a.perm.air j.perm.air ∧
      taken (perm.getLsbD 2) a.perm.remote j.perm.remote ∧ taken (perm.getLsbD 3) a.perm.lockout j.perm.lockout ∧
      taken (interlocks.getLsbD 0) a.interlocks.b0 j.interlocks.b0 ∧
      taken (interlocks.getLsbD 1) a.interlocks.b1 j.interlocks.b1 ∧
      taken (interlocks.getLsbD 2) a.interlocks.b2 j.interlocks.b2 ∧
      taken (interlocks.getLsbD 3) a.interlocks.b3 j.interlocks.b3 ∧
      taken (interlocks.getLsbD 4) a.interlocks.b4 j.interlocks.b4 ∧
      taken (interlocks.getLsbD 5) a.interlocks.b5 j.interlocks.b5 ∧
      taken (interlocks.getLsbD 6) a.interlocks.b6 j.interlocks.b6 ∧
      taken (interlocks.getLsbD 7) a.interlocks.b7 j.interlocks.b7

/-- The candidate band is the highest in use whose lower bound is no greater than the head, its region is that of R47's
table and contains the head, and the judgement of R48 decides between its number and INVALID; what is taken at once from a
head is this judgement with this region (R47, R48). -/
def Obligations.BandCandidateAndJudgement : Prop :=
  ∀ (bands : Vector Band 12) (count head : Nat), count ≤ 12 →
    let c := candidate bands count head
    let r := candidateRegion bands count c
    (∀ k : Fin 12, c = some k ↔ k.val < count ∧ bands[k].lower ≤ head ∧
      ∀ j : Fin 12, k < j → j.val < count → head < bands[j].lower) ∧
    (c = none ↔ ∀ k : Fin 12, k.val < count → head < bands[k].lower) ∧
    (∀ k : Fin 12, c = some k → r.lo = bands[k].lower ∧ (k.val + 1 = count → r.hi = none) ∧
      ∀ j : Fin 12, j.val = k.val + 1 → j.val < count → r.hi = some bands[j].lower) ∧
    (c = none → r.lo = 0 ∧ (count = 0 → r.hi = none) ∧ (0 < count → r.hi = some bands[(0 : Fin 12)].lower)) ∧
    r.lo ≤ head ∧ (∀ hi, r.hi = some hi → head < hi) ∧
    selectBand bands count head = (judge bands c, r) ∧
    (c = none → judge bands c = .none) ∧
    ∀ k : Fin 12, c = some k →
      let b := bands[k]
      let passes := (∀ j : Fin 12, j.val + 1 = k.val → bands[j].lower < b.lower) ∧ b.gmin ≤ b.gmax ∧
        (b.rzlo ≠ 0 ∨ b.rzhi ≠ 0 → b.gmin < b.rzlo ∧ b.rzlo < b.rzhi ∧ b.rzhi < b.gmax)
      (passes → judge bands c = .num k) ∧ (¬passes → judge bands c = .invalid)

/-- What a UNIT_STATUS makes of the sequencer of a VERIFIED unit, other than taking it on along its path. A fault code or
stage TRIP trips it from every stable, transition and STOPPING state, no command placed; a stage that is neither awaited
nor to be ignored trips it with cause SEQUENCE, after STOP in a timed state and without in a stable one; at each trip its
timers stop, what it holds and waits for is given up, PLANT_ALERT_N is driven and a UNIT_STATE queued. A stage to be
ignored changes nothing, but that a change of LOCKOUT sets or clears the pending-lockout marker, ends a linger, and never
sets it in STILL, where its clearing lets a start that the plan asks for begin. The loss of REMOTE takes it to LOCAL, with its waiting stage command withdrawn (R128,
R129, R132, R136 to R140, R142, R192). That origin and prior stage become none is log entry 7, that an IDENT_REQ stays is log entry 9. -/
def Obligations.UnitFaultTrips : Prop :=
  ∀ (h : Hdr) (stage fault : Byte) (power head : Half) (perm interlocks : Byte) (pad : BitVec 144) (u : UnitNo)
      (st : Stage) (s : State),
    let c := cellUnitStatus h stage fault power head perm interlocks pad
    let q := s.seq u
    let n := q.state
    let i := s.image u
    let d := s.tbs.plant.debounce
    DeliveredPast c s → unitAt h.src s = some u → st.code = stage → i.identity = .verified →
    ResourcesAgree s → QueuesAndAlert s →
    let ends (k : SeqState) : Seq := { state := k, origin := .none, prior := none, stageTimer := none, minRun := none,
                                       minStill := none, linger := none, pendLockout := q.pendLockout }
    let gaveUp (t : State) : Prop := t.pra.holder ≠ some u ∧ u ∉ t.pra.startQueue ∧
      ∀ w, (t.pra.locks.get w).holder ≠ some u ∧ u ∉ (t.pra.locks.get w).waiters
    let own (x : State) : List Waiting := x.lpu.cmds.filter fun w => w.slot == .stage u
    let leaves (t : State) (k : SeqState) (cause : Cause) : Prop := t.seq u = ends k ∧ gaveUp t ∧
      (t.ramp u).setpoint = (if n = .gOn then none else (s.ramp u).setpoint) ∧ t.rpb.alertLow = true ∧
      (ReportRoom 2 s → .unitState u n k cause (some st) fault ∈ t.rpb.queue)
    let timed := n.transition = true ∨ n = .stopping
    let sameRemote := perm.getLsbD 2 = i.perm.remote.val
    let sameLockout := perm.getLsbD 3 = i.perm.lockout.val
    let changesLockout := perm.getLsbD 3 ≠ i.perm.lockout.val ∧ d ≤ i.perm.lockout.run + 1
    let ignored := (n.stable = true ∧ fault = 0 ∧ n.ownStage = some st) ∨ n = .tripped ∨ n = .localCmd ∨
      (timed ∧ fault = 0 ∧ st ≠ .trip ∧ n.awaited ≠ some st ∧
        (q.prior = some st ∨ (n = .stopping ∧ (st = .stopping ∨ st = .dry))))
    ∃ t, exec (.unitStatus h stage fault power head perm interlocks pad) s = .next t ∧
      (sameRemote → sameLockout → n.stable = true ∨ timed → st = .trip ∨ fault ≠ 0 →
        leaves t .tripped .unitFault ∧ own t = own s) ∧
      (sameRemote → sameLockout → timed → fault = 0 → st ≠ .trip → n.awaited ≠ some st → q.prior ≠ some st →
        ¬(n = .stopping ∧ (st = .stopping ∨ st = .dry)) →
        leaves t .tripped .sequence ∧ { slot := .stage u, dest := (s.unit u).addr, cmd := .stop } ∈ t.lpu.cmds) ∧
      (sameRemote → sameLockout → n.stable = true → fault = 0 → st ≠ .trip → n.ownStage ≠ some st →
        leaves t .tripped .sequence ∧ own t = own s) ∧
      (sameRemote → sameLockout → ignored → s.orderStands = false → (t.image u).band = i.band → t.seq u = q) ∧
      (perm.getLsbD 2 = false → i.perm.remote.val = true → d ≤ i.perm.remote.run + 1 → sameLockout →
        n ≠ .dormant → n ≠ .tripped → n ≠ .localCmd →
        leaves t .localCmd .remoteLoss ∧ own t = (own s).filter fun w => w.cmd == .identReq) ∧
      (sameRemote → changesLockout → ignored → s.orderStands = false → (t.image u).band = i.band →
        let lingering := (n = .gAir ∨ n = .pAir) ∧ q.linger.isSome = true
        (perm.getLsbD 3 = true → n = .still → t.seq u = q) ∧
        (perm.getLsbD 3 = true → n ≠ .still → ¬lingering → t.seq u = { q with pendLockout := true }) ∧
        (perm.getLsbD 3 = true → lingering → st ≠ .trip → fault = 0 → (t.seq u).pendLockout = true ∧
          ((t.seq u).state = .stopping ∧ (t.seq u).linger = none ∧
            { slot := .stage u, dest := (s.unit u).addr, cmd := .stop } ∈ t.lpu.cmds)) ∧
        (perm.getLsbD 3 = false → n ≠ .still ∨ (s.entry u).mode = .still → t.seq u = { q with pendLockout := false }) ∧
        (perm.getLsbD 3 = false → n = .still →
          ActedFrom s t u .still (s.entry u) (t.image u) q.minStill false))

/-- The awaited stage takes a sequencer on along its path while its plan entry asks for it: from run-up to
synchronising, into G_ON, P_ON or air, and from STOPPING to STILL, with the timers and the setpoint that the entry
brings. At DRY the unit joins the tail of the start queue and waits in P_CONVWAIT, but is granted the converter at once
exactly where the arbiter is FREE, the converter ready, without fault and connected to nobody, and the queue empty. A
LOCAL sequencer adopts at the return of REMOTE, from the stage that the same cell carries, and an UNSETTLED one at a stable
stage, TRIP or a fault code, by R115's table; under a standing order a run follows on the state with the adopted record, and
it acts then. An arrival in a
stable state is reported REACHED, and the sequencer acts on its plan entry there at once: it stays where the entry asks
for that state, and goes on, lingers or stops where it asks for another (R84, R85, R89, R114 to R117, R119 to R125, R128
to R131, R136, R138, R144, R154, R155). The model's choices in it: the cause ADOPTED also of an adoption into TRIPPED is log entry 6, that
origin and prior stage become none log entry 7, that a min-run or min-still timer of period 0 is held as started log
entry 5, that one whose sequencer leaves at once is stopped log entry 32, that the adopting sequencer and those
whose planned mode the run changes act in one ascending pass log entry 13, that an auto unit adopting with no order
standing acts on its entry as last written, STILL or not, log entry 34. -/
def Obligations.AwaitedStageAdvances : Prop :=
  (∀ (h : Hdr) (stage : Byte) (power head : Half) (perm interlocks : Byte) (pad : BitVec 144) (u : UnitNo) (st : Stage)
      (s : State),
    let c := cellUnitStatus h stage 0 power head perm interlocks pad
    DeliveredPast c s → unitAt h.src s = some u → st.code = stage → (s.image u).identity = .verified →
    perm.getLsbD 2 = (s.image u).perm.remote.val → perm.getLsbD 3 = (s.image u).perm.lockout.val →
    s.orderStands = false → ResourcesAgree s → (s.seq u).state.awaited = some st →
    ∃ t, exec (.unitStatus h stage 0 power head perm interlocks pad) s = .next t ∧
      ((t.image u).band = (s.image u).band →
        let was := (s.seq u).state
        let mode := (s.entry u).mode
        let e := s.unit u
        let p := s.profileOf u
        (was = .gRunup → (t.seq u).state = .gSync ∧ (t.seq u).stageTimer = some p.tSync ∧
          (t.seq u).prior = some .turbSpin ∧ { slot := .stage u, dest := e.addr, cmd := .sync } ∈ t.lpu.cmds) ∧
        (was = .gSync ∨ was = .gLoad → mode = .gen → (t.seq u).state = .gOn ∧ (t.seq u).stageTimer = none ∧
          (t.seq u).minRun = some e.minRun ∧ (∀ w, (t.pra.locks.get w).holder ≠ some u) ∧
          ∀ b, t.bandOf u = some b → b.turb = true → (t.ramp u).setpoint = some (b.clamp power.toInt)) ∧
        (was = .pPrime → mode = .pump → (t.seq u).state = .pOn ∧ (t.seq u).stageTimer = none ∧
          (t.seq u).minRun = some e.minRun ∧ ∀ w, (t.pra.locks.get w).holder ≠ some u) ∧
        (∀ n, (was = .gSync ∧ n = .gOn) ∨ (was = .gLoad ∧ n = .gOn) ∨ (was = .pPrime ∧ n = .pOn) ∨
            (was = .gUnload ∧ n = .gAir) ∨ (was = .pUnload ∧ n = .pAir) ∨ (was = .pRunup ∧ n = .pAir) ∨
            (was = .stopping ∧ n = .still) →
          ActedFrom s t u n (s.entry u) (t.image u)
            (if was = .stopping then some e.minStill else (s.seq u).minStill) (s.seq u).pendLockout ∧
          (ReportRoom 2 s → .unitState u was n .reached (some st) 0 ∈ t.rpb.queue)) ∧
        (was = .gUnload → mode = .genAir → (t.seq u).state = .gAir) ∧
        (was = .pUnload → mode = .pumpAir → (t.seq u).state = .pAir) ∧
        (was = .pRunup → mode = .pumpAir → (t.seq u).state = .pAir ∧ t.pra.holder ≠ some u ∧
          (s.pra.holder = some u → t.pra.arb = .releasing ∧ t.pra.releaseTmr = some s.tbs.plant.releaseTime)) ∧
        (was = .pDewater →
          let conv := s.uib.conv
          let available := s.pra.arb = .free ∧ conv.ready = true ∧ conv.fault = false ∧ conv.connected = 0
          (available ∧ s.pra.startQueue = [] → (t.seq u).state = .pRunup ∧ (t.seq u).stageTimer = some p.tPrun ∧
            t.pra.arb = .connecting ∧ t.pra.holder = some u ∧ t.pra.startQueue = [] ∧
            { slot := .converter, dest := s.tbs.plant.convAddr, cmd := .convConnect e.addr } ∈ t.lpu.cmds ∧
            { slot := .stage u, dest := e.addr, cmd := .converterStart } ∈ t.lpu.cmds) ∧
          (¬(available ∧ s.pra.startQueue = []) → (t.seq u).state = .pConvwait ∧
            (t.seq u).stageTimer = some p.tConvwait ∧ (t.seq u).prior = some .dry ∧
            t.pra.startQueue = (if s.pra.arb = .free ∧ conv.ready = true ∧ conv.fault = false ∧ conv.connected = 0
              then s.pra.startQueue.drop 1 else s.pra.startQueue) ++ [u])) ∧
        (was = .stopping → mode = .still → (t.seq u).state = .still ∧ (t.seq u).minStill = some e.minStill))) ∧
  ∀ (h : Hdr) (stage fault : Byte) (power head : Half) (perm interlocks : Byte) (pad : BitVec 144) (u : UnitNo)
      (st : Stage) (s : State),
    let c := cellUnitStatus h stage fault power head perm interlocks pad
    let i := s.image u
    DeliveredPast c s → unitAt h.src s = some u → st.code = stage → i.identity = .verified →
    perm.getLsbD 2 = true → perm.getLsbD 3 = i.perm.lockout.val → s.dse.engine ≠ .paused →
    let was := (s.seq u).state
    (was = .localCmd ∧ i.perm.remote.val = false ∧ s.tbs.plant.debounce ≤ i.perm.remote.run + 1) ∨
      (was = .unsettled ∧ i.perm.remote.val = true ∧ (st = .still ∨ st = .turbOn ∨ st = .turbAir ∨ st = .pumpAir ∨
        st = .pumpOn ∨ st = .trip ∨ fault ≠ 0)) →
    ResourcesAgree s →
    ∃ t, exec (.unitStatus h stage fault power head perm interlocks pad) s = .next t ∧
      ((t.image u).band = i.band →
        let n : SeqState :=
          if st = .trip ∨ fault ≠ 0 then .tripped
          else if st = .still then .still
          else if st = .turbOn then .gOn
          else if st = .turbAir then .gAir
          else if st = .pumpAir then .pAir
          else if st = .pumpOn then .pOn
          else .unsettled
        let m := (s.entry u).mode
        let stays := n = .unsettled ∨ n = .tripped ∨ (n = .still ∧ m = .still) ∨ (n = .gOn ∧ m = .gen) ∨
          (n = .gAir ∧ m = .genAir) ∨ (n = .pAir ∧ m = .pumpAir) ∨ (n = .pOn ∧ m = .pump)
        let record : Seq := { state := n, origin := .none, prior := none, stageTimer := none, minRun := none,
                              minStill := none, linger := none, pendLockout := i.perm.lockout.val && n != .still }
        let sets (x : State) : Prop := ∀ b, t.bandOf u = some b → b.turb = true →
          (x.ramp u).setpoint = some (b.clamp power.toInt)
        (stays → s.orderStands = false → t.seq u = record) ∧ (n = .gOn → m = .gen → s.orderStands = false → sets t) ∧
        (s.orderStands = true → ∃ e a : State, e.alc = s.alc ∧ e.dse = s.dse ∧ e.uib = t.uib ∧ e.tbs = s.tbs ∧
          e.pra = s.pra ∧ e.seqs = s.seqs.set u record ∧ (∀ v, v ≠ u → e.ramp v = s.ramp v) ∧
          (n = .gOn → sets e) ∧ RanFrom e [u] (n.stable = true) a ∧ t = a.forwardedUp c) ∧
        (ReportRoom 2 s → .unitState u was n .adopted (some st) fault ∈ t.rpb.queue))

/-- A UNIT_IDENT addressed to the part, from a present unit in IDENT_WAIT: VERIFIED when class code and rated power are
those of the entry, MISMATCH otherwise, with VERIFY_CHANGE set; a sequencer adopts at VERIFIED in RUNNING alone, by R115's
table, and stays in the state adopted where no order stands and its planned mode asks for it; under a standing order a run
follows on the state with the adopted record, and it acts then. From any other unit or in
any other identity state it is discarded, and addressed elsewhere it is forwarded unread (R6, R7, R56, R57, R84,
R85, R89, R114 to R117, R167). That the UNIT_EVENT is the first report is log entry 21, that origin and prior stage become
none log entry 7, that the adopting sequencer and those whose planned mode the run changes act in one ascending pass log
entry 13, that an auto unit adopting with no order standing acts on its entry as last written, STILL or not, log entry
34. -/
def Obligations.UnitIdentVerifies : Prop :=
  ∀ (h : Hdr) (classCode : Byte) (rated : Half) (pad : BitVec 184) (s : State),
    let c := cellUnitIdent h classCode rated pad
    let i := Instr.unitIdent h classCode rated pad
    Delivered c s →
    (toPart c s = false → exec i s = .next ((s.withLinkUp .dn).forwardedUp c)) ∧
    (toPart c s = true → unitAt h.src s = none → exec i s = .next (s.withLinkUp .dn)) ∧
    ∀ u, toPart c s = true → unitAt h.src s = some u →
      let same := classCode.toNat = (s.unit u).classCode ∧ rated.toNat = (s.unit u).rated
      ((s.image u).identity ≠ .identWait → exec i s = .next (s.withLinkUp .dn)) ∧
      ((s.image u).identity = .identWait → ∃ t, exec i s = .next t ∧
        t.image u = { s.image u with
          identity := if classCode.toNat = (s.unit u).classCode ∧ rated.toNat = (s.unit u).rated then .verified
            else .mismatch
          identTimer := none
          verifyEvent := true } ∧
        (∀ v, v ≠ u → t.image v = s.image v) ∧ LeavesSetting (s.withLinkUp .dn) t ∧
        (¬same ∨ s.dse.engine ≠ .running → t.seqs = s.seqs ∧ t.pra = s.pra ∧ t.rmp = s.rmp ∧ t.alc = s.alc ∧
          t.dse = s.dse ∧ t.lpu.cmds = s.lpu.cmds) ∧
        (same → s.dse.engine = .running → ResourcesAgree s →
          let i := s.image u
          let n : SeqState :=
            if i.perm.remote.val = false then .localCmd
            else if i.stage = some .trip ∨ i.fault ≠ 0 then .tripped
            else if i.stage = some .still then .still
            else if i.stage = some .turbOn then .gOn
            else if i.stage = some .turbAir then .gAir
            else if i.stage = some .pumpAir then .pAir
            else if i.stage = some .pumpOn then .pOn
            else .unsettled
          let m := (s.entry u).mode
          let asked := (n = .still ∧ m = .still) ∨ (n = .gOn ∧ m = .gen) ∨ (n = .gAir ∧ m = .genAir) ∨
            (n = .pAir ∧ m = .pumpAir) ∨ (n = .pOn ∧ m = .pump)
          (n = .unsettled ∨ n = .tripped ∨ n = .localCmd ∨ (asked ∧ s.orderStands = false) → t.seq u =
            { state := n, origin := .none, prior := none, stageTimer := none, minRun := none, minStill := none,
              linger := none, pendLockout := i.perm.lockout.val && n != .still }) ∧
          (n = .gOn → m = .gen → s.orderStands = false → ∀ b, s.bandOf u = some b → b.turb = true →
            (t.ramp u).setpoint = some (b.clamp i.power)) ∧
          (s.orderStands = true → ∃ e : State, e.alc = s.alc ∧ e.dse = s.dse ∧ e.uib = t.uib ∧ e.tbs = s.tbs ∧
            e.pra = s.pra ∧
            e.seqs = s.seqs.set u { state := n, origin := .none, prior := none, stageTimer := none, minRun := none,
                                    minStill := none, linger := none, pendLockout := i.perm.lockout.val && n != .still } ∧
            (∀ v, v ≠ u → e.ramp v = s.ramp v) ∧
            (n ≠ .gOn ∨ (∀ b, s.bandOf u = some b → b.turb = false) → e.ramp u = s.ramp u) ∧
            (n = .gOn → ∀ b, s.bandOf u = some b → b.turb = true → (e.ramp u).setpoint = some (b.clamp i.power)) ∧
            RanFrom e [u] (n.stable = true) t)) ∧
        (ReportRoom 1 s → (s.image u).verifyEvent = false → (∀ r ∈ s.rpb.queue, r.isEventOf u = false) →
          ∃ rs, t.rpb.queue = s.rpb.queue ++ .unitEvent u (s.image u).events true :: rs))

/-- Expiry of an identity-wait timer in IDENT_WAIT: at request count 1 or 2 another IDENT_REQ, keeping the place of one
still waiting, the timer started again and no flag set; at count 3 ABSENT, the timer stopped, the count left and
VERIFY_CHANGE set (R55, R57). -/
def Obligations.IdentityWaitExpiry : Prop :=
  ∀ (u : UnitNo) (s : State), s.held = false → (s.image u).identity = .identWait →
    (s.image u).identTimer.isSome = true →
    let i := s.image u
    ((i.identCount = 1 ∨ i.identCount = 2) → ∃ t, exec (.identityWaitExpiry u) s = .next t ∧
      t.image u = { i with identCount := i.identCount + 1, identTimer := some s.tbs.plant.identWait } ∧
      (∀ v, v ≠ u → t.image v = s.image v) ∧
      { slot := .stage u, dest := (s.unit u).addr, cmd := .identReq } ∈ t.lpu.cmds ∧
      t.lpu.cmds.map Waiting.slot = (if Slot.stage u ∈ s.lpu.cmds.map Waiting.slot then s.lpu.cmds.map Waiting.slot
        else s.lpu.cmds.map Waiting.slot ++ [.stage u]) ∧
      (t.lpu.cmds.filter fun w => w.slot != .stage u) = (s.lpu.cmds.filter fun w => w.slot != .stage u) ∧
      t = { s with uib := { s.uib with images := t.uib.images }, lpu := { s.lpu with cmds := t.lpu.cmds } }) ∧
    (i.identCount = 3 → ∃ t, exec (.identityWaitExpiry u) s = .next t ∧
      t.image u = { i with identity := .absent, identTimer := none, verifyEvent := true } ∧
      (∀ v, v ≠ u → t.image v = s.image v) ∧ t.lpu = s.lpu ∧ t.dse = s.dse ∧ t.seqs = s.seqs ∧ t.alc = s.alc ∧
      t.pra = s.pra ∧ t.rmp = s.rmp ∧ LeavesSetting s t)

-- Converter -----------------------------------------------------------------------------------------------

/-- A CONV_STATUS snooped from the converter address replaces the converter image; a fault makes the arbiter FAULTED,
raises CONV_FAULT and sends a grant holder to STOPPING; without one the arbiter connects, is freed, or returns from
FAULTED as R148, R150 and R153 say, and a free arbiter with an available converter grants the head of the start queue;
the cell is forwarded (R7, R58, R143, R147 to R154).
That the connected address is held as the byte carried is log entry 26. -/
def Obligations.ConvStatusMovesArbiter : Prop :=
  ∀ (h : Hdr) (ready fault connected : Byte) (pad : BitVec 184) (s : State),
    let c := cellConvStatus h ready fault connected pad
    let i := Instr.convStatus h ready fault connected pad
    Delivered c s →
    (toPart c s = true → exec i s = .next (s.withLinkUp .dn)) ∧
    (toPart c s = false → h.src.toNat ≠ s.tbs.plant.convAddr → exec i s = .next ((s.withLinkUp .dn).forwardedUp c)) ∧
    (toPart c s = false → h.src.toNat = s.tbs.plant.convAddr → ResourcesAgree s → QueuesAndAlert s →
      ∃ t, exec i s = .next t ∧
        t.uib = { s.uib with conv := { ready := ready != 0, fault := fault != 0, connected := connected.toNat } } ∧
        t.tbs = s.tbs ∧ t.dse = s.dse ∧ t.alc = s.alc ∧ t.rmp.crossings = s.rmp.crossings ∧
        t.rpb.alertLow = t.alertDue ∧ t.pra.locks = s.pra.locks ∧
        t.lpu.upFwd = (if s.lpu.upFwd.length < 32 then s.lpu.upFwd ++ [c] else s.lpu.upFwd) ∧
        (fault = 0 → s.pra.arb = .free → connected ≠ 0 → t.seqs = s.seqs ∧ t.pra = s.pra) ∧
        (fault = 0 → s.pra.arb = .releasing → connected = 0 → t.pra.releaseTmr = none) ∧
        (fault ≠ 0 → s.pra.arb ≠ .faulted → t.pra.arb = .faulted ∧ t.pra.holder = none ∧
          t.pra.startQueue = s.pra.startQueue ∧ t.rpb.flags.getLsbD 7 = true ∧ t.rpb.alertLow = true ∧
          (s.pra.arb = .releasing → t.pra.releaseTmr = none) ∧
          (∀ u, s.pra.holder = some u → (t.seq u).state = .stopping ∧
            { slot := .converter, dest := s.tbs.plant.convAddr, cmd := .convRelease } ∈ t.lpu.cmds ∧
            { slot := .stage u, dest := (s.unit u).addr, cmd := .stop } ∈ t.lpu.cmds)) ∧
        (fault ≠ 0 → s.pra.arb = .faulted → t.pra = s.pra ∧ t.seqs = s.seqs ∧ t.rpb.queue = s.rpb.queue) ∧
        (fault = 0 → s.pra.arb = .connecting → t.seqs = s.seqs ∧ t.pra = { s.pra with arb :=
          if (∃ u, s.pra.holder = some u ∧ (s.unit u).addr = connected.toNat) then .inUse else .connecting }) ∧
        (fault = 0 → s.pra.arb = .inUse → t.seqs = s.seqs ∧ t.pra = s.pra) ∧
        (fault = 0 → s.pra.arb = .releasing → connected ≠ 0 → t.seqs = s.seqs ∧ t.pra = s.pra) ∧
        (fault = 0 → s.pra.arb = .faulted → (ready = 0 ∨ connected ≠ 0) → t.seqs = s.seqs ∧ t.pra = s.pra) ∧
        (fault = 0 → (s.pra.arb = .free ∨ s.pra.arb = .releasing ∨ s.pra.arb = .faulted) → connected = 0 →
          (ready = 0 → s.pra.arb ≠ .faulted → t.seqs = s.seqs ∧ t.pra.arb = .free ∧
            t.pra.startQueue = s.pra.startQueue) ∧
          (ready ≠ 0 → s.pra.startQueue = [] → t.seqs = s.seqs ∧ t.pra.arb = .free ∧ t.pra.holder = none) ∧
          (ready ≠ 0 → ∀ u rest, s.pra.startQueue = u :: rest → t.pra.arb = .connecting ∧ t.pra.holder = some u ∧
            t.pra.startQueue = rest ∧ (t.seq u).state = .pRunup ∧
            (t.seq u).stageTimer = some (s.profileOf u).tPrun ∧
            { slot := .converter, dest := s.tbs.plant.convAddr, cmd := .convConnect (s.unit u).addr } ∈ t.lpu.cmds ∧
            { slot := .stage u, dest := (s.unit u).addr, cmd := .converterStart } ∈ t.lpu.cmds)))

/-- Expiry of the release timer in RELEASING: the arbiter becomes FAULTED and CONV_FAULT is raised, PLANT_ALERT_N
follows, and no command is placed; a stopped timer does not expire (R113, R151, R192; log entry 3). -/
def Obligations.ReleaseTimerExpiryFaults : Prop :=
  ∀ s : State, s.held = false →
    (s.pra.releaseTmr.isSome = true → s.pra.arb = .releasing → exec .releaseTimerExpiry s = .next
      (({ s with
          pra := { s.pra with arb := .faulted, releaseTmr := none }
          rpb := { s.rpb with alertLow := true } } : State).withFlag 0x80)) ∧
    (s.pra.releaseTmr = none → exec .releaseTimerExpiry s = .next s)

-- Timers of the sequencers --------------------------------------------------------------------------------

/-- Expiry of a running stage timer: a timed stage trips the unit after STOP, a start-queue wait is stopped untripped, a
lock wait returns to its origin, to STILL with min-still started or into air, where it acts, a plan that still asks for the
direction beginning a new wait at the tail of the list; and the expiry of a linger timer stops the unit. Under a standing
order a run follows a trip and a return to STILL, and the sequencers take their turns on its plan (R84, R85, R89, R121,
R124, R125, R130, R131, R133 to R135, R139, R158). A stopped timer does not expire (R113; log entry 3).
That origin and prior stage become none at TRIPPED is log entry 7, that a min-still of period 0 is held as started log
entry 5. -/
def Obligations.StageAndLingerTimeouts : Prop :=
  ∀ (u : UnitNo) (s : State), s.held = false → ResourcesAgree s →
    let n := (s.seq u).state
    let e := s.unit u
    let i := s.image u
    let stopPlaced (t : State) : Prop := { slot := .stage u, dest := e.addr, cmd := .stop } ∈ t.lpu.cmds
    let gaveUp (t : State) : Prop := t.pra.holder ≠ some u ∧ u ∉ t.pra.startQueue ∧
      ∀ w, (t.pra.locks.get w).holder ≠ some u ∧ u ∉ (t.pra.locks.get w).waiters
    let reports (t : State) (a b : SeqState) (k : Cause) : Prop :=
      ReportRoom 1 s → ∃ rs, t.rpb.queue = s.rpb.queue ++ .unitState u a b k i.stage i.fault :: rs
    let stoppedSeq (q : Seq) : Prop := q.state = .stopping ∧ q.stageTimer = some (s.profileOf u).tStop ∧
      q.prior = i.stage ∧ q.minRun = none ∧ q.linger = none
    ((s.seq u).stageTimer.isSome = true → n.tripsAtTimeout = true →
      ∃ t, exec (.stageTimeout u) s = .next t ∧ gaveUp t ∧ stopPlaced t ∧ reports t n .tripped .timeout ∧
        t.seq u = { state := .tripped, origin := .none, prior := none, stageTimer := none, minRun := none,
                    minStill := none, linger := none, pendLockout := (s.seq u).pendLockout } ∧
        t.uib = s.uib ∧ LeavesSetting s t ∧ t.dse = { s.dse with standing := t.dse.standing } ∧
        (s.orderStands = true → RunAfter (.stageTimeout u) s t)) ∧
    ((s.seq u).stageTimer.isSome = true → n = .pConvwait →
      ∃ t, exec (.queueTimeout u) s = .next t ∧ gaveUp t ∧ stopPlaced t ∧ reports t n .stopping .queueTimeout ∧
        stoppedSeq (t.seq u) ∧ t.uib = s.uib ∧ LeavesSetting s t ∧ t.dse = s.dse ∧ t.alc = s.alc) ∧
    ((s.seq u).linger.isSome = true → (n = .gAir ∨ n = .pAir) →
      ∃ t, exec (.lingerExpiry u) s = .next t ∧ gaveUp t ∧ stopPlaced t ∧ stoppedSeq (t.seq u) ∧
        t.uib = s.uib ∧ LeavesSetting s t ∧ t.dse = s.dse ∧ t.alc = s.alc ∧ t.rpb.queue = s.rpb.queue) ∧
    ((s.seq u).stageTimer.isSome = true → (n = .gLockwait ∨ n = .pLockwait) →
      let back : SeqState := if n = .pLockwait then .pAir else if (s.seq u).origin = .air then .gAir else .still
      ∃ t, exec (.lockwaitTimeout u) s = .next t ∧ reports t n back .lockwaitTimeout ∧
        (back = .still → 0 < e.minStill ∨ s.orderStands = false →
          (t.seq u).state = .still ∧ (t.seq u).minStill = some e.minStill ∧ gaveUp t) ∧
        (back = .still → s.orderStands = true → RunAfter (.lockwaitTimeout u) s t) ∧
        (back ≠ .still → t.alc = s.alc ∧
          ActedFrom s t u back (s.entry u) i (s.seq u).minStill (s.seq u).pendLockout) ∧
        (back = .gAir → (s.entry u).mode = .genAir → (t.seq u).state = .gAir ∧ gaveUp t) ∧
        (back = .pAir → (s.entry u).mode = .pumpAir → (t.seq u).state = .pAir ∧ gaveUp t) ∧
        t.uib = s.uib ∧ LeavesSetting s t ∧ t.dse = { s.dse with standing := t.dse.standing }) ∧
    ((s.seq u).stageTimer = none → exec (.stageTimeout u) s = .next s ∧ exec (.queueTimeout u) s = .next s ∧
      exec (.lockwaitTimeout u) s = .next s) ∧
    ((s.seq u).linger = none → exec (.lingerExpiry u) s = .next s)

/-- Expiry of a stale, min-run or min-still timer: the flag is set or the timer stops, and with no order standing and no
start owed nothing else happens; a start owed at the expiry of min-still in STILL begins. Under a standing order it calls
for a run: the plan for the state at that moment, its summary in the standing order record, ORDER_RESULT REPLANNED with
the order's id and the new summary, a SETTLED record ACTIVE again, and the sequencers' turns on that plan, the unit whose
min-still expired in STILL among those that act (R45, R81, R82, R84, R85, R89, R117, R128, R132). That it and those whose
planned mode the run changes act in one ascending pass is log entry 13; a stopped timer does not expire (R113; log entry
3). -/
def Obligations.StaleAndMinimumTimers : Prop :=
  ∀ (u : UnitNo) (s : State), s.held = false →
    let replans (t : State) : Prop :=
      Replanned s t ∧ (ReportRoom 1 s → ∃ rs, t.rpb.queue = s.rpb.queue ++ replannedReport s t :: rs)
    ((s.image u).staleTimer.isSome = true → ∃ t, exec (.staleExpiry u) s = .next t ∧
      t.image u = { s.image u with stale := true, staleTimer := none } ∧ (∀ v, v ≠ u → t.image v = s.image v) ∧
      LeavesSetting s t ∧ t.dse = { s.dse with standing := t.dse.standing } ∧
      (s.orderStands = false → t = { s with uib := t.uib }) ∧
      (s.orderStands = true → (s.unit u).present = true → (s.image u).stale = false →
        t.alc = plan { s with uib := t.uib } ∧ replans t ∧
          (ResourcesAgree s → RanFrom { s with uib := t.uib } [] False t))) ∧
    ((s.image u).staleTimer = none → exec (.staleExpiry u) s = .next s) ∧
    ((s.seq u).minRun.isSome = true → ∃ t, exec (.minRunExpiry u) s = .next t ∧ t.uib = s.uib ∧ LeavesSetting s t ∧
      t.dse = { s.dse with standing := t.dse.standing } ∧
      (s.orderStands = false → t.seq u = { s.seq u with minRun := none } ∧ t = { s with seqs := t.seqs } ∧
        ∀ v, v ≠ u → t.seq v = s.seq v) ∧
      (s.orderStands = true →
        t.alc = plan { s with seqs := s.seqs.set u { s.seq u with minRun := none } } ∧ replans t ∧
          (ResourcesAgree s → RanFrom { s with seqs := s.seqs.set u { s.seq u with minRun := none } } [] False t))) ∧
    ((s.seq u).minRun = none → exec (.minRunExpiry u) s = .next s) ∧
    ((s.seq u).minStill.isSome = true → ∃ t, exec (.minStillExpiry u) s = .next t ∧ t.uib = s.uib ∧
      LeavesSetting s t ∧ t.dse = { s.dse with standing := t.dse.standing } ∧
      (s.orderStands = false → (s.seq u).state ≠ .still ∨ (s.entry u).mode = .still →
        t.seq u = { s.seq u with minStill := none } ∧ t = { s with seqs := t.seqs } ∧
        ∀ v, v ≠ u → t.seq v = s.seq v) ∧
      (s.orderStands = false → ResourcesAgree s → (s.seq u).state = .still →
        ActedFrom s t u .still (s.entry u) (s.image u) none (s.seq u).pendLockout ∧
          (∀ v, v ≠ u → t.seq v = s.seq v) ∧ t.alc = s.alc ∧ t.dse = s.dse ∧ t.rmp = s.rmp ∧
          t.rpb = { s.rpb with alertLow := t.rpb.alertLow } ∧ (QueuesAndAlert s → t.rpb = s.rpb)) ∧
      (s.orderStands = true →
        t.alc = plan { s with seqs := s.seqs.set u { s.seq u with minStill := none } } ∧ replans t ∧
          (ResourcesAgree s → RanFrom { s with seqs := s.seqs.set u { s.seq u with minStill := none } }
            (if (s.seq u).state = .still then [u] else []) False t))) ∧
    ((s.seq u).minStill = none → exec (.minStillExpiry u) s = .next s)

-- Ramp ----------------------------------------------------------------------------------------------------

/-- The ramp interval expiry in RUNNING. A unit that ramps desires its distance within its step limit, shortened to the
near edge of a rough zone between; on each waterway the lowest-numbered candidate at a zone's edge crosses and the others
keep, and without one all move by what they desire or, beyond the budget, by its floors and the remainder in ascending
number. Each changed setpoint places a SETPOINT; the crossing records, the settling report and the SNAPSHOT of the new
values follow (R31, R165, R166, R169 to R175, R191). That a unit made AUTO while no order stands still ramps at its
entry's class, where R83 speaks of class 0, is log entry 30; that a move onto the far edge is shortened too is log entry
16; the number both parts of the SNAPSHOT carry is left open (log entry 17). -/
def Obligations.RampIntervalStepsSetpoints : Prop :=
  ∀ s : State, s.held = false → s.rmp.timer.isSome = true → s.dse.engine = .running →
    let ti := s.tbs.plant.ti
    let cur (u : UnitNo) : Nat := (s.ramp u).setpoint.getD 0
    let share (u : UnitNo) : Nat := (s.entry u).share.getD 0
    let ramping (u : UnitNo) : Bool := (s.unit u).present && decide ((s.seq u).state = .gOn) &&
      decide ((s.entry u).mode = .gen) && (s.entry u).share.isSome && (s.ramp u).setpoint.isSome
    let us (w : Waterway) : List UnitNo :=
      [.u1, .u2, .u3, .u4, .u5, .u6].filter fun u => ramping u && decide ((s.unit u).waterway = w)
    let rate (u : UnitNo) : Nat :=
      let p := s.profileOf u
      let own := match (s.entry u).cls.val with
        | 0 => p.rate0
        | 1 => p.rate1
        | 2 => p.rate2
        | _ => p.rate3
      if own = 0 then p.rate0 else own
    let zone (b : Band) : Prop := b.rzlo ≠ 0 ∨ b.rzhi ≠ 0
    let desired (u : UnitNo) : Nat :=
      let d := min (if cur u ≤ share u then share u - cur u else cur u - share u) (max 1 (rate u * ti / 10))
      match s.bandOf u with
      | none => d
      | some b =>
        if zone b ∧ cur u < share u ∧ cur u ≤ b.rzlo ∧ b.rzhi ≤ share u ∧ b.rzlo < cur u + d then b.rzlo - cur u
        else if zone b ∧ share u < cur u ∧ b.rzhi ≤ cur u ∧ share u ≤ b.rzlo ∧ cur u < b.rzhi + d then cur u - b.rzhi
        else d
    let upward (b : Band) (u : UnitNo) : Prop := cur u = b.rzlo ∧ b.rzhi ≤ share u
    let candidate (u : UnitNo) : Bool := match s.bandOf u with
      | none => false
      | some b => decide (zone b ∧ (upward b u ∨ cur u = b.rzhi ∧ share u ≤ b.rzlo))
    let toward (u : UnitNo) (m : Nat) : Option Nat := some (if cur u ≤ share u then cur u + m else cur u - m)
    ∃ t, exec .rampIntervalExpiry s = .next t ∧ t.rmp.timer = some ti ∧ t.seqs = s.seqs ∧ t.alc = s.alc ∧
      t.uib = s.uib ∧ t.tbs = s.tbs ∧ t.pra = s.pra ∧
      (∀ u, (ramping u = false → (t.ramp u).setpoint = (s.ramp u).setpoint ∧ (t.ramp u).rate = (s.ramp u).rate) ∧
        (ramping u = true → (t.ramp u).rate = some (rate u))) ∧
      (∀ w, let d := ((us w).map desired).sum
        let bw := s.tbs.budgets.get w * ti / 10
        let floors := (us w).map fun u => desired u * bw / d
        let extra := ((us w).filter fun u => decide (0 < desired u)).take (bw - floors.sum)
        (∀ x rest, (us w).filter candidate = x :: rest →
          (∀ b, s.bandOf x = some b → (upward b x → (t.ramp x).setpoint = some b.rzhi) ∧
            (¬upward b x → (t.ramp x).setpoint = some b.rzlo) ∧
            t.rmp.crossings.get w = { outcome := .crossed
                                      unit := some x
                                      requested := (((us w).filter fun v => v != x).map desired).sum
                                      moved := b.rzhi - b.rzlo }) ∧
          ∀ u ∈ us w, u ≠ x → (t.ramp u).setpoint = some (cur u)) ∧
        ((us w).filter candidate = [] → d ≤ bw →
          (∀ u ∈ us w, (t.ramp u).setpoint = toward u (desired u)) ∧ t.rmp.crossings.get w =
            { outcome := if d = 0 then .idle else .within, unit := none, requested := d, moved := d }) ∧
        ((us w).filter candidate = [] → bw < d →
          (∀ u ∈ us w, (t.ramp u).setpoint = toward u (desired u * bw / d + if u ∈ extra then 1 else 0)) ∧
          t.rmp.crossings.get w = { outcome := .scaled, unit := none, requested := d, moved := bw })) ∧
      (∀ u v, (t.ramp u).setpoint = some v →
        ((s.ramp u).setpoint ≠ some v → (t.ramp u).refresh = some (s.profileOf u).refresh ∧
          { slot := .setpoint u, dest := (s.unit u).addr, cmd := .setpoint v } ∈ t.lpu.cmds) ∧
        ((s.ramp u).setpoint = some v → (t.ramp u).refresh = (s.ramp u).refresh)) ∧
      (let r := s.dse.standing
       let settled : List Report := if t.dse.standing.state = r.state then []
         else [.orderState r.order.src r.order.id .settled r.order.target r.summary]
       let carries (p : Payload) (k : Nat) (u : UnitNo) : Prop :=
         p.half k = powerOrNone (t.ramp u).setpoint ∧ p.half (k + 2) = powerOrNone (t.entry u).share ∧
           p.half (k + 4) = BitVec.ofNat 16 ((t.ramp u).rate.getD 0)
       let crossing (p : Payload) (w : Waterway) : Prop :=
         let x := t.rmp.crossings.get w
         p.byte 24 = x.outcome.code ∧ (p.byte 25).toNat = (x.unit.elim 0 UnitNo.number) ∧
           p.half 26 = BitVec.ofNat 16 x.requested ∧ p.half 28 = BitVec.ofNat 16 x.moved
       (s.dse.trace = false → t.rpb.snapshot = s.rpb.snapshot ∧
         t.rpb.queue = s.rpb.queue ++ settled.take (16 - s.rpb.queue.length)) ∧
       (s.dse.trace = true → t.rpb.snapshot = s.rpb.snapshot + 1 ∧
         (ReportRoom (settled.length + 2) s → ∃ a b, t.rpb.queue = s.rpb.queue ++ settled ++ [.snapshot a, .snapshot b] ∧
           a.byte 4 = b.byte 4 ∧ a.byte 5 = 1 ∧ carries a 6 .u1 ∧ carries a 12 .u2 ∧ carries a 18 .u3 ∧
           crossing a .w1 ∧
           b.byte 5 = 2 ∧ carries b 6 .u4 ∧ carries b 12 .u5 ∧ carries b 18 .u6 ∧ crossing b .w2) ∧
         (¬ReportRoom (settled.length + 2) s → t.rpb.flags.getLsbD 0 = true ∧
           t.rpb.queue = s.rpb.queue ++ settled.take (16 - s.rpb.queue.length))))

/-- In each ramp interval in which no unit of a waterway crosses a rough zone, the setpoint moves of the waterway's units
sum to the lesser of what they desire and the waterway's budget, and a setpoint that its band allows stays one that it
allows (R87, R172, R174). -/
def Obligations.RampKeepsBudgetAndBand : Prop :=
  ∀ s : State, s.held = false → s.rmp.timer.isSome = true → s.dse.engine = .running →
    ∃ t, exec .rampIntervalExpiry s = .next t ∧
      (∀ w, crosser s w = none →
        ((rampingOn s w).map fun u =>
          (((t.ramp u).setpoint.getD 0 : Int) - ((s.ramp u).setpoint.getD 0 : Int)).natAbs).sum =
        min ((rampingOn s w).map (desiredMove s)).sum (s.tbs.budgets.get w * s.tbs.plant.ti / 10)) ∧
      ∀ u b cur share, ramps s u = true → s.bandOf u = some b → b.Sound → (s.ramp u).setpoint = some cur →
        (s.entry u).share = some share → b.Allows cur → b.Allows share →
        ∃ v, (t.ramp u).setpoint = some v ∧ b.Allows v

/-- At a ramp interval expiry in RUNNING with an ACTIVE order, the order becomes SETTLED exactly when every present auto
unit has reached its plan, and an ORDER_STATE SETTLED is queued then (R81, R82). -/
def Obligations.SettlingAtRampInterval : Prop :=
  ∀ s : State, s.held = false → s.rmp.timer.isSome = true → s.dse.engine = .running →
    s.dse.standing.state = .active →
    ∃ t, exec .rampIntervalExpiry s = .next t ∧ t.dse = { s.dse with standing := t.dse.standing } ∧
      t.dse.standing = { s.dse.standing with state := t.dse.standing.state } ∧
      (t.dse.standing.state = .settled ∨ t.dse.standing.state = .active) ∧
      (t.dse.standing.state = .settled ↔ ∀ u, (s.unit u).present = true → s.assignOf u = .auto →
        ((s.entry u).mode = .gen → (s.seq u).state = .gOn) ∧ ((s.entry u).mode = .pump → (s.seq u).state = .pOn) ∧
        ((s.entry u).mode = .still →
          (s.seq u).state = .still ∨ (s.seq u).state = .tripped ∨ (s.seq u).state = .localCmd) ∧
        ((s.seq u).state = .gOn → (t.ramp u).setpoint = (s.entry u).share)) ∧
      (t.dse.standing.state = .settled → ReportRoom 1 s → .orderState s.dse.standing.order.src
        s.dse.standing.order.id .settled s.dse.standing.order.target s.dse.standing.summary ∈ t.rpb.queue)

/-- A refresh places the current setpoint again, unchanged, and restarts its timer; a ramp interval expiry in HALTED
steps nothing, and with the trace flag on queues both parts of a SNAPSHOT, with the contents of R191, or loses both (R176,
R180, R181, R191); a stopped timer does not expire (R113; log entry 3). That both parts carry the number that then rises
is not stated (log entry 17). -/
def Obligations.RefreshAndHeldInterval : Prop :=
  (∀ (u : UnitNo) (s : State), s.held = false →
    (∀ v, (s.ramp u).setpoint = some v → (s.ramp u).refresh.isSome = true →
      ∃ t, exec (.refreshExpiry u) s = .next t ∧
        { slot := .setpoint u, dest := (s.unit u).addr, cmd := .setpoint v } ∈ t.lpu.cmds ∧
        (t.lpu.cmds.filter fun w => w.slot != .setpoint u) = (s.lpu.cmds.filter fun w => w.slot != .setpoint u) ∧
        t.ramp u = { s.ramp u with refresh := some (s.profileOf u).refresh } ∧
        (∀ x, x ≠ u → t.ramp x = s.ramp x) ∧
        t = { s with lpu := { s.lpu with cmds := t.lpu.cmds }, rmp := { s.rmp with units := t.rmp.units } }) ∧
    ((s.ramp u).refresh = none → exec (.refreshExpiry u) s = .next s)) ∧
  ∀ s : State, s.held = false → s.rmp.timer.isSome = true → s.dse.engine = .halted →
    let t : State := { s with rmp := { s.rmp with timer := some s.tbs.plant.ti } }
    let carries (p : Payload) (k : Nat) (u : UnitNo) : Prop := p.half k = powerOrNone (s.ramp u).setpoint ∧
      p.half (k + 2) = powerOrNone (s.entry u).share ∧ p.half (k + 4) = BitVec.ofNat 16 ((s.ramp u).rate.getD 0)
    let crossing (p : Payload) (w : Waterway) : Prop :=
      let x := s.rmp.crossings.get w
      p.byte 24 = x.outcome.code ∧ (p.byte 25).toNat = (x.unit.elim 0 UnitNo.number) ∧
        p.half 26 = BitVec.ofNat 16 x.requested ∧ p.half 28 = BitVec.ofNat 16 x.moved
    (s.dse.trace = false → exec .rampIntervalExpiry s = .next t) ∧
    (s.dse.trace = true → ReportRoom 2 s → ∃ a b, exec .rampIntervalExpiry s = .next
      { t with rpb := { s.rpb with
          queue := s.rpb.queue ++ [.snapshot a, .snapshot b], snapshot := s.rpb.snapshot + 1 } } ∧
      a.byte 4 = b.byte 4 ∧ a.byte 5 = 1 ∧ carries a 6 .u1 ∧ carries a 12 .u2 ∧ carries a 18 .u3 ∧ crossing a .w1 ∧
      b.byte 5 = 2 ∧ carries b 6 .u4 ∧ carries b 12 .u5 ∧ carries b 18 .u6 ∧ crossing b .w2) ∧
    (s.dse.trace = true → ¬ReportRoom 2 s → exec .rampIntervalExpiry s = .next
      (({ t with rpb := { s.rpb with snapshot := s.rpb.snapshot + 1 } } : State).withFlag 0x01))

-- Whole-machine claims ------------------------------------------------------------------------------------

/-- A NET_POWER order that is taken plans every auto unit it shares power to within the unit's band and out of its rough
zone. The plan that a run computes in any state, rule by rule: the classes, the external power, the candidates with those
preferred first, the pumps nearest to what is sought or reaching it, the generators added until they reach the residual,
the proportional shares with their remainder, the clamp-and-carry pass, the entries and the summary (R87, R88, R90 to
R96, R98 to R105). -/
def Obligations.PlannedSharesLieInBand : Prop :=
  (∀ (h : Hdr) (id target : Half) (cls : Byte) (pad : BitVec 168) (s t : State),
    DeliveredToPart (cellNetPower h id target cls pad) s → s.dse.engine = .running → s.dse.guardTmr = none →
    exec (.netPower h id target cls pad) s = .next t →
    ∀ u v, s.assignOf u = .auto → (t.entry u).share = some v →
      (t.entry u).mode = .gen ∧ ∃ b, s.bandOf u = some b ∧ b.turb = true ∧ (b.Sound → b.Allows v)) ∧
  ∀ s : State,
    let units : List UnitNo := [.u1, .u2, .u3, .u4, .u5, .u6]
    let within (u : UnitNo) (l : List SeqState) : Bool := decide ((s.seq u).state ∈ l)
    let genSide (u : UnitNo) : Bool := within u [.gLockwait, .gRunup, .gSync, .gLoad, .gOn, .gUnload, .gAir]
    let pumpSide (u : UnitNo) : Bool :=
      within u [.pDewater, .pConvwait, .pRunup, .pAir, .pLockwait, .pPrime, .pOn, .pUnload]
    let turb (u : UnitNo) : Bool := match s.bandOf u with
      | some b => b.turb
      | none => false
    let pump (u : UnitNo) : Bool := match s.bandOf u with
      | some b => b.pump
      | none => false
    let field (f : Band → Nat) (u : UnitNo) : Int := match s.bandOf u with
      | some b => (f b : Int)
      | none => 0
    let sum (f : Band → Nat) (l : List UnitNo) : Int := (l.map (field f)).sum
    let served (u : UnitNo) : Bool := (s.unit u).present && decide ((s.image u).identity = .verified)
    let manual (u : UnitNo) : Bool := decide (s.assignOf u = .manual)
    let stale (u : UnitNo) : Bool := (s.image u).stale && within u [.still, .gOn, .gAir, .pAir, .pOn]
    let excluded (u : UnitNo) : Bool := !served u || manual u || within u [.localCmd, .tripped, .dormant, .unsettled] ||
      stale u
    let forced (u : UnitNo) : Bool := !excluded u && ((genSide u && !turb u) || (pumpSide u && !pump u))
    let held (u : UnitNo) : Bool := !excluded u && !forced u && within u [.gOn, .pOn] &&
      (s.seq u).minRun.any fun k => decide (0 < k)
    let barred (u : UnitNo) : Bool := within u [.stopping] || (within u [.still] &&
      (((s.seq u).minStill.any fun k => decide (0 < k)) || (s.image u).perm.lockout.val || (s.seq u).pendLockout ||
        !(s.image u).perm.ready.val))
    let free (u : UnitNo) : Bool := !excluded u && !forced u && !held u && !barred u
    let freeGen (u : UnitNo) : Bool := free u && turb u
    let freePump (u : UnitNo) : Bool := free u && pump u && (!within u [.still] || (s.image u).perm.air.val)
    let external (u : UnitNo) : Int :=
      if !served u || within u [.tripped] then 0
      else if within u [.localCmd, .unsettled] || stale u then (s.image u).power
      else if manual u then (match (s.entry u).mode with
        | .gen => (((s.entry u).share.getD 0 : Nat) : Int)
        | .pump => -field Band.ppump u
        | _ => 0)
      else 0
    let order := s.dse.standing.order
    let short := s.tbs.plant.shortCircuit
    let e := ((units.filter excluded).map external).sum
    let a := order.target - e
    let ranked (preferred : UnitNo → Bool) (l : List UnitNo) : List UnitNo :=
      l.filter preferred ++ l.filter fun u => !preferred u
    let heldGens := units.filter fun u => held u && within u [.gOn]
    let heldPumps := units.filter fun u => held u && within u [.pOn]
    let pumps := ranked pumpSide (s.tbs.meritPump.filter freePump)
    let q := sum Band.gmin heldGens - a
    let reach (k : Nat) : Int := sum Band.ppump heldPumps + sum Band.ppump (pumps.take k)
    let k := match (List.range (pumps.length + 1)).filter fun k => decide (q ≤ reach k) with
      | [] => pumps.length
      | 0 :: _ => 0
      | (j + 1) :: _ => if short = true ∨ reach (j + 1) - q < q - reach j then j + 1 else j
    let sp := heldPumps ++ (if a < 0 then pumps.take k else [])
    let r := a + sum Band.ppump sp
    let gens := (ranked genSide (s.tbs.meritGen.filter freeGen)).filter fun u => decide (u ∉ sp)
    let m := ((List.range gens.length).filter fun m =>
      decide (r ≤ sum Band.gmax (heldGens ++ gens.take m))).headD gens.length
    let sg := heldGens ++ (if 0 < r ∧ (0 ≤ a ∨ short = true) then gens.take m else [])
    let g := sum Band.gmax sg
    let wanted := if r < sum Band.gmin sg then sum Band.gmin sg else if g < r then g else r
    let floors := sg.map fun u => wanted * field Band.gmax u / g
    let raw := floors.zipIdx.map fun x => if (x.2 : Int) < wanted - floors.sum then x.1 + 1 else x.1
    let brought (u : UnitNo) (v : Int) : Int :=
      let w := if v < field Band.gmin u then field Band.gmin u
        else if field Band.gmax u < v then field Band.gmax u else v
      let lo := field Band.rzlo u
      let hi := field Band.rzhi u
      if (lo ≠ 0 ∨ hi ≠ 0) ∧ lo < w ∧ w < hi then (if w - lo ≤ hi - w then lo else hi) else w
    let passed := (sg.zip raw).foldl
      (fun x y => (x.1 ++ [(y.1, brought y.1 (y.2 + x.2))], y.2 + x.2 - brought y.1 (y.2 + x.2)))
      (([], 0) : List (UnitNo × Int) × Int)
    let shares := passed.1
    let total := (shares.map Prod.snd).sum - sum Band.ppump sp + e
    (∀ u, s.assignOf u = .manual → (plan s).entries.get u = s.entry u) ∧
    (∀ u, s.assignOf u = .auto → (plan s).entries.get u =
      { mode := if u ∈ sg then .gen else if u ∈ sp then .pump else .still
        share := (shares.lookup u).map Int.toNat
        cls := order.cls
        forcedOut := forced u
        originId := 0
        originSrc := 0 }) ∧
    (plan s).summary =
      { genCount := sg.length, pumpCount := sp.length, total := total, deviation := total - order.target }

/-- Every step keeps the queues within their capacities, the command slots distinct, and PLANT_ALERT_N driven low exactly
while a present unit is TRIPPED or LOCAL or the converter arbiter is FAULTED (R8, R9, R185, R192). -/
def Obligations.QueuesAndAlertKept : Prop :=
  ∀ s t : State, QueuesAndAlert s → step s = .next t → QueuesAndAlert t

/-- Every step keeps what the Plant Resource Arbiter holds in agreement with the sequencers, and the engine quiet while
it is PAUSED (R62, R66, R114, R146, R149, R155, R158, R160). -/
def Obligations.ConsistencyKept : Prop :=
  ∀ s t : State, Consistent s → step s = .next t → Consistent t
end

