-- ==== Sys2Proof/Laws/State.lean ====
section
/-! SUPPORT. What each update of the state changes and what it leaves: one lemma per field and reader, true by rfl. -/

namespace Sys2Proof.Machine

variable {α : Type}

-- One value per unit --------------------------------------------------------------------------------------

@[simp] theorem PerUnit.get_set_self (t : PerUnit α) (u : UnitNo) (a : α) : (t.set u a).get u = a := by
  cases u <;> rfl

theorem PerUnit.get_set_ne (t : PerUnit α) (u : UnitNo) (a : α) (v : UnitNo) (h : v ≠ u) :
    (t.set u a).get v = t.get v := by
  cases u <;> cases v <;> first | rfl | exact absurd rfl h

theorem PerUnit.get_set (t : PerUnit α) (u v : UnitNo) (a : α) :
    (t.set u a).get v = if v = u then a else t.get v := by
  split
  · next h => subst h; exact PerUnit.get_set_self _ _ _
  · next h => exact PerUnit.get_set_ne _ _ _ _ h

@[simp] theorem PerUnit.get_ofFn (f : UnitNo → α) (u : UnitNo) : (PerUnit.ofFn f).get u = f u := by
  cases u <;> rfl

@[simp] theorem PerUnit.get_all (a : α) (u : UnitNo) : (PerUnit.all a).get u = a := by
  cases u <;> rfl

@[simp] theorem PerUnit.set_get (t : PerUnit α) (u : UnitNo) : t.set u (t.get u) = t := by
  cases u <;> rfl

theorem PerUnit.ext_get (t r : PerUnit α) (h : ∀ u, t.get u = r.get u) : t = r := by
  cases t
  cases r
  have h1 := h .u1
  have h2 := h .u2
  have h3 := h .u3
  have h4 := h .u4
  have h5 := h .u5
  have h6 := h .u6
  simp_all [PerUnit.get]

theorem UnitNo.mem_all (u : UnitNo) : u ∈ UnitNo.all := by
  cases u <;> decide

@[simp] theorem PerWaterway.get_set_self (t : PerWaterway α) (w : Waterway) (a : α) : (t.set w a).get w = a := by
  cases w <;> rfl

theorem PerWaterway.get_set_ne (t : PerWaterway α) (w : Waterway) (a : α) (v : Waterway) (h : v ≠ w) :
    (t.set w a).get v = t.get v := by
  cases w <;> cases v <;> first | rfl | exact absurd rfl h

@[simp] theorem PerPort.get_set_self (t : PerPort α) (p : Port) (a : α) : (t.set p a).get p = a := by
  cases p <;> rfl

theorem PerPort.get_set_ne (t : PerPort α) (p : Port) (a : α) (q : Port) (h : q ≠ p) :
    (t.set p a).get q = t.get q := by
  cases p <;> cases q <;> first | rfl | exact absurd rfl h

-- State.setImage ------------------------------------------------------------------------------------------
@[simp] theorem State.setImage_pending (s : State) (u : UnitNo) (x : Image) : (s.setImage u x).pending = s.pending := rfl
@[simp] theorem State.setImage_held (s : State) (u : UnitNo) (x : Image) : (s.setImage u x).held = s.held := rfl
@[simp] theorem State.setImage_lpu (s : State) (u : UnitNo) (x : Image) : (s.setImage u x).lpu = s.lpu := rfl
@[simp] theorem State.setImage_tbs (s : State) (u : UnitNo) (x : Image) : (s.setImage u x).tbs = s.tbs := rfl
@[simp] theorem State.setImage_dse (s : State) (u : UnitNo) (x : Image) : (s.setImage u x).dse = s.dse := rfl
@[simp] theorem State.setImage_alc (s : State) (u : UnitNo) (x : Image) : (s.setImage u x).alc = s.alc := rfl
@[simp] theorem State.setImage_seqs (s : State) (u : UnitNo) (x : Image) : (s.setImage u x).seqs = s.seqs := rfl
@[simp] theorem State.setImage_pra (s : State) (u : UnitNo) (x : Image) : (s.setImage u x).pra = s.pra := rfl
@[simp] theorem State.setImage_rmp (s : State) (u : UnitNo) (x : Image) : (s.setImage u x).rmp = s.rmp := rfl
@[simp] theorem State.setImage_rpb (s : State) (u : UnitNo) (x : Image) : (s.setImage u x).rpb = s.rpb := rfl
@[simp] theorem State.setImage_unit (s : State) (u : UnitNo) (x : Image) (v : UnitNo) : (s.setImage u x).unit v = s.unit v := rfl
@[simp] theorem State.setImage_seq (s : State) (u : UnitNo) (x : Image) (v : UnitNo) : (s.setImage u x).seq v = s.seq v := rfl
@[simp] theorem State.setImage_ramp (s : State) (u : UnitNo) (x : Image) (v : UnitNo) : (s.setImage u x).ramp v = s.ramp v := rfl
@[simp] theorem State.setImage_entry (s : State) (u : UnitNo) (x : Image) (v : UnitNo) : (s.setImage u x).entry v = s.entry v := rfl
@[simp] theorem State.setImage_assignOf (s : State) (u : UnitNo) (x : Image) (v : UnitNo) : (s.setImage u x).assignOf v = s.assignOf v := rfl
@[simp] theorem State.setImage_profileOf (s : State) (u : UnitNo) (x : Image) (v : UnitNo) : (s.setImage u x).profileOf v = s.profileOf v := rfl

-- State.setSeq --------------------------------------------------------------------------------------------
@[simp] theorem State.setSeq_pending (s : State) (u : UnitNo) (x : Seq) : (s.setSeq u x).pending = s.pending := rfl
@[simp] theorem State.setSeq_held (s : State) (u : UnitNo) (x : Seq) : (s.setSeq u x).held = s.held := rfl
@[simp] theorem State.setSeq_lpu (s : State) (u : UnitNo) (x : Seq) : (s.setSeq u x).lpu = s.lpu := rfl
@[simp] theorem State.setSeq_tbs (s : State) (u : UnitNo) (x : Seq) : (s.setSeq u x).tbs = s.tbs := rfl
@[simp] theorem State.setSeq_uib (s : State) (u : UnitNo) (x : Seq) : (s.setSeq u x).uib = s.uib := rfl
@[simp] theorem State.setSeq_dse (s : State) (u : UnitNo) (x : Seq) : (s.setSeq u x).dse = s.dse := rfl
@[simp] theorem State.setSeq_alc (s : State) (u : UnitNo) (x : Seq) : (s.setSeq u x).alc = s.alc := rfl
@[simp] theorem State.setSeq_pra (s : State) (u : UnitNo) (x : Seq) : (s.setSeq u x).pra = s.pra := rfl
@[simp] theorem State.setSeq_rmp (s : State) (u : UnitNo) (x : Seq) : (s.setSeq u x).rmp = s.rmp := rfl
@[simp] theorem State.setSeq_rpb (s : State) (u : UnitNo) (x : Seq) : (s.setSeq u x).rpb = s.rpb := rfl
@[simp] theorem State.setSeq_unit (s : State) (u : UnitNo) (x : Seq) (v : UnitNo) : (s.setSeq u x).unit v = s.unit v := rfl
@[simp] theorem State.setSeq_image (s : State) (u : UnitNo) (x : Seq) (v : UnitNo) : (s.setSeq u x).image v = s.image v := rfl
@[simp] theorem State.setSeq_ramp (s : State) (u : UnitNo) (x : Seq) (v : UnitNo) : (s.setSeq u x).ramp v = s.ramp v := rfl
@[simp] theorem State.setSeq_entry (s : State) (u : UnitNo) (x : Seq) (v : UnitNo) : (s.setSeq u x).entry v = s.entry v := rfl
@[simp] theorem State.setSeq_assignOf (s : State) (u : UnitNo) (x : Seq) (v : UnitNo) : (s.setSeq u x).assignOf v = s.assignOf v := rfl
@[simp] theorem State.setSeq_profileOf (s : State) (u : UnitNo) (x : Seq) (v : UnitNo) : (s.setSeq u x).profileOf v = s.profileOf v := rfl
@[simp] theorem State.setSeq_bandOf (s : State) (u : UnitNo) (x : Seq) (v : UnitNo) : (s.setSeq u x).bandOf v = s.bandOf v := rfl
@[simp] theorem State.setSeq_turbineBand (s : State) (u : UnitNo) (x : Seq) (v : UnitNo) : (s.setSeq u x).turbineBand v = s.turbineBand v := rfl
@[simp] theorem State.setSeq_pumpBand (s : State) (u : UnitNo) (x : Seq) (v : UnitNo) : (s.setSeq u x).pumpBand v = s.pumpBand v := rfl

-- State.setRamp -------------------------------------------------------------------------------------------
@[simp] theorem State.setRamp_pending (s : State) (u : UnitNo) (x : RampUnit) : (s.setRamp u x).pending = s.pending := rfl
@[simp] theorem State.setRamp_held (s : State) (u : UnitNo) (x : RampUnit) : (s.setRamp u x).held = s.held := rfl
@[simp] theorem State.setRamp_lpu (s : State) (u : UnitNo) (x : RampUnit) : (s.setRamp u x).lpu = s.lpu := rfl
@[simp] theorem State.setRamp_tbs (s : State) (u : UnitNo) (x : RampUnit) : (s.setRamp u x).tbs = s.tbs := rfl
@[simp] theorem State.setRamp_uib (s : State) (u : UnitNo) (x : RampUnit) : (s.setRamp u x).uib = s.uib := rfl
@[simp] theorem State.setRamp_dse (s : State) (u : UnitNo) (x : RampUnit) : (s.setRamp u x).dse = s.dse := rfl
@[simp] theorem State.setRamp_alc (s : State) (u : UnitNo) (x : RampUnit) : (s.setRamp u x).alc = s.alc := rfl
@[simp] theorem State.setRamp_seqs (s : State) (u : UnitNo) (x : RampUnit) : (s.setRamp u x).seqs = s.seqs := rfl
@[simp] theorem State.setRamp_pra (s : State) (u : UnitNo) (x : RampUnit) : (s.setRamp u x).pra = s.pra := rfl
@[simp] theorem State.setRamp_rpb (s : State) (u : UnitNo) (x : RampUnit) : (s.setRamp u x).rpb = s.rpb := rfl
@[simp] theorem State.setRamp_unit (s : State) (u : UnitNo) (x : RampUnit) (v : UnitNo) : (s.setRamp u x).unit v = s.unit v := rfl
@[simp] theorem State.setRamp_image (s : State) (u : UnitNo) (x : RampUnit) (v : UnitNo) : (s.setRamp u x).image v = s.image v := rfl
@[simp] theorem State.setRamp_seq (s : State) (u : UnitNo) (x : RampUnit) (v : UnitNo) : (s.setRamp u x).seq v = s.seq v := rfl
@[simp] theorem State.setRamp_entry (s : State) (u : UnitNo) (x : RampUnit) (v : UnitNo) : (s.setRamp u x).entry v = s.entry v := rfl
@[simp] theorem State.setRamp_assignOf (s : State) (u : UnitNo) (x : RampUnit) (v : UnitNo) : (s.setRamp u x).assignOf v = s.assignOf v := rfl
@[simp] theorem State.setRamp_profileOf (s : State) (u : UnitNo) (x : RampUnit) (v : UnitNo) : (s.setRamp u x).profileOf v = s.profileOf v := rfl
@[simp] theorem State.setRamp_bandOf (s : State) (u : UnitNo) (x : RampUnit) (v : UnitNo) : (s.setRamp u x).bandOf v = s.bandOf v := rfl
@[simp] theorem State.setRamp_turbineBand (s : State) (u : UnitNo) (x : RampUnit) (v : UnitNo) : (s.setRamp u x).turbineBand v = s.turbineBand v := rfl
@[simp] theorem State.setRamp_pumpBand (s : State) (u : UnitNo) (x : RampUnit) (v : UnitNo) : (s.setRamp u x).pumpBand v = s.pumpBand v := rfl

-- State.setEntry ------------------------------------------------------------------------------------------
@[simp] theorem State.setEntry_pending (s : State) (u : UnitNo) (x : Entry) : (s.setEntry u x).pending = s.pending := rfl
@[simp] theorem State.setEntry_held (s : State) (u : UnitNo) (x : Entry) : (s.setEntry u x).held = s.held := rfl
@[simp] theorem State.setEntry_lpu (s : State) (u : UnitNo) (x : Entry) : (s.setEntry u x).lpu = s.lpu := rfl
@[simp] theorem State.setEntry_tbs (s : State) (u : UnitNo) (x : Entry) : (s.setEntry u x).tbs = s.tbs := rfl
@[simp] theorem State.setEntry_uib (s : State) (u : UnitNo) (x : Entry) : (s.setEntry u x).uib = s.uib := rfl
@[simp] theorem State.setEntry_dse (s : State) (u : UnitNo) (x : Entry) : (s.setEntry u x).dse = s.dse := rfl
@[simp] theorem State.setEntry_seqs (s : State) (u : UnitNo) (x : Entry) : (s.setEntry u x).seqs = s.seqs := rfl
@[simp] theorem State.setEntry_pra (s : State) (u : UnitNo) (x : Entry) : (s.setEntry u x).pra = s.pra := rfl
@[simp] theorem State.setEntry_rmp (s : State) (u : UnitNo) (x : Entry) : (s.setEntry u x).rmp = s.rmp := rfl
@[simp] theorem State.setEntry_rpb (s : State) (u : UnitNo) (x : Entry) : (s.setEntry u x).rpb = s.rpb := rfl
@[simp] theorem State.setEntry_unit (s : State) (u : UnitNo) (x : Entry) (v : UnitNo) : (s.setEntry u x).unit v = s.unit v := rfl
@[simp] theorem State.setEntry_image (s : State) (u : UnitNo) (x : Entry) (v : UnitNo) : (s.setEntry u x).image v = s.image v := rfl
@[simp] theorem State.setEntry_seq (s : State) (u : UnitNo) (x : Entry) (v : UnitNo) : (s.setEntry u x).seq v = s.seq v := rfl
@[simp] theorem State.setEntry_ramp (s : State) (u : UnitNo) (x : Entry) (v : UnitNo) : (s.setEntry u x).ramp v = s.ramp v := rfl
@[simp] theorem State.setEntry_assignOf (s : State) (u : UnitNo) (x : Entry) (v : UnitNo) : (s.setEntry u x).assignOf v = s.assignOf v := rfl
@[simp] theorem State.setEntry_profileOf (s : State) (u : UnitNo) (x : Entry) (v : UnitNo) : (s.setEntry u x).profileOf v = s.profileOf v := rfl
@[simp] theorem State.setEntry_bandOf (s : State) (u : UnitNo) (x : Entry) (v : UnitNo) : (s.setEntry u x).bandOf v = s.bandOf v := rfl
@[simp] theorem State.setEntry_turbineBand (s : State) (u : UnitNo) (x : Entry) (v : UnitNo) : (s.setEntry u x).turbineBand v = s.turbineBand v := rfl
@[simp] theorem State.setEntry_pumpBand (s : State) (u : UnitNo) (x : Entry) (v : UnitNo) : (s.setEntry u x).pumpBand v = s.pumpBand v := rfl

-- State.setUnit -------------------------------------------------------------------------------------------
@[simp] theorem State.setUnit_pending (s : State) (u : UnitNo) (x : UnitEntry) : (s.setUnit u x).pending = s.pending := rfl
@[simp] theorem State.setUnit_held (s : State) (u : UnitNo) (x : UnitEntry) : (s.setUnit u x).held = s.held := rfl
@[simp] theorem State.setUnit_lpu (s : State) (u : UnitNo) (x : UnitEntry) : (s.setUnit u x).lpu = s.lpu := rfl
@[simp] theorem State.setUnit_uib (s : State) (u : UnitNo) (x : UnitEntry) : (s.setUnit u x).uib = s.uib := rfl
@[simp] theorem State.setUnit_dse (s : State) (u : UnitNo) (x : UnitEntry) : (s.setUnit u x).dse = s.dse := rfl
@[simp] theorem State.setUnit_alc (s : State) (u : UnitNo) (x : UnitEntry) : (s.setUnit u x).alc = s.alc := rfl
@[simp] theorem State.setUnit_seqs (s : State) (u : UnitNo) (x : UnitEntry) : (s.setUnit u x).seqs = s.seqs := rfl
@[simp] theorem State.setUnit_pra (s : State) (u : UnitNo) (x : UnitEntry) : (s.setUnit u x).pra = s.pra := rfl
@[simp] theorem State.setUnit_rmp (s : State) (u : UnitNo) (x : UnitEntry) : (s.setUnit u x).rmp = s.rmp := rfl
@[simp] theorem State.setUnit_rpb (s : State) (u : UnitNo) (x : UnitEntry) : (s.setUnit u x).rpb = s.rpb := rfl
@[simp] theorem State.setUnit_image (s : State) (u : UnitNo) (x : UnitEntry) (v : UnitNo) : (s.setUnit u x).image v = s.image v := rfl
@[simp] theorem State.setUnit_seq (s : State) (u : UnitNo) (x : UnitEntry) (v : UnitNo) : (s.setUnit u x).seq v = s.seq v := rfl
@[simp] theorem State.setUnit_ramp (s : State) (u : UnitNo) (x : UnitEntry) (v : UnitNo) : (s.setUnit u x).ramp v = s.ramp v := rfl
@[simp] theorem State.setUnit_entry (s : State) (u : UnitNo) (x : UnitEntry) (v : UnitNo) : (s.setUnit u x).entry v = s.entry v := rfl
@[simp] theorem State.setUnit_assignOf (s : State) (u : UnitNo) (x : UnitEntry) (v : UnitNo) : (s.setUnit u x).assignOf v = s.assignOf v := rfl

-- State.setAssign -----------------------------------------------------------------------------------------
@[simp] theorem State.setAssign_pending (s : State) (u : UnitNo) (x : Assign) : (s.setAssign u x).pending = s.pending := rfl
@[simp] theorem State.setAssign_held (s : State) (u : UnitNo) (x : Assign) : (s.setAssign u x).held = s.held := rfl
@[simp] theorem State.setAssign_lpu (s : State) (u : UnitNo) (x : Assign) : (s.setAssign u x).lpu = s.lpu := rfl
@[simp] theorem State.setAssign_tbs (s : State) (u : UnitNo) (x : Assign) : (s.setAssign u x).tbs = s.tbs := rfl
@[simp] theorem State.setAssign_uib (s : State) (u : UnitNo) (x : Assign) : (s.setAssign u x).uib = s.uib := rfl
@[simp] theorem State.setAssign_alc (s : State) (u : UnitNo) (x : Assign) : (s.setAssign u x).alc = s.alc := rfl
@[simp] theorem State.setAssign_seqs (s : State) (u : UnitNo) (x : Assign) : (s.setAssign u x).seqs = s.seqs := rfl
@[simp] theorem State.setAssign_pra (s : State) (u : UnitNo) (x : Assign) : (s.setAssign u x).pra = s.pra := rfl
@[simp] theorem State.setAssign_rmp (s : State) (u : UnitNo) (x : Assign) : (s.setAssign u x).rmp = s.rmp := rfl
@[simp] theorem State.setAssign_rpb (s : State) (u : UnitNo) (x : Assign) : (s.setAssign u x).rpb = s.rpb := rfl
@[simp] theorem State.setAssign_unit (s : State) (u : UnitNo) (x : Assign) (v : UnitNo) : (s.setAssign u x).unit v = s.unit v := rfl
@[simp] theorem State.setAssign_image (s : State) (u : UnitNo) (x : Assign) (v : UnitNo) : (s.setAssign u x).image v = s.image v := rfl
@[simp] theorem State.setAssign_seq (s : State) (u : UnitNo) (x : Assign) (v : UnitNo) : (s.setAssign u x).seq v = s.seq v := rfl
@[simp] theorem State.setAssign_ramp (s : State) (u : UnitNo) (x : Assign) (v : UnitNo) : (s.setAssign u x).ramp v = s.ramp v := rfl
@[simp] theorem State.setAssign_entry (s : State) (u : UnitNo) (x : Assign) (v : UnitNo) : (s.setAssign u x).entry v = s.entry v := rfl
@[simp] theorem State.setAssign_profileOf (s : State) (u : UnitNo) (x : Assign) (v : UnitNo) : (s.setAssign u x).profileOf v = s.profileOf v := rfl
@[simp] theorem State.setAssign_bandOf (s : State) (u : UnitNo) (x : Assign) (v : UnitNo) : (s.setAssign u x).bandOf v = s.bandOf v := rfl
@[simp] theorem State.setAssign_turbineBand (s : State) (u : UnitNo) (x : Assign) (v : UnitNo) : (s.setAssign u x).turbineBand v = s.turbineBand v := rfl
@[simp] theorem State.setAssign_pumpBand (s : State) (u : UnitNo) (x : Assign) (v : UnitNo) : (s.setAssign u x).pumpBand v = s.pumpBand v := rfl

-- State.setLock -------------------------------------------------------------------------------------------
@[simp] theorem State.setLock_pending (s : State) (u : Waterway) (x : Lock) : (s.setLock u x).pending = s.pending := rfl
@[simp] theorem State.setLock_held (s : State) (u : Waterway) (x : Lock) : (s.setLock u x).held = s.held := rfl
@[simp] theorem State.setLock_lpu (s : State) (u : Waterway) (x : Lock) : (s.setLock u x).lpu = s.lpu := rfl
@[simp] theorem State.setLock_tbs (s : State) (u : Waterway) (x : Lock) : (s.setLock u x).tbs = s.tbs := rfl
@[simp] theorem State.setLock_uib (s : State) (u : Waterway) (x : Lock) : (s.setLock u x).uib = s.uib := rfl
@[simp] theorem State.setLock_dse (s : State) (u : Waterway) (x : Lock) : (s.setLock u x).dse = s.dse := rfl
@[simp] theorem State.setLock_alc (s : State) (u : Waterway) (x : Lock) : (s.setLock u x).alc = s.alc := rfl
@[simp] theorem State.setLock_seqs (s : State) (u : Waterway) (x : Lock) : (s.setLock u x).seqs = s.seqs := rfl
@[simp] theorem State.setLock_rmp (s : State) (u : Waterway) (x : Lock) : (s.setLock u x).rmp = s.rmp := rfl
@[simp] theorem State.setLock_rpb (s : State) (u : Waterway) (x : Lock) : (s.setLock u x).rpb = s.rpb := rfl
@[simp] theorem State.setLock_unit (s : State) (u : Waterway) (x : Lock) (v : UnitNo) : (s.setLock u x).unit v = s.unit v := rfl
@[simp] theorem State.setLock_image (s : State) (u : Waterway) (x : Lock) (v : UnitNo) : (s.setLock u x).image v = s.image v := rfl
@[simp] theorem State.setLock_seq (s : State) (u : Waterway) (x : Lock) (v : UnitNo) : (s.setLock u x).seq v = s.seq v := rfl
@[simp] theorem State.setLock_ramp (s : State) (u : Waterway) (x : Lock) (v : UnitNo) : (s.setLock u x).ramp v = s.ramp v := rfl
@[simp] theorem State.setLock_entry (s : State) (u : Waterway) (x : Lock) (v : UnitNo) : (s.setLock u x).entry v = s.entry v := rfl
@[simp] theorem State.setLock_assignOf (s : State) (u : Waterway) (x : Lock) (v : UnitNo) : (s.setLock u x).assignOf v = s.assignOf v := rfl
@[simp] theorem State.setLock_profileOf (s : State) (u : Waterway) (x : Lock) (v : UnitNo) : (s.setLock u x).profileOf v = s.profileOf v := rfl
@[simp] theorem State.setLock_bandOf (s : State) (u : Waterway) (x : Lock) (v : UnitNo) : (s.setLock u x).bandOf v = s.bandOf v := rfl
@[simp] theorem State.setLock_turbineBand (s : State) (u : Waterway) (x : Lock) (v : UnitNo) : (s.setLock u x).turbineBand v = s.turbineBand v := rfl
@[simp] theorem State.setLock_pumpBand (s : State) (u : Waterway) (x : Lock) (v : UnitNo) : (s.setLock u x).pumpBand v = s.pumpBand v := rfl

-- State.setLpu --------------------------------------------------------------------------------------------
@[simp] theorem State.setLpu_pending (s : State) (x : Lpu) : (s.setLpu x).pending = s.pending := rfl
@[simp] theorem State.setLpu_held (s : State) (x : Lpu) : (s.setLpu x).held = s.held := rfl
@[simp] theorem State.setLpu_lpu (s : State) (x : Lpu) : (s.setLpu x).lpu = x := rfl
@[simp] theorem State.setLpu_tbs (s : State) (x : Lpu) : (s.setLpu x).tbs = s.tbs := rfl
@[simp] theorem State.setLpu_uib (s : State) (x : Lpu) : (s.setLpu x).uib = s.uib := rfl
@[simp] theorem State.setLpu_dse (s : State) (x : Lpu) : (s.setLpu x).dse = s.dse := rfl
@[simp] theorem State.setLpu_alc (s : State) (x : Lpu) : (s.setLpu x).alc = s.alc := rfl
@[simp] theorem State.setLpu_seqs (s : State) (x : Lpu) : (s.setLpu x).seqs = s.seqs := rfl
@[simp] theorem State.setLpu_pra (s : State) (x : Lpu) : (s.setLpu x).pra = s.pra := rfl
@[simp] theorem State.setLpu_rmp (s : State) (x : Lpu) : (s.setLpu x).rmp = s.rmp := rfl
@[simp] theorem State.setLpu_rpb (s : State) (x : Lpu) : (s.setLpu x).rpb = s.rpb := rfl
@[simp] theorem State.setLpu_unit (s : State) (x : Lpu) (v : UnitNo) : (s.setLpu x).unit v = s.unit v := rfl
@[simp] theorem State.setLpu_image (s : State) (x : Lpu) (v : UnitNo) : (s.setLpu x).image v = s.image v := rfl
@[simp] theorem State.setLpu_seq (s : State) (x : Lpu) (v : UnitNo) : (s.setLpu x).seq v = s.seq v := rfl
@[simp] theorem State.setLpu_ramp (s : State) (x : Lpu) (v : UnitNo) : (s.setLpu x).ramp v = s.ramp v := rfl
@[simp] theorem State.setLpu_entry (s : State) (x : Lpu) (v : UnitNo) : (s.setLpu x).entry v = s.entry v := rfl
@[simp] theorem State.setLpu_assignOf (s : State) (x : Lpu) (v : UnitNo) : (s.setLpu x).assignOf v = s.assignOf v := rfl
@[simp] theorem State.setLpu_profileOf (s : State) (x : Lpu) (v : UnitNo) : (s.setLpu x).profileOf v = s.profileOf v := rfl
@[simp] theorem State.setLpu_bandOf (s : State) (x : Lpu) (v : UnitNo) : (s.setLpu x).bandOf v = s.bandOf v := rfl
@[simp] theorem State.setLpu_turbineBand (s : State) (x : Lpu) (v : UnitNo) : (s.setLpu x).turbineBand v = s.turbineBand v := rfl
@[simp] theorem State.setLpu_pumpBand (s : State) (x : Lpu) (v : UnitNo) : (s.setLpu x).pumpBand v = s.pumpBand v := rfl

-- State.setTbs --------------------------------------------------------------------------------------------
@[simp] theorem State.setTbs_pending (s : State) (x : Tbs) : (s.setTbs x).pending = s.pending := rfl
@[simp] theorem State.setTbs_held (s : State) (x : Tbs) : (s.setTbs x).held = s.held := rfl
@[simp] theorem State.setTbs_lpu (s : State) (x : Tbs) : (s.setTbs x).lpu = s.lpu := rfl
@[simp] theorem State.setTbs_tbs (s : State) (x : Tbs) : (s.setTbs x).tbs = x := rfl
@[simp] theorem State.setTbs_uib (s : State) (x : Tbs) : (s.setTbs x).uib = s.uib := rfl
@[simp] theorem State.setTbs_dse (s : State) (x : Tbs) : (s.setTbs x).dse = s.dse := rfl
@[simp] theorem State.setTbs_alc (s : State) (x : Tbs) : (s.setTbs x).alc = s.alc := rfl
@[simp] theorem State.setTbs_seqs (s : State) (x : Tbs) : (s.setTbs x).seqs = s.seqs := rfl
@[simp] theorem State.setTbs_pra (s : State) (x : Tbs) : (s.setTbs x).pra = s.pra := rfl
@[simp] theorem State.setTbs_rmp (s : State) (x : Tbs) : (s.setTbs x).rmp = s.rmp := rfl
@[simp] theorem State.setTbs_rpb (s : State) (x : Tbs) : (s.setTbs x).rpb = s.rpb := rfl
@[simp] theorem State.setTbs_image (s : State) (x : Tbs) (v : UnitNo) : (s.setTbs x).image v = s.image v := rfl
@[simp] theorem State.setTbs_seq (s : State) (x : Tbs) (v : UnitNo) : (s.setTbs x).seq v = s.seq v := rfl
@[simp] theorem State.setTbs_ramp (s : State) (x : Tbs) (v : UnitNo) : (s.setTbs x).ramp v = s.ramp v := rfl
@[simp] theorem State.setTbs_entry (s : State) (x : Tbs) (v : UnitNo) : (s.setTbs x).entry v = s.entry v := rfl
@[simp] theorem State.setTbs_assignOf (s : State) (x : Tbs) (v : UnitNo) : (s.setTbs x).assignOf v = s.assignOf v := rfl

-- State.setUib --------------------------------------------------------------------------------------------
@[simp] theorem State.setUib_pending (s : State) (x : Uib) : (s.setUib x).pending = s.pending := rfl
@[simp] theorem State.setUib_held (s : State) (x : Uib) : (s.setUib x).held = s.held := rfl
@[simp] theorem State.setUib_lpu (s : State) (x : Uib) : (s.setUib x).lpu = s.lpu := rfl
@[simp] theorem State.setUib_tbs (s : State) (x : Uib) : (s.setUib x).tbs = s.tbs := rfl
@[simp] theorem State.setUib_uib (s : State) (x : Uib) : (s.setUib x).uib = x := rfl
@[simp] theorem State.setUib_dse (s : State) (x : Uib) : (s.setUib x).dse = s.dse := rfl
@[simp] theorem State.setUib_alc (s : State) (x : Uib) : (s.setUib x).alc = s.alc := rfl
@[simp] theorem State.setUib_seqs (s : State) (x : Uib) : (s.setUib x).seqs = s.seqs := rfl
@[simp] theorem State.setUib_pra (s : State) (x : Uib) : (s.setUib x).pra = s.pra := rfl
@[simp] theorem State.setUib_rmp (s : State) (x : Uib) : (s.setUib x).rmp = s.rmp := rfl
@[simp] theorem State.setUib_rpb (s : State) (x : Uib) : (s.setUib x).rpb = s.rpb := rfl
@[simp] theorem State.setUib_unit (s : State) (x : Uib) (v : UnitNo) : (s.setUib x).unit v = s.unit v := rfl
@[simp] theorem State.setUib_seq (s : State) (x : Uib) (v : UnitNo) : (s.setUib x).seq v = s.seq v := rfl
@[simp] theorem State.setUib_ramp (s : State) (x : Uib) (v : UnitNo) : (s.setUib x).ramp v = s.ramp v := rfl
@[simp] theorem State.setUib_entry (s : State) (x : Uib) (v : UnitNo) : (s.setUib x).entry v = s.entry v := rfl
@[simp] theorem State.setUib_assignOf (s : State) (x : Uib) (v : UnitNo) : (s.setUib x).assignOf v = s.assignOf v := rfl
@[simp] theorem State.setUib_profileOf (s : State) (x : Uib) (v : UnitNo) : (s.setUib x).profileOf v = s.profileOf v := rfl

-- State.setDse --------------------------------------------------------------------------------------------
@[simp] theorem State.setDse_pending (s : State) (x : Dse) : (s.setDse x).pending = s.pending := rfl
@[simp] theorem State.setDse_held (s : State) (x : Dse) : (s.setDse x).held = s.held := rfl
@[simp] theorem State.setDse_lpu (s : State) (x : Dse) : (s.setDse x).lpu = s.lpu := rfl
@[simp] theorem State.setDse_tbs (s : State) (x : Dse) : (s.setDse x).tbs = s.tbs := rfl
@[simp] theorem State.setDse_uib (s : State) (x : Dse) : (s.setDse x).uib = s.uib := rfl
@[simp] theorem State.setDse_dse (s : State) (x : Dse) : (s.setDse x).dse = x := rfl
@[simp] theorem State.setDse_alc (s : State) (x : Dse) : (s.setDse x).alc = s.alc := rfl
@[simp] theorem State.setDse_seqs (s : State) (x : Dse) : (s.setDse x).seqs = s.seqs := rfl
@[simp] theorem State.setDse_pra (s : State) (x : Dse) : (s.setDse x).pra = s.pra := rfl
@[simp] theorem State.setDse_rmp (s : State) (x : Dse) : (s.setDse x).rmp = s.rmp := rfl
@[simp] theorem State.setDse_rpb (s : State) (x : Dse) : (s.setDse x).rpb = s.rpb := rfl
@[simp] theorem State.setDse_unit (s : State) (x : Dse) (v : UnitNo) : (s.setDse x).unit v = s.unit v := rfl
@[simp] theorem State.setDse_image (s : State) (x : Dse) (v : UnitNo) : (s.setDse x).image v = s.image v := rfl
@[simp] theorem State.setDse_seq (s : State) (x : Dse) (v : UnitNo) : (s.setDse x).seq v = s.seq v := rfl
@[simp] theorem State.setDse_ramp (s : State) (x : Dse) (v : UnitNo) : (s.setDse x).ramp v = s.ramp v := rfl
@[simp] theorem State.setDse_entry (s : State) (x : Dse) (v : UnitNo) : (s.setDse x).entry v = s.entry v := rfl
@[simp] theorem State.setDse_profileOf (s : State) (x : Dse) (v : UnitNo) : (s.setDse x).profileOf v = s.profileOf v := rfl
@[simp] theorem State.setDse_bandOf (s : State) (x : Dse) (v : UnitNo) : (s.setDse x).bandOf v = s.bandOf v := rfl
@[simp] theorem State.setDse_turbineBand (s : State) (x : Dse) (v : UnitNo) : (s.setDse x).turbineBand v = s.turbineBand v := rfl
@[simp] theorem State.setDse_pumpBand (s : State) (x : Dse) (v : UnitNo) : (s.setDse x).pumpBand v = s.pumpBand v := rfl

-- State.setAlc --------------------------------------------------------------------------------------------
@[simp] theorem State.setAlc_pending (s : State) (x : Alc) : (s.setAlc x).pending = s.pending := rfl
@[simp] theorem State.setAlc_held (s : State) (x : Alc) : (s.setAlc x).held = s.held := rfl
@[simp] theorem State.setAlc_lpu (s : State) (x : Alc) : (s.setAlc x).lpu = s.lpu := rfl
@[simp] theorem State.setAlc_tbs (s : State) (x : Alc) : (s.setAlc x).tbs = s.tbs := rfl
@[simp] theorem State.setAlc_uib (s : State) (x : Alc) : (s.setAlc x).uib = s.uib := rfl
@[simp] theorem State.setAlc_dse (s : State) (x : Alc) : (s.setAlc x).dse = s.dse := rfl
@[simp] theorem State.setAlc_alc (s : State) (x : Alc) : (s.setAlc x).alc = x := rfl
@[simp] theorem State.setAlc_seqs (s : State) (x : Alc) : (s.setAlc x).seqs = s.seqs := rfl
@[simp] theorem State.setAlc_pra (s : State) (x : Alc) : (s.setAlc x).pra = s.pra := rfl
@[simp] theorem State.setAlc_rmp (s : State) (x : Alc) : (s.setAlc x).rmp = s.rmp := rfl
@[simp] theorem State.setAlc_rpb (s : State) (x : Alc) : (s.setAlc x).rpb = s.rpb := rfl
@[simp] theorem State.setAlc_unit (s : State) (x : Alc) (v : UnitNo) : (s.setAlc x).unit v = s.unit v := rfl
@[simp] theorem State.setAlc_image (s : State) (x : Alc) (v : UnitNo) : (s.setAlc x).image v = s.image v := rfl
@[simp] theorem State.setAlc_seq (s : State) (x : Alc) (v : UnitNo) : (s.setAlc x).seq v = s.seq v := rfl
@[simp] theorem State.setAlc_ramp (s : State) (x : Alc) (v : UnitNo) : (s.setAlc x).ramp v = s.ramp v := rfl
@[simp] theorem State.setAlc_assignOf (s : State) (x : Alc) (v : UnitNo) : (s.setAlc x).assignOf v = s.assignOf v := rfl
@[simp] theorem State.setAlc_profileOf (s : State) (x : Alc) (v : UnitNo) : (s.setAlc x).profileOf v = s.profileOf v := rfl
@[simp] theorem State.setAlc_bandOf (s : State) (x : Alc) (v : UnitNo) : (s.setAlc x).bandOf v = s.bandOf v := rfl
@[simp] theorem State.setAlc_turbineBand (s : State) (x : Alc) (v : UnitNo) : (s.setAlc x).turbineBand v = s.turbineBand v := rfl
@[simp] theorem State.setAlc_pumpBand (s : State) (x : Alc) (v : UnitNo) : (s.setAlc x).pumpBand v = s.pumpBand v := rfl

-- State.setPra --------------------------------------------------------------------------------------------
@[simp] theorem State.setPra_pending (s : State) (x : Pra) : (s.setPra x).pending = s.pending := rfl
@[simp] theorem State.setPra_held (s : State) (x : Pra) : (s.setPra x).held = s.held := rfl
@[simp] theorem State.setPra_lpu (s : State) (x : Pra) : (s.setPra x).lpu = s.lpu := rfl
@[simp] theorem State.setPra_tbs (s : State) (x : Pra) : (s.setPra x).tbs = s.tbs := rfl
@[simp] theorem State.setPra_uib (s : State) (x : Pra) : (s.setPra x).uib = s.uib := rfl
@[simp] theorem State.setPra_dse (s : State) (x : Pra) : (s.setPra x).dse = s.dse := rfl
@[simp] theorem State.setPra_alc (s : State) (x : Pra) : (s.setPra x).alc = s.alc := rfl
@[simp] theorem State.setPra_seqs (s : State) (x : Pra) : (s.setPra x).seqs = s.seqs := rfl
@[simp] theorem State.setPra_pra (s : State) (x : Pra) : (s.setPra x).pra = x := rfl
@[simp] theorem State.setPra_rmp (s : State) (x : Pra) : (s.setPra x).rmp = s.rmp := rfl
@[simp] theorem State.setPra_rpb (s : State) (x : Pra) : (s.setPra x).rpb = s.rpb := rfl
@[simp] theorem State.setPra_unit (s : State) (x : Pra) (v : UnitNo) : (s.setPra x).unit v = s.unit v := rfl
@[simp] theorem State.setPra_image (s : State) (x : Pra) (v : UnitNo) : (s.setPra x).image v = s.image v := rfl
@[simp] theorem State.setPra_seq (s : State) (x : Pra) (v : UnitNo) : (s.setPra x).seq v = s.seq v := rfl
@[simp] theorem State.setPra_ramp (s : State) (x : Pra) (v : UnitNo) : (s.setPra x).ramp v = s.ramp v := rfl
@[simp] theorem State.setPra_entry (s : State) (x : Pra) (v : UnitNo) : (s.setPra x).entry v = s.entry v := rfl
@[simp] theorem State.setPra_assignOf (s : State) (x : Pra) (v : UnitNo) : (s.setPra x).assignOf v = s.assignOf v := rfl
@[simp] theorem State.setPra_profileOf (s : State) (x : Pra) (v : UnitNo) : (s.setPra x).profileOf v = s.profileOf v := rfl
@[simp] theorem State.setPra_bandOf (s : State) (x : Pra) (v : UnitNo) : (s.setPra x).bandOf v = s.bandOf v := rfl
@[simp] theorem State.setPra_turbineBand (s : State) (x : Pra) (v : UnitNo) : (s.setPra x).turbineBand v = s.turbineBand v := rfl
@[simp] theorem State.setPra_pumpBand (s : State) (x : Pra) (v : UnitNo) : (s.setPra x).pumpBand v = s.pumpBand v := rfl

-- State.setRmp --------------------------------------------------------------------------------------------
@[simp] theorem State.setRmp_pending (s : State) (x : Rmp) : (s.setRmp x).pending = s.pending := rfl
@[simp] theorem State.setRmp_held (s : State) (x : Rmp) : (s.setRmp x).held = s.held := rfl
@[simp] theorem State.setRmp_lpu (s : State) (x : Rmp) : (s.setRmp x).lpu = s.lpu := rfl
@[simp] theorem State.setRmp_tbs (s : State) (x : Rmp) : (s.setRmp x).tbs = s.tbs := rfl
@[simp] theorem State.setRmp_uib (s : State) (x : Rmp) : (s.setRmp x).uib = s.uib := rfl
@[simp] theorem State.setRmp_dse (s : State) (x : Rmp) : (s.setRmp x).dse = s.dse := rfl
@[simp] theorem State.setRmp_alc (s : State) (x : Rmp) : (s.setRmp x).alc = s.alc := rfl
@[simp] theorem State.setRmp_seqs (s : State) (x : Rmp) : (s.setRmp x).seqs = s.seqs := rfl
@[simp] theorem State.setRmp_pra (s : State) (x : Rmp) : (s.setRmp x).pra = s.pra := rfl
@[simp] theorem State.setRmp_rmp (s : State) (x : Rmp) : (s.setRmp x).rmp = x := rfl
@[simp] theorem State.setRmp_rpb (s : State) (x : Rmp) : (s.setRmp x).rpb = s.rpb := rfl
@[simp] theorem State.setRmp_unit (s : State) (x : Rmp) (v : UnitNo) : (s.setRmp x).unit v = s.unit v := rfl
@[simp] theorem State.setRmp_image (s : State) (x : Rmp) (v : UnitNo) : (s.setRmp x).image v = s.image v := rfl
@[simp] theorem State.setRmp_seq (s : State) (x : Rmp) (v : UnitNo) : (s.setRmp x).seq v = s.seq v := rfl
@[simp] theorem State.setRmp_entry (s : State) (x : Rmp) (v : UnitNo) : (s.setRmp x).entry v = s.entry v := rfl
@[simp] theorem State.setRmp_assignOf (s : State) (x : Rmp) (v : UnitNo) : (s.setRmp x).assignOf v = s.assignOf v := rfl
@[simp] theorem State.setRmp_profileOf (s : State) (x : Rmp) (v : UnitNo) : (s.setRmp x).profileOf v = s.profileOf v := rfl
@[simp] theorem State.setRmp_bandOf (s : State) (x : Rmp) (v : UnitNo) : (s.setRmp x).bandOf v = s.bandOf v := rfl
@[simp] theorem State.setRmp_turbineBand (s : State) (x : Rmp) (v : UnitNo) : (s.setRmp x).turbineBand v = s.turbineBand v := rfl
@[simp] theorem State.setRmp_pumpBand (s : State) (x : Rmp) (v : UnitNo) : (s.setRmp x).pumpBand v = s.pumpBand v := rfl

-- State.setRpb --------------------------------------------------------------------------------------------
@[simp] theorem State.setRpb_pending (s : State) (x : Rpb) : (s.setRpb x).pending = s.pending := rfl
@[simp] theorem State.setRpb_held (s : State) (x : Rpb) : (s.setRpb x).held = s.held := rfl
@[simp] theorem State.setRpb_lpu (s : State) (x : Rpb) : (s.setRpb x).lpu = s.lpu := rfl
@[simp] theorem State.setRpb_tbs (s : State) (x : Rpb) : (s.setRpb x).tbs = s.tbs := rfl
@[simp] theorem State.setRpb_uib (s : State) (x : Rpb) : (s.setRpb x).uib = s.uib := rfl
@[simp] theorem State.setRpb_dse (s : State) (x : Rpb) : (s.setRpb x).dse = s.dse := rfl
@[simp] theorem State.setRpb_alc (s : State) (x : Rpb) : (s.setRpb x).alc = s.alc := rfl
@[simp] theorem State.setRpb_seqs (s : State) (x : Rpb) : (s.setRpb x).seqs = s.seqs := rfl
@[simp] theorem State.setRpb_pra (s : State) (x : Rpb) : (s.setRpb x).pra = s.pra := rfl
@[simp] theorem State.setRpb_rmp (s : State) (x : Rpb) : (s.setRpb x).rmp = s.rmp := rfl
@[simp] theorem State.setRpb_rpb (s : State) (x : Rpb) : (s.setRpb x).rpb = x := rfl
@[simp] theorem State.setRpb_unit (s : State) (x : Rpb) (v : UnitNo) : (s.setRpb x).unit v = s.unit v := rfl
@[simp] theorem State.setRpb_image (s : State) (x : Rpb) (v : UnitNo) : (s.setRpb x).image v = s.image v := rfl
@[simp] theorem State.setRpb_seq (s : State) (x : Rpb) (v : UnitNo) : (s.setRpb x).seq v = s.seq v := rfl
@[simp] theorem State.setRpb_ramp (s : State) (x : Rpb) (v : UnitNo) : (s.setRpb x).ramp v = s.ramp v := rfl
@[simp] theorem State.setRpb_entry (s : State) (x : Rpb) (v : UnitNo) : (s.setRpb x).entry v = s.entry v := rfl
@[simp] theorem State.setRpb_assignOf (s : State) (x : Rpb) (v : UnitNo) : (s.setRpb x).assignOf v = s.assignOf v := rfl
@[simp] theorem State.setRpb_profileOf (s : State) (x : Rpb) (v : UnitNo) : (s.setRpb x).profileOf v = s.profileOf v := rfl
@[simp] theorem State.setRpb_bandOf (s : State) (x : Rpb) (v : UnitNo) : (s.setRpb x).bandOf v = s.bandOf v := rfl
@[simp] theorem State.setRpb_turbineBand (s : State) (x : Rpb) (v : UnitNo) : (s.setRpb x).turbineBand v = s.turbineBand v := rfl
@[simp] theorem State.setRpb_pumpBand (s : State) (x : Rpb) (v : UnitNo) : (s.setRpb x).pumpBand v = s.pumpBand v := rfl

@[simp] theorem State.setImage_image_self (s : State) (u : UnitNo) (x : Image) : (s.setImage u x).image u = x := PerUnit.get_set_self _ _ _

theorem State.setImage_image_ne (s : State) (u : UnitNo) (x : Image) (v : UnitNo) (h : v ≠ u) : (s.setImage u x).image v = s.image v :=
  PerUnit.get_set_ne _ _ _ _ h

@[simp] theorem State.setSeq_seq_self (s : State) (u : UnitNo) (x : Seq) : (s.setSeq u x).seq u = x := PerUnit.get_set_self _ _ _

theorem State.setSeq_seq_ne (s : State) (u : UnitNo) (x : Seq) (v : UnitNo) (h : v ≠ u) : (s.setSeq u x).seq v = s.seq v :=
  PerUnit.get_set_ne _ _ _ _ h

@[simp] theorem State.setRamp_ramp_self (s : State) (u : UnitNo) (x : RampUnit) : (s.setRamp u x).ramp u = x := PerUnit.get_set_self _ _ _

theorem State.setRamp_ramp_ne (s : State) (u : UnitNo) (x : RampUnit) (v : UnitNo) (h : v ≠ u) : (s.setRamp u x).ramp v = s.ramp v :=
  PerUnit.get_set_ne _ _ _ _ h

@[simp] theorem State.setEntry_entry_self (s : State) (u : UnitNo) (x : Entry) : (s.setEntry u x).entry u = x := PerUnit.get_set_self _ _ _

theorem State.setEntry_entry_ne (s : State) (u : UnitNo) (x : Entry) (v : UnitNo) (h : v ≠ u) : (s.setEntry u x).entry v = s.entry v :=
  PerUnit.get_set_ne _ _ _ _ h

@[simp] theorem State.setUnit_unit_self (s : State) (u : UnitNo) (x : UnitEntry) : (s.setUnit u x).unit u = x := PerUnit.get_set_self _ _ _

theorem State.setUnit_unit_ne (s : State) (u : UnitNo) (x : UnitEntry) (v : UnitNo) (h : v ≠ u) : (s.setUnit u x).unit v = s.unit v :=
  PerUnit.get_set_ne _ _ _ _ h

@[simp] theorem State.setAssign_assignOf_self (s : State) (u : UnitNo) (x : Assign) : (s.setAssign u x).assignOf u = x := PerUnit.get_set_self _ _ _

theorem State.setAssign_assignOf_ne (s : State) (u : UnitNo) (x : Assign) (v : UnitNo) (h : v ≠ u) : (s.setAssign u x).assignOf v = s.assignOf v :=
  PerUnit.get_set_ne _ _ _ _ h

@[simp] theorem State.setImage_uib_conv (s : State) (u : UnitNo) (x : Image) : (s.setImage u x).uib.conv = s.uib.conv := rfl
@[simp] theorem State.setImage_uib_images (s : State) (u : UnitNo) (x : Image) :
    (s.setImage u x).uib.images = s.uib.images.set u x := rfl
@[simp] theorem State.setRamp_rmp_timer (s : State) (u : UnitNo) (x : RampUnit) : (s.setRamp u x).rmp.timer = s.rmp.timer := rfl
@[simp] theorem State.setRamp_rmp_crossings (s : State) (u : UnitNo) (x : RampUnit) : (s.setRamp u x).rmp.crossings = s.rmp.crossings := rfl
@[simp] theorem State.setRamp_rmp_units (s : State) (u : UnitNo) (x : RampUnit) :
    (s.setRamp u x).rmp.units = s.rmp.units.set u x := rfl
@[simp] theorem State.setEntry_alc_summary (s : State) (u : UnitNo) (x : Entry) : (s.setEntry u x).alc.summary = s.alc.summary := rfl
@[simp] theorem State.setEntry_alc_entries (s : State) (u : UnitNo) (x : Entry) :
    (s.setEntry u x).alc.entries = s.alc.entries.set u x := rfl
@[simp] theorem State.setUnit_tbs_gateOpen (s : State) (u : UnitNo) (x : UnitEntry) : (s.setUnit u x).tbs.gateOpen = s.tbs.gateOpen := rfl
@[simp] theorem State.setUnit_tbs_plant (s : State) (u : UnitNo) (x : UnitEntry) : (s.setUnit u x).tbs.plant = s.tbs.plant := rfl
@[simp] theorem State.setUnit_tbs_profiles (s : State) (u : UnitNo) (x : UnitEntry) : (s.setUnit u x).tbs.profiles = s.tbs.profiles := rfl
@[simp] theorem State.setUnit_tbs_bands (s : State) (u : UnitNo) (x : UnitEntry) : (s.setUnit u x).tbs.bands = s.tbs.bands := rfl
@[simp] theorem State.setUnit_tbs_meritGen (s : State) (u : UnitNo) (x : UnitEntry) : (s.setUnit u x).tbs.meritGen = s.tbs.meritGen := rfl
@[simp] theorem State.setUnit_tbs_meritPump (s : State) (u : UnitNo) (x : UnitEntry) : (s.setUnit u x).tbs.meritPump = s.tbs.meritPump := rfl
@[simp] theorem State.setUnit_tbs_budgets (s : State) (u : UnitNo) (x : UnitEntry) : (s.setUnit u x).tbs.budgets = s.tbs.budgets := rfl
@[simp] theorem State.setUnit_tbs_units (s : State) (u : UnitNo) (x : UnitEntry) :
    (s.setUnit u x).tbs.units = s.tbs.units.set u x := rfl
@[simp] theorem State.setAssign_dse_engine (s : State) (u : UnitNo) (x : Assign) : (s.setAssign u x).dse.engine = s.dse.engine := rfl
@[simp] theorem State.setAssign_dse_standing (s : State) (u : UnitNo) (x : Assign) : (s.setAssign u x).dse.standing = s.dse.standing := rfl
@[simp] theorem State.setAssign_dse_deferred (s : State) (u : UnitNo) (x : Assign) : (s.setAssign u x).dse.deferred = s.dse.deferred := rfl
@[simp] theorem State.setAssign_dse_guardTmr (s : State) (u : UnitNo) (x : Assign) : (s.setAssign u x).dse.guardTmr = s.dse.guardTmr := rfl
@[simp] theorem State.setAssign_dse_trace (s : State) (u : UnitNo) (x : Assign) : (s.setAssign u x).dse.trace = s.dse.trace := rfl
@[simp] theorem State.setAssign_dse_assign (s : State) (u : UnitNo) (x : Assign) :
    (s.setAssign u x).dse.assign = s.dse.assign.set u x := rfl
@[simp] theorem State.setLock_pra_arb (s : State) (u : Waterway) (x : Lock) : (s.setLock u x).pra.arb = s.pra.arb := rfl
@[simp] theorem State.setLock_pra_holder (s : State) (u : Waterway) (x : Lock) : (s.setLock u x).pra.holder = s.pra.holder := rfl
@[simp] theorem State.setLock_pra_releaseTmr (s : State) (u : Waterway) (x : Lock) : (s.setLock u x).pra.releaseTmr = s.pra.releaseTmr := rfl
@[simp] theorem State.setLock_pra_startQueue (s : State) (u : Waterway) (x : Lock) : (s.setLock u x).pra.startQueue = s.pra.startQueue := rfl
@[simp] theorem State.setLock_pra_locks (s : State) (u : Waterway) (x : Lock) :
    (s.setLock u x).pra.locks = s.pra.locks.set u x := rfl
@[simp] theorem State.setSeq_seqs (s : State) (u : UnitNo) (x : Seq) : (s.setSeq u x).seqs = s.seqs.set u x := rfl

end Sys2Proof.Machine
end

