-- ==== Sys2Proof/Laws/Frame.lean ====
section
/-! SUPPORT. What the operations of the unit sequencers leave alone: a frame that each of them keeps, stated once and
carried from the small operations to a whole turn of a sequencer. -/

namespace Sys2Proof.Machine

/-- What every operation of a sequencer keeps: everything but the sequencers, the arbiter, the setpoints, the command
queue, and reports and flags added to the Report Block. -/
structure SeqFrame (s t : State) : Prop where
  pending   : t.pending = s.pending
  held      : t.held = s.held
  lpu       : t.lpu = { s.lpu with cmds := t.lpu.cmds }
  tbs       : t.tbs = s.tbs
  uib       : t.uib = s.uib
  dse       : t.dse = s.dse
  alc       : t.alc = s.alc
  timer     : t.rmp.timer = s.rmp.timer
  crossings : t.rmp.crossings = s.rmp.crossings
  carried   : t.rpb.carried = s.rpb.carried
  snapshot  : t.rpb.snapshot = s.rpb.snapshot
  queue     : ∃ rs, t.rpb.queue = s.rpb.queue ++ rs
  bound     : s.rpb.queue.length ≤ Config.reportCapacity → t.rpb.queue.length ≤ Config.reportCapacity
  slots     : s.lpu.slotsDistinct → t.lpu.slotsDistinct
  alert     : s.rpb.alertLow = s.alertDue → t.rpb.alertLow = t.alertDue

theorem SeqFrame.refl (s : State) : SeqFrame s s :=
  ⟨rfl, rfl, rfl, rfl, rfl, rfl, rfl, rfl, rfl, rfl, rfl, ⟨[], by simp⟩, id, id, id⟩

theorem SeqFrame.trans {s t r : State} (h : SeqFrame s t) (k : SeqFrame t r) : SeqFrame s r where
  pending := k.pending.trans h.pending
  held := k.held.trans h.held
  lpu := by rw [k.lpu, h.lpu]
  tbs := k.tbs.trans h.tbs
  uib := k.uib.trans h.uib
  dse := k.dse.trans h.dse
  alc := k.alc.trans h.alc
  timer := k.timer.trans h.timer
  crossings := k.crossings.trans h.crossings
  carried := k.carried.trans h.carried
  snapshot := k.snapshot.trans h.snapshot
  queue := by
    obtain ⟨a, ha⟩ := h.queue
    obtain ⟨b, hb⟩ := k.queue
    exact ⟨a ++ b, by rw [hb, ha, List.append_assoc]⟩
  bound := k.bound ∘ h.bound
  slots := k.slots ∘ h.slots
  alert := k.alert ∘ h.alert

-- Operations on the state ---------------------------------------------------------------------------------

/-- PLANT_ALERT_N's condition reads RESET_N, the tables, the sequencers' states and the arbiter's state. -/
theorem alertDue_congr {s t : State} (hh : t.held = s.held) (ht : t.tbs = s.tbs)
    (hs : ∀ u, (t.seq u).state = (s.seq u).state) (ha : t.pra.arb = s.pra.arb) : t.alertDue = s.alertDue := by
  simp only [State.alertDue, State.unit, hh, ht, hs, ha]

theorem driveAlert_due (s : State) : (driveAlert s).rpb.alertLow = (driveAlert s).alertDue := rfl

theorem pushReport_frame (r : Report) (s : State) : SeqFrame s (pushReport r s) := by
  unfold pushReport
  split
  · next h =>
    exact ⟨rfl, rfl, rfl, rfl, rfl, rfl, rfl, rfl, rfl, rfl, rfl, ⟨[r], rfl⟩, fun _ => by
      simpa [State.setRpb] using h, id, id⟩
  · exact ⟨rfl, rfl, rfl, rfl, rfl, rfl, rfl, rfl, rfl, rfl, rfl, ⟨[], by simp [raiseFlag, State.setRpb]⟩, id, id, id⟩

theorem raiseFlag_frame (f : Sticky) (s : State) : SeqFrame s (raiseFlag f s) :=
  ⟨rfl, rfl, rfl, rfl, rfl, rfl, rfl, rfl, rfl, rfl, rfl, ⟨[], by simp [raiseFlag, State.setRpb]⟩, id, id, id⟩

theorem pushUnitState_frame (u : UnitNo) (a b : SeqState) (c : Cause) (s : State) :
    SeqFrame s (pushUnitState u a b c s) := pushReport_frame _ _

/-- A placement keeps the slots distinct (R9). -/
theorem placeIn_slots (w : Waiting) (q : List Waiting) (h : (q.map Waiting.slot).Nodup) :
    ((placeIn w q).map Waiting.slot).Nodup := by
  unfold placeIn
  split
  · rw [List.map_map]
    have : (Waiting.slot ∘ fun x => if x.slot = w.slot then w else x) = Waiting.slot := by
      funext x
      simp only [Function.comp]
      split
      · next hx => exact hx.symm
      · rfl
    rw [this]
    exact h
  · next hx =>
    simp only [List.map_append, List.map_cons, List.map_nil]
    rw [List.nodup_append]
    refine ⟨h, by simp, ?_⟩
    rintro a ha b hb rfl
    simp only [List.mem_singleton] at hb
    subst hb
    obtain ⟨x, hx1, hx2⟩ := List.mem_map.mp ha
    exact hx (List.any_eq_true.mpr ⟨x, hx1, by simp [hx2]⟩)

theorem place_frame (slot : Slot) (dest : Nat) (cmd : Command) (s : State) : SeqFrame s (place slot dest cmd s) :=
  ⟨rfl, rfl, rfl, rfl, rfl, rfl, rfl, rfl, rfl, rfl, rfl, ⟨[], by simp [place]⟩, id, placeIn_slots _ _, id⟩

theorem placeStage_frame (u : UnitNo) (c : Command) (s : State) : SeqFrame s (placeStage u c s) := place_frame _ _ _ _

theorem placeConverter_frame (c : Command) (s : State) : SeqFrame s (placeConverter c s) := place_frame _ _ _ _

theorem filter_slots (p : Waiting → Bool) (q : List Waiting) (h : (q.map Waiting.slot).Nodup) :
    ((q.filter p).map Waiting.slot).Nodup :=
  h.sublist (List.Sublist.map _ List.filter_sublist)

theorem withdrawStage_frame (u : UnitNo) (s : State) : SeqFrame s (withdrawStage u s) :=
  ⟨rfl, rfl, rfl, rfl, rfl, rfl, rfl, rfl, rfl, rfl, rfl, ⟨[], by simp [withdrawStage]⟩, id, filter_slots _ _, id⟩

theorem setRamp_frame (u : UnitNo) (r : RampUnit) (s : State) : SeqFrame s (s.setRamp u r) :=
  ⟨rfl, rfl, rfl, rfl, rfl, rfl, rfl, rfl, rfl, rfl, rfl, ⟨[], by simp⟩, id, id, id⟩

theorem placeSetpoint_frame (u : UnitNo) (v : Nat) (s : State) : SeqFrame s (placeSetpoint u v s) :=
  (place_frame _ _ _ _).trans (setRamp_frame _ _ _)

theorem initSetpoint_frame (u : UnitNo) (s : State) : SeqFrame s (initSetpoint u s) := by
  unfold initSetpoint
  split
  · exact (setRamp_frame _ _ _).trans (placeSetpoint_frame _ _ _)
  · exact .refl s

/-- A sequencer record that keeps its state. -/
theorem setSeq_frame (u : UnitNo) (q : Seq) (s : State) (h : q.state = (s.seq u).state) : SeqFrame s (s.setSeq u q) := by
  refine ⟨rfl, rfl, rfl, rfl, rfl, rfl, rfl, rfl, rfl, rfl, rfl, ⟨[], by simp⟩, id, id, fun k => ?_⟩
  rw [State.setSeq_rpb, k]
  refine (alertDue_congr (s := s) (t := s.setSeq u q) rfl rfl (fun v => ?_) rfl).symm
  by_cases hv : v = u
  · subst hv
    simp [h]
  · simp [State.setSeq_seq_ne, hv]

/-- The arbiter's records other than its state. -/
theorem setPra_frame (p : Pra) (s : State) (h : p.arb = s.pra.arb) : SeqFrame s (s.setPra p) := by
  refine ⟨rfl, rfl, rfl, rfl, rfl, rfl, rfl, rfl, rfl, rfl, rfl, ⟨[], by simp⟩, id, id, fun k => ?_⟩
  rw [State.setPra_rpb, k]
  exact (alertDue_congr (s := s) (t := s.setPra p) rfl rfl (fun _ => rfl) h).symm

theorem setLock_frame (w : Waterway) (l : Lock) (s : State) : SeqFrame s (s.setLock w l) := by
  refine ⟨rfl, rfl, rfl, rfl, rfl, rfl, rfl, rfl, rfl, rfl, rfl, ⟨[], by simp⟩, id, id, fun k => ?_⟩
  rw [State.setLock_rpb, k]
  exact (alertDue_congr (s := s) (t := s.setLock w l) rfl rfl (fun _ => rfl) (by simp)).symm

theorem setArbiter_frame (c : ConvState) (s : State) : SeqFrame s (setArbiter c s) :=
  ⟨rfl, rfl, rfl, rfl, rfl, rfl, rfl, rfl, rfl, rfl, rfl, ⟨[], by simp [setArbiter, driveAlert]⟩, id, id,
    fun _ => driveAlert_due _⟩

-- Operations on an event ----------------------------------------------------------------------------------

/-- A sequencer's record rewritten without a change of state. -/
theorem evSetSeq_frame (u : UnitNo) (f : Seq → Seq) (e : Ev) (h : (f (e.s.seq u)).state = (e.s.seq u).state) :
    SeqFrame e.s (e.setSeq u f).s := setSeq_frame _ _ _ h

theorem moveTo_frame (u : UnitNo) (n : SeqState) (e : Ev) : SeqFrame e.s (moveTo u n e).s := by
  refine ⟨?_, ?_, ?_, ?_, ?_, ?_, ?_, ?_, ?_, ?_, ?_, ⟨[], ?_⟩, ?_, ?_, fun _ => driveAlert_due _⟩ <;>
    (simp only [moveTo]; split <;> simp [driveAlert])

theorem enterTimed_frame (u : UnitNo) (n : SeqState) (e : Ev) : SeqFrame e.s (enterTimed u n e).s := by
  have h1 := moveTo_frame u n e
  have h2 := evSetSeq_frame u
    (fun q => { q with prior := (e.s.image u).stage, stageTimer := some ((e.s.profileOf u).timeout n) })
    (moveTo u n e) rfl
  unfold enterTimed
  dsimp only
  split
  · exact (h1.trans h2).trans (placeStage_frame _ _ _)
  · exact h1.trans h2

theorem grantLock_frame (u : UnitNo) (e : Ev) : SeqFrame e.s (grantLock u e).s := by
  unfold grantLock
  split <;> exact enterTimed_frame _ _ _

theorem requestLock_frame (u : UnitNo) (e : Ev) : SeqFrame e.s (requestLock u e).s := by
  unfold requestLock
  dsimp only
  split
  · refine SeqFrame.trans ?_ (grantLock_frame _ _)
    exact setLock_frame _ _ _
  · exact setLock_frame _ _ _

theorem releaseLock_frame (u : UnitNo) (e : Ev) : SeqFrame e.s (releaseLock u e).s := by
  unfold releaseLock
  dsimp only
  split
  · split
    · exact setLock_frame _ _ _
    · refine SeqFrame.trans ?_ (grantLock_frame _ _)
      exact setLock_frame _ _ _
  · exact .refl _

theorem enterLockwait_frame (u : UnitNo) (n : SeqState) (o : Origin) (e : Ev) :
    SeqFrame e.s (enterLockwait u n o e).s :=
  ((enterTimed_frame u n e).trans (evSetSeq_frame u _ _ rfl)).trans (requestLock_frame _ _)

theorem leaveWaits_frame (u : UnitNo) (e : Ev) : SeqFrame e.s (leaveWaits u e).s :=
  (setLock_frame _ _ _).trans (setPra_frame _ _ rfl)

theorem endGrant_frame (u : UnitNo) (e : Ev) : SeqFrame e.s (endGrant u e).s := by
  unfold endGrant
  split
  · exact ((placeConverter_frame .convRelease e.s).trans (setPra_frame
      { (placeConverter .convRelease e.s).pra with
        holder := none, releaseTmr := some (placeConverter .convRelease e.s).tbs.plant.releaseTime } _ rfl)).trans
      (setArbiter_frame _ _)
  · exact .refl _

theorem grantConverter_frame (e : Ev) : SeqFrame e.s (grantConverter e).s := by
  unfold grantConverter
  split
  · split
    · exact .refl _
    · next h rest _ =>
      refine SeqFrame.trans ?_ (enterTimed_frame h .pRunup _)
      exact ((setPra_frame { e.s.pra with holder := some h, startQueue := rest } e.s rfl).trans
        (placeConverter_frame _ _)).trans (setArbiter_frame _ _)
  · exact .refl _

theorem joinStartQueue_frame (u : UnitNo) (e : Ev) : SeqFrame e.s (joinStartQueue u e).s := by
  unfold joinStartQueue
  refine SeqFrame.trans ?_ (grantConverter_frame _)
  refine SeqFrame.trans (enterTimed_frame u .pConvwait e) ?_
  exact setPra_frame _ _ rfl

theorem giveUp_frame (u : UnitNo) (e : Ev) : SeqFrame e.s (giveUp u e).s :=
  ((leaveWaits_frame u e).trans (releaseLock_frame u _)).trans (endGrant_frame u _)

theorem enterStopping_frame (u : UnitNo) (e : Ev) : SeqFrame e.s (enterStopping u e).s :=
  ((enterTimed_frame u .stopping e).trans (evSetSeq_frame u _ _ rfl)).trans (giveUp_frame u _)

theorem stopWithReport_frame (u : UnitNo) (c : Cause) (e : Ev) : SeqFrame e.s (stopWithReport u c e).s :=
  (enterStopping_frame u e).trans (pushUnitState_frame _ _ _ _ _)

theorem enterTripped_frame (u : UnitNo) (c : Cause) (stop : Bool) (e : Ev) : SeqFrame e.s (enterTripped u c stop e).s := by
  have h0 : SeqFrame e.s (if stop then e.map (placeStage u .stop) else e).s := by
    split
    · exact placeStage_frame _ _ _
    · exact .refl _
  exact (((h0.trans (moveTo_frame u .tripped _)).trans (evSetSeq_frame u Seq.stopTimers _ rfl)).trans
    (giveUp_frame u _)).trans (pushUnitState_frame _ _ _ _ _)

theorem enterLocal_frame (u : UnitNo) (e : Ev) : SeqFrame e.s (enterLocal u e).s :=
  ((((moveTo_frame u .localCmd e).trans (evSetSeq_frame u Seq.stopTimers _ rfl)).trans (giveUp_frame u _)).trans
    (withdrawStage_frame u _)).trans (pushUnitState_frame _ _ _ _ _)

theorem lingerOrStop_frame (u : UnitNo) (e : Ev) : SeqFrame e.s (lingerOrStop u e).s := by
  unfold lingerOrStop
  split
  · exact evSetSeq_frame _ _ _ rfl
  · exact enterStopping_frame _ _

theorem stopLinger_frame (u : UnitNo) (e : Ev) : SeqFrame e.s (stopLinger u e).s := evSetSeq_frame _ _ _ rfl

theorem actStable_frame (u : UnitNo) (e : Ev) : SeqFrame e.s (actStable u e).s := by
  unfold actStable
  split <;> first
    | exact .refl _
    | exact enterTimed_frame _ _ _
    | exact enterStopping_frame _ _
    | exact enterLockwait_frame _ _ _ _
    | exact stopLinger_frame _ _
    | exact lingerOrStop_frame _ _
    | (split <;> first
        | exact .refl _
        | exact enterTimed_frame _ _ _
        | exact enterLockwait_frame _ _ _ _
        | exact enterStopping_frame _ _)

theorem returnToOrigin_frame (u : UnitNo) (c : Cause) (e : Ev) : SeqFrame e.s (returnToOrigin u c e).s :=
  ((leaveWaits_frame u e).trans (moveTo_frame u _ _)).trans (pushUnitState_frame _ _ _ _ _)

theorem act_frame (u : UnitNo) (e : Ev) : SeqFrame e.s (act u e).s := by
  unfold act
  dsimp only
  split
  · exact actStable_frame _ _
  · split
    · exact .refl _
    · split
      · exact (returnToOrigin_frame _ _ _).trans (actStable_frame _ _)
      · split
        · exact stopWithReport_frame _ _ _
        · exact .refl _

theorem trigger_s (b : Bool) (e : Ev) : (e.trigger b).s = e.s := rfl

theorem addDue_s (u : UnitNo) (e : Ev) : (e.addDue u).s = e.s := rfl

theorem adopt_frame (u : UnitNo) (e : Ev) : SeqFrame e.s (adopt u e).s := by
  unfold adopt
  dsimp only
  rw [addDue_s, trigger_s]
  have h0 := (moveTo_frame u (adoptedState (e.s.image u)) e).trans (evSetSeq_frame u
    (fun q => { q.stopTimers with
      pendLockout := (e.s.image u).perm.lockout.val && adoptedState (e.s.image u) != .still }) _ rfl)
  refine h0.trans ?_
  generalize (moveTo u (adoptedState (e.s.image u)) e).setSeq u _ = e0
  have h1 : SeqFrame e0.s (if adoptedState (e.s.image u) = .localCmd then e0.map (withdrawStage u) else e0).s := by
    split
    · exact withdrawStage_frame _ _
    · exact .refl _
  refine h1.trans ?_
  generalize (if adoptedState (e.s.image u) = .localCmd then e0.map (withdrawStage u) else e0) = e1
  split <;> split <;> first
    | exact .refl _
    | exact pushUnitState_frame _ _ _ _ _
    | exact initSetpoint_frame _ _
    | exact (pushUnitState_frame _ _ _ _ _).trans (initSetpoint_frame _ _)

theorem arriveOn_frame (u : UnitNo) (n : SeqState) (e : Ev) : SeqFrame e.s (arriveOn u n e).s := by
  unfold arriveOn
  dsimp only
  refine SeqFrame.trans ?_ (actStable_frame _ _)
  rw [trigger_s]
  have h := ((((moveTo_frame u n e).trans (releaseLock_frame u _)).trans
    (evSetSeq_frame u (fun q => { q with minRun := some (e.s.unit u).minRun }) _ rfl))).trans
    (pushUnitState_frame u (e.state u) n .reached _)
  split
  · exact h.trans (initSetpoint_frame _ _)
  · exact h

theorem arriveAir_frame (u : UnitNo) (n : SeqState) (e : Ev) : SeqFrame e.s (arriveAir u n e).s := by
  unfold arriveAir
  refine SeqFrame.trans ?_ (actStable_frame _ _)
  exact ((moveTo_frame u n e).trans (endGrant_frame u _)).trans (pushUnitState_frame _ _ _ _ _)

theorem arriveStill_frame (u : UnitNo) (e : Ev) : SeqFrame e.s (arriveStill u e).s := by
  unfold arriveStill
  dsimp only
  refine SeqFrame.trans ?_ (actStable_frame _ _)
  rw [trigger_s]
  exact ((moveTo_frame u .still e).trans (evSetSeq_frame u
    (fun q => { q with minStill := some (e.s.unit u).minStill }) _ rfl)).trans (pushUnitState_frame _ _ _ _ _)

theorem advance_frame (u : UnitNo) (e : Ev) : SeqFrame e.s (advance u e).s := by
  unfold advance
  split
  · exact enterTimed_frame _ _ _
  · exact arriveOn_frame _ _ _
  · exact arriveOn_frame _ _ _
  · exact arriveAir_frame _ _ _
  · exact joinStartQueue_frame _ _
  · exact arriveAir_frame _ _ _
  · exact arriveOn_frame _ _ _
  · exact arriveAir_frame _ _ _
  · exact arriveStill_frame _ _
  · exact .refl _

theorem takeTimed_frame (u : UnitNo) (st : Stage) (f : Byte) (e : Ev) : SeqFrame e.s (takeTimed u st f e).s := by
  unfold takeTimed
  dsimp only
  repeat' split
  all_goals first
    | exact enterTripped_frame _ _ _ _
    | exact advance_frame _ _
    | exact .refl _

theorem takeStable_frame (u : UnitNo) (st : Stage) (f : Byte) (e : Ev) : SeqFrame e.s (takeStable u st f e).s := by
  unfold takeStable
  repeat' split
  all_goals first
    | exact enterTripped_frame _ _ _ _
    | exact .refl _

theorem takeUnsettled_frame (u : UnitNo) (st : Stage) (f : Byte) (e : Ev) :
    SeqFrame e.s (takeUnsettled u st f e).s := by
  unfold takeUnsettled
  split
  · exact adopt_frame _ _
  · exact .refl _

theorem takeStage_frame (u : UnitNo) (st : Stage) (f : Byte) (e : Ev) : SeqFrame e.s (takeStage u st f e).s := by
  unfold takeStage
  dsimp only
  repeat' split
  all_goals first
    | exact takeStable_frame _ _ _ _
    | exact takeTimed_frame _ _ _ _
    | exact takeUnsettled_frame _ _ _ _
    | exact .refl _

theorem takeRemote_frame (u : UnitNo) (a : Bool) (e : Ev) : SeqFrame e.s (takeRemote u a e).s := by
  unfold takeRemote
  dsimp only
  repeat' split
  all_goals first
    | exact adopt_frame _ _
    | exact enterLocal_frame _ _
    | exact .refl _

theorem takeLockout_frame (u : UnitNo) (a : Bool) (e : Ev) : SeqFrame e.s (takeLockout u a e).s := by
  unfold takeLockout
  dsimp only
  repeat' split
  all_goals first
    | exact .refl _
    | exact (evSetSeq_frame u _ e rfl).trans (enterStopping_frame _ _)
    | exact (evSetSeq_frame u _ e rfl).trans (actStable_frame _ _)
    | exact evSetSeq_frame _ _ _ rfl

theorem handToSequencer_frame (u : UnitNo) (i n : Image) (st : Stage) (e : Ev) :
    SeqFrame e.s (handToSequencer u i n st e).s := by
  unfold handToSequencer
  dsimp only
  refine SeqFrame.trans ?_ (takeStage_frame _ _ _ _)
  split <;> split <;> first
    | exact .refl _
    | exact takeLockout_frame _ _ _
    | exact takeRemote_frame _ _ _
    | exact (takeRemote_frame _ _ _).trans (takeLockout_frame _ _ _)

theorem actTurn_frame (old : PerUnit Entry) (e : Ev) (u : UnitNo) : SeqFrame e.s (actTurn old e u).s := by
  unfold actTurn
  dsimp only
  repeat' split
  all_goals first
    | exact act_frame _ _
    | exact enterStopping_frame _ _
    | exact .refl _

theorem foldl_frame {β : Type} (f : Ev → β → Ev) (h : ∀ e b, SeqFrame e.s (f e b).s) (l : List β) (e : Ev) :
    SeqFrame e.s (l.foldl f e).s := by
  induction l generalizing e with
  | nil => exact .refl _
  | cons b l ih => exact (h e b).trans (ih _)

theorem actAll_frame (old : PerUnit Entry) (e : Ev) : SeqFrame e.s (actAll old e).s :=
  foldl_frame _ (actTurn_frame old) _ _

theorem adoptAll_frame (us : List UnitNo) (e : Ev) : SeqFrame e.s (adoptAll us e).s :=
  foldl_frame _ (fun e u => adopt_frame u e) _ _

theorem clearTrip_frame (u : UnitNo) (e : Ev) : SeqFrame e.s (clearTrip u e).s := by
  unfold clearTrip
  dsimp only
  have h := ((moveTo_frame u .still e).trans (evSetSeq_frame u
    (fun q => { q with minStill := some (e.s.unit u).minStill }) _ rfl)).trans
    (pushUnitState_frame u .tripped .still .cleared _)
  split
  · exact h
  · refine SeqFrame.trans ?_ (enterLocal_frame _ _)
    exact h

theorem lockwaitExpired_frame (u : UnitNo) (e : Ev) : SeqFrame e.s (lockwaitExpired u e).s := by
  unfold lockwaitExpired
  dsimp only
  split
  · rw [trigger_s]
    exact (returnToOrigin_frame _ _ _).trans (evSetSeq_frame _ _ _ rfl)
  · exact (returnToOrigin_frame _ _ _).trans (actStable_frame _ _)

theorem converterStep_frame (s : State) : SeqFrame s (converterStep s) := by
  unfold converterStep
  dsimp only
  repeat' split
  all_goals first
    | exact .refl _
    | exact setArbiter_frame _ _
    | exact (setPra_frame { s.pra with releaseTmr := none } s rfl).trans (setArbiter_frame _ _)

theorem converterFault_frame (e : Ev) : SeqFrame e.s (converterFault e).s := by
  have h : SeqFrame e.s (setArbiter .faulted (raiseFlag .convFault e.s)) :=
    (raiseFlag_frame _ _).trans (setArbiter_frame _ _)
  have h2 := (h.trans (placeConverter_frame .convRelease _)).trans (setPra_frame
    { (placeConverter .convRelease (setArbiter .faulted (raiseFlag .convFault e.s))).pra with holder := none } _ rfl)
  unfold converterFault
  dsimp only
  split
  · exact h
  · split
    · refine SeqFrame.trans ?_ (stopWithReport_frame _ _ _)
      exact h2
    · exact h2
  · split
    · refine SeqFrame.trans ?_ (stopWithReport_frame _ _ _)
      exact h2
    · exact h2
  · exact h.trans (setPra_frame _ _ rfl)
  · exact .refl _

end Sys2Proof.Machine
end

