-- ==== Sys2Proof/Laws/Events.lean ====
section
/-! SUPPORT. What a whole event leaves alone once its triggers, the sequencers' turns and the settling check are taken
in, and what ends at once: an event that owes nothing is its own end. -/

namespace Sys2Proof.Machine

/-- What the end of an event keeps: as `SeqFrame`, but for the plan and the standing order record. -/
structure EventFrame (s t : State) : Prop where
  pending   : t.pending = s.pending
  held      : t.held = s.held
  lpu       : t.lpu = { s.lpu with cmds := t.lpu.cmds }
  tbs       : t.tbs = s.tbs
  uib       : t.uib = s.uib
  dse       : t.dse = { s.dse with standing := t.dse.standing }
  timer     : t.rmp.timer = s.rmp.timer
  crossings : t.rmp.crossings = s.rmp.crossings
  carried   : t.rpb.carried = s.rpb.carried
  snapshot  : t.rpb.snapshot = s.rpb.snapshot
  queue     : ∃ rs, t.rpb.queue = s.rpb.queue ++ rs
  bound     : s.rpb.queue.length ≤ Config.reportCapacity → t.rpb.queue.length ≤ Config.reportCapacity
  slots     : s.lpu.slotsDistinct → t.lpu.slotsDistinct
  alert     : s.rpb.alertLow = s.alertDue → t.rpb.alertLow = t.alertDue

theorem SeqFrame.event {s t : State} (h : SeqFrame s t) : EventFrame s t where
  pending := h.pending
  held := h.held
  lpu := h.lpu
  tbs := h.tbs
  uib := h.uib
  dse := by rw [h.dse]
  timer := h.timer
  crossings := h.crossings
  carried := h.carried
  snapshot := h.snapshot
  queue := h.queue
  bound := h.bound
  slots := h.slots
  alert := h.alert

theorem EventFrame.refl (s : State) : EventFrame s s := (SeqFrame.refl s).event

theorem EventFrame.trans {s t r : State} (h : EventFrame s t) (k : EventFrame t r) : EventFrame s r where
  pending := k.pending.trans h.pending
  held := k.held.trans h.held
  lpu := by rw [k.lpu, h.lpu]
  tbs := k.tbs.trans h.tbs
  uib := k.uib.trans h.uib
  dse := by rw [k.dse, h.dse]
  timer := k.timer.trans h.timer
  crossings := k.crossings.trans h.crossings
  carried := k.carried.trans h.carried
  snapshot := k.snapshot.trans h.snapshot
  queue := by
    obtain ⟨a, ha⟩ := h.queue
    obtain ⟨b, hb⟩ := k.queue
    exact ⟨a ++ b, by rw [hb, ha, List.append_assoc]⟩
  bound := k.bound ∘ h.bound
  slots := k.slots ∘ h.slots
  alert := k.alert ∘ h.alert

/-- Writing the plan and the standing order record leaves the rest. -/
theorem writePlan_frame (s : State) (a : Alc) (r : Standing) :
    EventFrame s { s with alc := a, dse := { s.dse with standing := r } } :=
  ⟨rfl, rfl, rfl, rfl, rfl, rfl, rfl, rfl, rfl, rfl, ⟨[], by simp⟩, id, id, id⟩

theorem setStanding_frame (s : State) (r : Standing) : EventFrame s (setStanding r s) := writePlan_frame s s.alc r

theorem setEntry_frame (u : UnitNo) (n : Entry) (s : State) : EventFrame s (s.setEntry u n) :=
  ⟨rfl, rfl, rfl, rfl, rfl, rfl, rfl, rfl, rfl, rfl, ⟨[], by simp⟩, id, id, id⟩

theorem allocate_frame (s : State) : EventFrame s (allocate s) := writePlan_frame s _ _

theorem replan_frame (s : State) : EventFrame s (replan s) :=
  ((allocate_frame s).trans (setStanding_frame _ _)).trans (pushReport_frame _ _).event

theorem settleCheck_frame (s : State) : EventFrame s (settleCheck s) := by
  unfold settleCheck
  split
  · exact (setStanding_frame _ _).trans (pushReport_frame _ _).event
  · exact .refl s

theorem closeSettling_frame (e : Ev) : EventFrame e.s (closeSettling e) := by
  unfold closeSettling
  split
  · exact settleCheck_frame _
  · exact .refl _

theorem closeEvent_frame (e : Ev) : EventFrame e.s (closeEvent e) := by
  unfold closeEvent
  refine EventFrame.trans ?_ (closeSettling_frame _)
  refine EventFrame.trans ?_ (actAll_frame _ _).event
  split
  · exact replan_frame _
  · exact .refl _

theorem reexamine_frame (u : UnitNo) (e : Ev) : EventFrame e.s (reexamine u e).s := by
  unfold reexamine
  dsimp only
  split
  · exact (setEntry_frame _ _ _).trans (pushReport_frame _ _).event
  · exact setEntry_frame _ _ _

theorem reclampSetpoint_frame (u : UnitNo) (s : State) : SeqFrame s (reclampSetpoint u s) := by
  unfold reclampSetpoint
  split
  · split
    · exact (setRamp_frame _ _ _).trans (placeSetpoint_frame _ _ _)
    · exact initSetpoint_frame _ _
    · exact setRamp_frame _ _ _
  · exact .refl s

theorem bandChange_frame (u : UnitNo) (e : Ev) : EventFrame e.s (bandChange u e).s := by
  unfold bandChange
  dsimp only
  rw [trigger_s]
  have h : EventFrame e.s (Ev.map (reclampSetpoint u) (reexamine u e)).s :=
    (reexamine_frame u e).trans (reclampSetpoint_frame u _).event
  split
  · exact h
  · exact h.trans (act_frame _ _).event

/-- An event that owes no action, no run and no settling check ends as it stands. -/
theorem closeEvent_idle (e : Ev) (hd : e.due = []) (ht : (e.trig && e.s.orderStands) = false) (hs : e.settle = false) :
    closeEvent e = e.s := by
  have turn : ∀ u, actTurn e.s.alc.entries e u = e := by
    intro u
    unfold actTurn
    dsimp only
    split
    · next h => simp [hd, State.entry] at h
    · split
      · next h =>
        obtain ⟨-, h1, h2, -⟩ := h
        rw [State.entry] at h1
        simp [h1] at h2
      · rfl
  have all : ∀ l : List UnitNo, l.foldl (actTurn e.s.alc.entries) e = e := by
    intro l
    induction l with
    | nil => rfl
    | cons u l ih => rw [List.foldl_cons, turn, ih]
  simp only [closeEvent, ht, Bool.false_eq_true, if_false, actAll, all, closeSettling, hs]

/-- The taking of an order changes, beside the plan and the standing order record, the guard timer alone. -/
theorem takeOrder_frame (o : Order) (s : State) :
    EventFrame { s with dse := { s.dse with
      guardTmr := if 0 < s.tbs.plant.guardTime then some s.tbs.plant.guardTime else s.dse.guardTmr } }
      (takeOrder o s) := by
  unfold takeOrder
  dsimp only
  refine EventFrame.trans ?_ (closeSettling_frame _)
  refine EventFrame.trans ?_ (actAll_frame _ _).event
  have h0 : ∀ r, EventFrame s (allocate (setStanding r s)) := fun r =>
    (setStanding_frame s r).trans (allocate_frame _)
  generalize hr : ({ s.dse.standing with state := OrderState.active, order := o } : Standing) = r
  have h1 := (h0 r).trans (pushReport_frame (orderResultOf o (if o.clamped then .clamped else .accepted)
    (some (allocate (setStanding r s)).alc.summary)) _).event
  generalize pushReport (orderResultOf o (if o.clamped then .clamped else .accepted)
    (some (allocate (setStanding r s)).alc.summary)) (allocate (setStanding r s)) = s2 at h1 ⊢
  have h2 : EventFrame s (if s.dse.standing.state = .none then s2
      else pushReport (orderResultOf s.dse.standing.order .superseded none) s2) := by
    split
    · exact h1
    · exact h1.trans (pushReport_frame _ _).event
  generalize (if s.dse.standing.state = .none then s2
      else pushReport (orderResultOf s.dse.standing.order .superseded none) s2) = s3 at h2 ⊢
  split
  · exact ⟨h2.pending, h2.held, h2.lpu, h2.tbs, h2.uib, by
      show ({ s3.dse with guardTmr := some s.tbs.plant.guardTime } : Dse) = _
      rw [h2.dse]
      rfl, h2.timer, h2.crossings, h2.carried, h2.snapshot, h2.queue, h2.bound,
      h2.slots, h2.alert⟩
  · exact ⟨h2.pending, h2.held, h2.lpu, h2.tbs, h2.uib, h2.dse, h2.timer, h2.crossings,
      h2.carried, h2.snapshot, h2.queue, h2.bound, h2.slots, h2.alert⟩

/-- What the end of an event keeps of the standing order: its order, and whether one stands. -/
theorem closeSettling_order (e : Ev) : (closeSettling e).dse.standing.order = e.s.dse.standing.order := by
  unfold closeSettling settleCheck
  split
  · split
    · simp [(pushReport_frame _ _).dse, setOrderState, setStanding]
    · rfl
  · rfl

theorem closeSettling_none (e : Ev) : (closeSettling e).dse.standing.state = .none ↔ e.s.dse.standing.state = .none := by
  unfold closeSettling settleCheck
  split
  · split
    · next h => simp [(pushReport_frame _ _).dse, setOrderState, setStanding, h.2.1]
    · rfl
  · rfl

theorem closeEvent_order (e : Ev) : (closeEvent e).dse.standing.order = e.s.dse.standing.order := by
  unfold closeEvent
  rw [closeSettling_order, (actAll_frame _ _).dse]
  split
  · simp [Ev.map, replan, (pushReport_frame _ _).dse, setOrderState, setStanding, allocate]
  · rfl

theorem closeEvent_none (e : Ev) : (closeEvent e).dse.standing.state = .none ↔ e.s.dse.standing.state = .none := by
  unfold closeEvent
  rw [closeSettling_none, (actAll_frame _ _).dse]
  split
  · next h =>
    simp only [Bool.and_eq_true, State.orderStands, bne_iff_ne, ne_eq] at h
    simp [Ev.map, replan, (pushReport_frame _ _).dse, setOrderState, setStanding, allocate, h.2.2]
  · rfl

theorem closeSettling_alc (e : Ev) : (closeSettling e).alc = e.s.alc := by
  unfold closeSettling settleCheck
  split
  · split
    · simp [(pushReport_frame _ _).alc, setOrderState, setStanding]
    · rfl
  · rfl

/-- The plan at the end of an event: a run's, when a trigger was raised under a standing order, else as it was. -/
theorem closeEvent_alc (e : Ev) : (closeEvent e).alc = if e.trig && e.s.orderStands then plan e.s else e.s.alc := by
  unfold closeEvent
  rw [closeSettling_alc, (actAll_frame _ _).alc]
  split <;> simp [Ev.map, replan, (pushReport_frame _ _).alc, setOrderState, setStanding, allocate]

-- Reports and runs (R85, R185) ----------------------------------------------------------------------------

/-- A report pushed is queued, or REPORT_LOST is raised (R185). -/
theorem queued_pushReport (r : Report) (s : State) : Queued r (pushReport r s) := by
  unfold pushReport Queued
  split
  · exact .inl (by simp [State.setRpb])
  · exact .inr (by simp [raiseFlag, State.setRpb, Sticky.bit])

/-- What was queued stays queued when another report is pushed. -/
theorem Queued.pushReport {r x : Report} {s : State} (h : Queued r s) : Queued r (pushReport x s) := by
  unfold Machine.pushReport
  unfold Queued at *
  split
  · exact h.imp (fun m => by simp [State.setRpb, m]) fun f => by simpa [State.setRpb] using f
  · exact h.imp (fun m => by simpa [raiseFlag, State.setRpb] using m) fun f => by simp [raiseFlag, State.setRpb, f]

/-- All that a run other than the one at a taking does to the plan and the Dispatch Engine, and its report (R81, R85). -/
theorem replan_spec (s : State) :
    (replan s).alc = plan s ∧
    (replan s).dse = { s.dse with standing := { s.dse.standing with state := .active, summary := (plan s).summary } } ∧
    Queued (replannedReport s (replan s)) (replan s) := by
  have h := pushReport_frame (orderResultOf s.dse.standing.order .replanned (some (plan s).summary))
    (setOrderState .active (allocate s))
  have ha : (replan s).alc = plan s := h.alc
  have hr : replannedReport s (replan s) = orderResultOf s.dse.standing.order .replanned (some (plan s).summary) := by
    rw [replannedReport, ha]; rfl
  exact ⟨ha, h.dse, hr ▸ queued_pushReport _ _⟩

-- The terms of the statements ----------------------------------------------------------------------------

/-- The report queue's one operation is what the statements call `reported` (R185). -/
theorem pushReport_eq_reported (r : Report) (s : State) : pushReport r s = s.reported r := by
  show (if s.rpb.queue.length < 16 then _ else _) = (if s.rpb.queue.length < 16 then _ else _)
  by_cases h : s.rpb.queue.length < 16
  · rw [if_pos h, if_pos h]; rfl
  · rw [if_neg h, if_neg h]; cases ht : s.lpu.upTx <;> simp [raiseFlag, State.withFlag, State.setRpb, Sticky.bit, State.sendingUpHold, ht]

/-- A run other than the one at a taking is what the statements call `afterRun` (R81, R85). -/
theorem replan_eq_afterRun (s : State) : replan s = s.afterRun := pushReport_eq_reported _ _

/-- The settling check's condition on one unit, as R82 gives it. -/
theorem unitSettled_iff (s : State) (u : UnitNo) : unitSettled s u = true ↔
    ((s.unit u).present = true → s.assignOf u = .auto →
      ((s.entry u).mode = .gen → (s.seq u).state = .gOn) ∧ ((s.entry u).mode = .pump → (s.seq u).state = .pOn) ∧
      ((s.entry u).mode = .still →
        (s.seq u).state = .still ∨ (s.seq u).state = .tripped ∨ (s.seq u).state = .localCmd) ∧
      ((s.seq u).state = .gOn → (s.ramp u).setpoint = (s.entry u).share)) := by
  unfold unitSettled
  cases (s.unit u).present <;> cases s.assignOf u <;> cases (s.entry u).mode <;>
    cases (s.seq u).state <;> simp

/-- An event ends with the settling check where it took a sequencer into a stable state (R82). -/
theorem closeSettling_settlesIf (e : Ev) : SettlesIf (e.settle = true) e.s (closeSettling e) := by
  have h : UnitNo.all.all (unitSettled e.s) = true ↔ PlanReached e.s := by
    rw [List.all_eq_true]
    exact ⟨fun h u => (unitSettled_iff _ u).mp (h u (by cases u <;> decide)), fun h u _ => (unitSettled_iff _ u).mpr (h u)⟩
  unfold SettlesIf closeSettling settleCheck
  refine ⟨fun ⟨h1, h2, h3, h4⟩ => ?_, fun hn => ?_⟩
  · rw [if_pos h1, if_pos ⟨h2, h3, h.mpr h4⟩]
    exact pushReport_eq_reported _ _
  · split
    · next h1 => rw [if_neg fun k => hn ⟨h1, k.1, k.2.1, h.mp k.2.2⟩]
    · rfl

/-- Where a start goes on for a planned mode (R126, R127). -/
theorem continues_iff (q : Seq) (m : PlanMode) : continues q.state q.origin m = true ↔ GoesOn q m := by
  obtain ⟨n, o, -, -, -, -, -, -⟩ := q
  cases n <;> cases m <;> simp [continues, GoesOn] <;> cases o <;> simp

/-- The waits that end in their origin, as the acting sequencer tells them (R127). -/
theorem returns_iff (q : Seq) (m : PlanMode) :
    Returns q m ↔ (q.state = .gLockwait ∨ q.state = .pLockwait) ∧ continues q.state q.origin m = false := by
  rw [Returns, ← continues_iff, Bool.not_eq_true]

-- The active rate class (R83, R169) ------------------------------------------------------------------------

/-- Under a hold plan as installed every unit ramps at class 0 (R83, R169). -/
theorem activeClass_holdPlan (s : State) (u : UnitNo) : activeClass (holdPlan s) u = 0 := by
  have h : (heldEntry s u).cls = 0 := by
    unfold heldEntry
    split <;> first | rfl | (split <;> rfl)
  cases u <;> exact h

end Sys2Proof.Machine
end

