-- ==== Sys2Proof/Laws/Apart.lean ====
section
/-! SUPPORT. What the operations of one unit's sequencer leave of another unit that waits for nothing: its sequencer, its
ramp state and its waiting stage command. -/

namespace Sys2Proof.Machine

/-- The unit stands in no waiter list and not in the start queue. -/
def WaitsNowhere (u : UnitNo) (s : State) : Prop :=
  (∀ w, u ∉ (s.pra.locks.get w).waiters) ∧ u ∉ s.pra.startQueue

/-- The command waiting in the unit's stage slot. -/
def stageSlot (u : UnitNo) (s : State) : List Waiting := s.lpu.cmds.filter fun w => w.slot == .stage u

/-- A unit that waits nowhere goes on waiting nowhere and keeps its sequencer, ramp state and stage slot. -/
def Apart (u : UnitNo) (s t : State) : Prop :=
  WaitsNowhere u s →
    WaitsNowhere u t ∧ t.seq u = s.seq u ∧ t.ramp u = s.ramp u ∧ stageSlot u t = stageSlot u s

theorem Apart.refl (u : UnitNo) (s : State) : Apart u s s := fun h => ⟨h, rfl, rfl, rfl⟩

theorem Apart.trans {u : UnitNo} {s t r : State} (h : Apart u s t) (k : Apart u t r) : Apart u s r := fun f =>
  have a := h f
  have b := k a.1
  ⟨b.1, b.2.1.trans a.2.1, b.2.2.1.trans a.2.2.1, b.2.2.2.trans a.2.2.2⟩

/-- A change that leaves the arbiter's lists, the sequencers, the ramp states and the command queue. -/
theorem Apart.of_eq {u : UnitNo} {s t : State} (hl : ∀ w, (t.pra.locks.get w).waiters = (s.pra.locks.get w).waiters)
    (hq : t.pra.startQueue = s.pra.startQueue) (hs : t.seq u = s.seq u) (hr : t.ramp u = s.ramp u)
    (hc : t.lpu.cmds = s.lpu.cmds) : Apart u s t := fun h =>
  ⟨⟨fun w => by rw [hl]; exact h.1 w, by rw [hq]; exact h.2⟩, hs, hr, by rw [stageSlot, stageSlot, hc]⟩

variable {u v : UnitNo}

theorem pushReport_apart (r : Report) (s : State) : Apart u s (pushReport r s) := by
  unfold pushReport
  split <;> exact .of_eq (fun _ => rfl) rfl rfl rfl rfl

theorem pushUnitState_apart (w : UnitNo) (a b : SeqState) (c : Cause) (s : State) :
    Apart u s (pushUnitState w a b c s) := pushReport_apart _ _

/-- A placement leaves the waiting cells of every other slot. -/
theorem placeIn_filter (w : Waiting) (q : List Waiting) (k : Slot) (h : w.slot ≠ k) :
    (placeIn w q).filter (fun x => x.slot == k) = q.filter fun x => x.slot == k := by
  have hw : (w.slot == k) = false := by simpa using h
  unfold placeIn
  split
  · clear * - hw
    induction q with
    | nil => rfl
    | cons x l ih =>
      rw [List.map_cons, List.filter_cons, List.filter_cons, ih]
      by_cases hx : x.slot = w.slot
      · simp [hx, hw]
      · simp [hx]
  · simp [hw]

theorem place_apart (k : Slot) (d : Nat) (c : Command) (s : State) (h : k ≠ .stage u) : Apart u s (place k d c s) :=
  fun f => ⟨f, rfl, rfl, placeIn_filter _ _ _ h⟩

theorem placeStage_apart (c : Command) (s : State) (h : v ≠ u) : Apart u s (placeStage v c s) :=
  place_apart _ _ _ _ (by simpa using h)

theorem placeConverter_apart (c : Command) (s : State) : Apart u s (placeConverter c s) :=
  place_apart _ _ _ _ (by simp)

theorem withdrawStage_apart (s : State) (h : v ≠ u) : Apart u s (withdrawStage v s) := fun f => by
  refine ⟨f, rfl, rfl, ?_⟩
  simp only [stageSlot, withdrawStage, State.setLpu_lpu, List.filter_filter]
  refine List.filter_congr fun w _ => ?_
  by_cases hw : w.slot = .stage u
  · have : Slot.stage u ≠ Slot.stage v := by simpa using h.symm
    simp [hw, this]
  · simp [hw]

theorem setRamp_apart (r : RampUnit) (s : State) (h : v ≠ u) : Apart u s (s.setRamp v r) :=
  .of_eq (fun _ => rfl) rfl rfl (State.setRamp_ramp_ne _ _ _ _ h.symm) rfl

theorem placeSetpoint_apart (x : Nat) (s : State) (h : v ≠ u) : Apart u s (placeSetpoint v x s) :=
  (place_apart _ _ _ _ (by simp)).trans (setRamp_apart _ _ h)

theorem initSetpoint_apart (s : State) (h : v ≠ u) : Apart u s (initSetpoint v s) := by
  unfold initSetpoint
  split
  · exact (setRamp_apart _ _ h).trans (placeSetpoint_apart _ _ h)
  · exact .refl _ _

theorem setSeq_apart (q : Seq) (s : State) (h : v ≠ u) : Apart u s (s.setSeq v q) :=
  .of_eq (fun _ => rfl) rfl (State.setSeq_seq_ne _ _ _ _ h.symm) rfl rfl

theorem evSetSeq_apart (f : Seq → Seq) (e : Ev) (h : v ≠ u) : Apart u e.s (e.setSeq v f).s := setSeq_apart _ _ h

theorem driveAlert_apart (s : State) : Apart u s (driveAlert s) := .of_eq (fun _ => rfl) rfl rfl rfl rfl

theorem setArbiter_apart (c : ConvState) (s : State) : Apart u s (setArbiter c s) :=
  .of_eq (fun _ => rfl) rfl rfl rfl rfl

theorem moveTo_apart (n : SeqState) (e : Ev) (h : v ≠ u) : Apart u e.s (moveTo v n e).s := by
  unfold moveTo
  dsimp only
  refine Apart.trans ?_ (driveAlert_apart _)
  split
  · exact (setSeq_apart _ _ h).trans (setRamp_apart _ _ h)
  · exact setSeq_apart _ _ h

theorem enterTimed_apart (n : SeqState) (e : Ev) (h : v ≠ u) : Apart u e.s (enterTimed v n e).s := by
  have h2 := (moveTo_apart n e h).trans (evSetSeq_apart
    (fun q => { q with prior := (e.s.image v).stage, stageTimer := some ((e.s.profileOf v).timeout n) }) _ h)
  unfold enterTimed
  dsimp only
  split
  · exact h2.trans (placeStage_apart _ _ h)
  · exact h2

theorem grantLock_apart (e : Ev) (h : v ≠ u) : Apart u e.s (grantLock v e).s := by
  unfold grantLock
  split <;> exact enterTimed_apart _ _ h

/-- A lock rewritten with no new waiter but another unit. -/
theorem setLock_apart (w : Waterway) (l : Lock) (s : State)
    (h : ∀ x ∈ l.waiters, x = u → x ∈ (s.pra.locks.get w).waiters) : Apart u s (s.setLock w l) := fun f => by
  refine ⟨⟨fun w' hu => ?_, f.2⟩, rfl, rfl, rfl⟩
  rw [State.setLock_pra_locks] at hu
  by_cases hw : w' = w
  · subst hw
    rw [PerWaterway.get_set_self] at hu
    exact f.1 _ (h u hu rfl)
  · rw [PerWaterway.get_set_ne _ _ _ _ hw] at hu
    exact f.1 _ hu

theorem requestLock_apart (e : Ev) (h : v ≠ u) : Apart u e.s (requestLock v e).s := by
  unfold requestLock
  dsimp only
  split
  · refine Apart.trans ?_ (grantLock_apart _ h)
    exact setLock_apart _ _ _ fun x hx _ => hx
  · refine setLock_apart _ _ _ fun x hx hxu => ?_
    simp only [List.mem_append, List.mem_singleton] at hx
    rcases hx with hx | hx
    · exact hx
    · exact absurd (hx.symm.trans hxu) h

/-- A release hands the lock to a waiter, and so never to a unit that waits nowhere. -/
theorem releaseLock_apart (w : UnitNo) (e : Ev) : Apart u e.s (releaseLock w e).s := fun f => by
  unfold releaseLock
  dsimp only
  split
  · split
    · exact setLock_apart _ _ _ (fun x hx _ => hx) f
    · next v rest hl =>
      have hv : v ≠ u := fun hvu => f.1 (e.s.unit w).waterway (by rw [hl, hvu]; exact List.mem_cons_self)
      have h1 := setLock_apart (u := u) (e.s.unit w).waterway { holder := some v, waiters := rest } e.s
        (fun x hx _ => by rw [hl]; exact List.mem_cons_of_mem _ hx)
      refine Apart.trans ?_ (grantLock_apart _ hv) f
      exact h1
  · exact ⟨f, rfl, rfl, rfl⟩

theorem setPra_apart (p : Pra) (s : State) (hl : p.locks = s.pra.locks)
    (hq : ∀ x ∈ p.startQueue, x = u → x ∈ s.pra.startQueue) : Apart u s (s.setPra p) := fun f =>
  ⟨⟨fun w => by rw [State.setPra_pra, hl]; exact f.1 w, fun hu => f.2 (hq u hu rfl)⟩, rfl, rfl, rfl⟩

theorem enterLockwait_apart (n : SeqState) (o : Origin) (e : Ev) (h : v ≠ u) : Apart u e.s (enterLockwait v n o e).s := by
  unfold enterLockwait
  refine Apart.trans ?_ (requestLock_apart _ h)
  exact (enterTimed_apart n e h).trans (evSetSeq_apart _ _ h)

theorem leaveWaits_apart (w : UnitNo) (e : Ev) : Apart u e.s (leaveWaits w e).s :=
  (setLock_apart _ _ _ fun _ hx _ => (List.mem_filter.mp hx).1).trans
    (setPra_apart _ _ rfl fun _ hx _ => (List.mem_filter.mp hx).1)

theorem endGrant_apart (w : UnitNo) (e : Ev) : Apart u e.s (endGrant w e).s := by
  unfold endGrant
  split
  · refine Apart.trans (placeConverter_apart .convRelease e.s) ?_
    exact Apart.trans (setPra_apart _ _ rfl fun _ hx _ => hx) (setArbiter_apart .releasing _)
  · exact .refl _ _

/-- A grant goes to the head of the start queue, and so never to a unit that waits nowhere. -/
theorem grantConverter_apart (e : Ev) : Apart u e.s (grantConverter e).s := fun f => by
  unfold grantConverter
  split
  · split
    · exact ⟨f, rfl, rfl, rfl⟩
    · next h rest hq =>
      have hh : h ≠ u := fun hu => f.2 (by rw [hq, hu]; exact List.mem_cons_self)
      have h1 := setPra_apart (u := u) { e.s.pra with holder := some h, startQueue := rest } e.s rfl
        (fun x hx _ => by rw [hq]; exact List.mem_cons_of_mem _ hx)
      have h2 := (h1.trans (placeConverter_apart (.convConnect (e.s.unit h).addr) _)).trans
        (setArbiter_apart .connecting _)
      refine Apart.trans ?_ (enterTimed_apart .pRunup _ hh) f
      exact h2
  · exact ⟨f, rfl, rfl, rfl⟩

theorem joinStartQueue_apart (e : Ev) (h : v ≠ u) : Apart u e.s (joinStartQueue v e).s := by
  unfold joinStartQueue
  refine Apart.trans ?_ (grantConverter_apart _)
  refine Apart.trans (enterTimed_apart .pConvwait e h) ?_
  refine setPra_apart _ _ rfl fun x hx hxu => ?_
  simp only [List.mem_append, List.mem_singleton] at hx
  rcases hx with hx | hx
  · exact hx
  · exact absurd (hx.symm.trans hxu) h

theorem giveUp_apart (w : UnitNo) (e : Ev) : Apart u e.s (giveUp w e).s :=
  ((leaveWaits_apart w e).trans (releaseLock_apart w _)).trans (endGrant_apart w _)

theorem enterStopping_apart (e : Ev) (h : v ≠ u) : Apart u e.s (enterStopping v e).s := by
  unfold enterStopping
  refine Apart.trans ?_ (giveUp_apart _ _)
  exact (enterTimed_apart .stopping e h).trans (evSetSeq_apart _ _ h)

theorem stopWithReport_apart (c : Cause) (e : Ev) (h : v ≠ u) : Apart u e.s (stopWithReport v c e).s :=
  (enterStopping_apart e h).trans (pushUnitState_apart _ _ _ _ _)

theorem lingerOrStop_apart (e : Ev) (h : v ≠ u) : Apart u e.s (lingerOrStop v e).s := by
  unfold lingerOrStop
  split
  · exact evSetSeq_apart _ _ h
  · exact enterStopping_apart _ h

theorem stopLinger_apart (e : Ev) (h : v ≠ u) : Apart u e.s (stopLinger v e).s := evSetSeq_apart _ _ h

theorem actStable_apart (e : Ev) (h : v ≠ u) : Apart u e.s (actStable v e).s := by
  have timed := fun n => enterTimed_apart n e h
  have wait := fun n o => enterLockwait_apart n o e h
  have stop := enterStopping_apart e h
  have stay := stopLinger_apart e h
  have air := lingerOrStop_apart e h
  have none := Apart.refl u e.s
  unfold actStable
  generalize enterStopping v e = e1 at stop ⊢
  generalize stopLinger v e = e2 at stay ⊢
  generalize lingerOrStop v e = e3 at air ⊢
  split <;> first
    | assumption
    | exact timed _
    | exact wait _ _
    | (split <;> first
        | assumption
        | exact timed _
        | exact wait _ _)

theorem returnToOrigin_apart (c : Cause) (e : Ev) (h : v ≠ u) : Apart u e.s (returnToOrigin v c e).s := by
  unfold returnToOrigin
  refine Apart.trans ?_ (pushUnitState_apart _ _ _ _ _)
  exact (leaveWaits_apart v e).trans (moveTo_apart _ _ h)

theorem act_apart (e : Ev) (h : v ≠ u) : Apart u e.s (act v e).s := by
  unfold act
  dsimp only
  split
  · exact actStable_apart _ h
  · split
    · exact .refl _ _
    · split
      · exact (returnToOrigin_apart _ _ h).trans (actStable_apart _ h)
      · split
        · exact stopWithReport_apart _ _ h
        · exact .refl _ _

theorem actTurn_apart (old : PerUnit Entry) (e : Ev) (h : v ≠ u) : Apart u e.s (actTurn old e v).s := by
  unfold actTurn
  dsimp only
  repeat' split
  all_goals first
    | exact act_apart _ h
    | exact enterStopping_apart _ h
    | exact .refl _ _

/-- The states in which a sequencer does nothing on its planned mode (R117). -/
def SeqState.passive (n : SeqState) : Bool :=
  !n.stable && !n.rotating && n != .gLockwait && n != .pLockwait

/-- A sequencer in a passive state does nothing in its turn. -/
theorem actTurn_passive (old : PerUnit Entry) (e : Ev) (h : (e.s.seq u).state.passive = true) :
    actTurn old e u = e := by
  simp only [SeqState.passive, Bool.and_eq_true, Bool.not_eq_true', bne_iff_ne, ne_eq] at h
  obtain ⟨⟨⟨h1, h2⟩, h3⟩, h4⟩ := h
  unfold actTurn
  dsimp only
  split
  · unfold act
    dsimp only
    rw [Ev.state] at *
    split
    · next h => rw [h1] at h; contradiction
    · split
      · rfl
      · split
        · next h => rcases h with h | h <;> contradiction
        · split
          · next h => rw [h2] at h; contradiction
          · rfl
  · split
    · next h =>
      obtain ⟨-, -, -, -, h5 | h5⟩ := h <;> (rw [Ev.state] at h5; rw [h5] at h1; contradiction)
    · rfl

/-- The sequencers' turns leave a unit that waits nowhere and whose own state is passive. -/
theorem actAll_apart (old : PerUnit Entry) (e : Ev) (h : (e.s.seq u).state.passive = true) :
    Apart u e.s (actAll old e).s := by
  unfold actAll
  generalize UnitNo.all = l
  induction l generalizing e with
  | nil => exact .refl _ _
  | cons v l ih =>
    rw [List.foldl_cons]
    by_cases hv : v = u
    · subst hv
      rw [actTurn_passive old e h]
      exact ih e h
    · intro f
      have h1 := actTurn_apart old e hv f
      exact ((actTurn_apart old e hv).trans (ih _ (by rw [h1.2.1]; exact h))) f

theorem closeSettling_apart (e : Ev) : Apart u e.s (closeSettling e) := by
  unfold closeSettling settleCheck
  split
  · split
    · refine Apart.trans ?_ (pushReport_apart _ _)
      exact .of_eq (fun _ => rfl) rfl rfl rfl rfl
    · exact .refl _ _
  · exact .refl _ _

/-- The end of an event leaves a unit that waits nowhere and whose state is passive. -/
theorem closeEvent_apart (e : Ev) (h : (e.s.seq u).state.passive = true) : Apart u e.s (closeEvent e) := by
  unfold closeEvent
  refine Apart.trans ?_ (closeSettling_apart _)
  have h1 : Apart u e.s (if e.trig && e.s.orderStands then e.map replan else e).s := by
    split
    · refine Apart.trans ?_ (pushReport_apart _ _)
      exact .of_eq (fun _ => rfl) rfl rfl rfl rfl
    · exact .refl _ _
  intro f
  have h2 := h1 f
  exact (h1.trans (actAll_apart _ _ (by rw [h2.2.1]; exact h))) f

end Sys2Proof.Machine
end

