-- ==== Sys2Proof/Tests/Slice0.lean ====
section
/-! SUPPORT. Our own tests: WellFormed refuses an ill-formed term for each check, cells and their rows by words written
out from the spec, the spec's worked examples, one step of commands, and for every statement with hypotheses a state and
operands that meet them. -/

namespace Sys2Proof.Tests

open Sys2Proof Sys2Proof.Machine

-- One theorem at a time: the many small kernel checks here would otherwise each hold a thread.
set_option Elab.async false

-- Helpers -------------------------------------------------------------------------------------------------

/-- A header with the CRC that the cell needs. -/
def hdr (f : Hdr → Cell) (dest src : Byte) : Hdr :=
  let c := f { dest, src, crc := 0 }
  { dest, src, crc := crc16 c.dest c.src c.kind c.sub c.payload }

/-- To the part at address 5 from the station controller. -/
def hMe (f : Hdr → Cell) : Hdr := hdr f 5 0

/-- To broadcast from the station controller. -/
def hAll (f : Hdr → Cell) : Hdr := hdr f 31 0

/-- To the station controller from unit controller 11. -/
def hTel (f : Hdr → Cell) : Hdr := hdr f 0 11

/-- The state a command leads to. -/
def after (i : Instr) (s : State) : State :=
  match exec i s with
  | .next t => t
  | .fault _ => s
  | .refused _ => s

def isDelivered (c : Cell) (s : State) : Bool := !s.held && c.crcGood

theorem delivered_of {c : Cell} {s : State} (h : isDelivered c s = true) : Delivered c s := by
  simpa [isDelivered, Delivered] using h

def isToPart (c : Cell) (s : State) : Bool := isDelivered c s && toPart c s && c.dest != Config.broadcast

theorem toPart_of {c : Cell} {s : State} (h : isToPart c s = true) : DeliveredToPart c s := by
  simp only [isToPart, Bool.and_eq_true, bne_iff_ne] at h
  exact ⟨delivered_of h.1.1, h.1.2, h.2⟩

def isBroadcast (c : Cell) (s : State) : Bool := isDelivered c s && c.dest == Config.broadcast && decide (s.lpu.addr < 31)

theorem broadcast_of {c : Cell} {s : State} (h : isBroadcast c s = true) : DeliveredBroadcast c s := by
  simp only [isBroadcast, Bool.and_eq_true, beq_iff_eq, decide_eq_true_eq] at h
  exact ⟨delivered_of h.1.1, h.1.2, h.2⟩

def isPast (c : Cell) (s : State) : Bool := isDelivered c s && !toPart c s

theorem past_of {c : Cell} {s : State} (h : isPast c s = true) : DeliveredPast c s := by
  simp only [isPast, Bool.and_eq_true, Bool.not_eq_true'] at h
  exact ⟨delivered_of h.1, h.2⟩

theorem all_units {f : UnitNo → Bool} (h : UnitNo.all.all f = true) (u : UnitNo) : f u = true :=
  List.all_eq_true.mp h u (by cases u <;> decide)

/-- What the Plant Resource Arbiter holds agrees with the sequencers, as a check. -/
def agrees (s : State) : Bool :=
  decide s.pra.startQueue.Nodup && s.pra.startQueue.all (fun u => (s.seq u).state == .pConvwait) &&
    s.pra.arb.granted == s.pra.holder.isSome &&
    UnitNo.all.all (fun u => s.pra.holder != some u || (s.seq u).state == .pRunup) &&
    [Waterway.w1, .w2].all (fun w =>
      let l := s.pra.locks.get w
      decide l.waiters.Nodup && l.waiters.all (fun u => (s.unit u).waterway == w && (s.seq u).state.waitsForLock) &&
        UnitNo.all.all (fun u => l.holder != some u || ((s.unit u).waterway == w && (s.seq u).state.holdsLock)) &&
        (l.holder.isSome || l.waiters.isEmpty)) &&
    UnitNo.all.all (fun u => (s.seq u).state == .dormant ||
      (s.dse.engine != .paused && (s.unit u).present && (s.image u).identity == .verified))

theorem agrees_of {s : State} (h : agrees s = true) : ResourcesAgree s := by
  simp only [agrees, Bool.and_eq_true] at h
  obtain ⟨⟨⟨⟨⟨h1, h2⟩, h3⟩, h4⟩, h5⟩, h6⟩ := h
  have hw : ∀ w : Waterway, _ := fun w => List.all_eq_true.mp h5 w (by cases w <;> decide)
  simp only [Bool.and_eq_true, decide_eq_true_eq] at hw
  constructor
  · simpa using h1
  · intro u hu; simpa using List.all_eq_true.mp h2 u hu
  · simpa using h3
  · intro u hu; have := all_units h4 u; simpa [hu] using this
  · intro w; exact (hw w).1.1.1
  · intro w u hu; have := List.all_eq_true.mp (hw w).1.1.2 u hu; simpa using this
  · intro w u hu; have := all_units (hw w).1.2 u; simpa [hu] using this
  · intro w hn; have := (hw w).2; simpa [hn] using this
  · intro u hu; have := all_units h6 u; simpa [hu, and_assoc] using this

-- States --------------------------------------------------------------------------------------------------

/-- The part at address 5 with its gate open. -/
def sPart : State :=
  let s := State.cold 5
  { s with tbs := { s.tbs with gateOpen := true } }

def profile : Profile :=
  { tRunup := 60, tSync := 60, tLoad := 60, tUnload := 60, tStop := 120, tDewater := 90, tPrun := 90, tPrime := 60,
    tConvwait := 240, tLockwait := 120, rate0 := 100, rate1 := 50, rate2 := 0, rate3 := 0, refresh := 5, bandCount := 1,
    hyst := 10 }

def band : Band :=
  { lower := 0, gmin := 1200, gmax := 3000, ppump := 2800, rzlo := 1800, rzhi := 2200, turb := true, pump := true }

def unitEntry : UnitEntry :=
  { present := true, addr := 11, waterway := .w1, profile := 0, classCode := 4, rated := 3000, assign := .auto,
    minRun := 600, minStill := 120, linger := 100 }

def on : Debounced := { val := true, run := 0 }

def image : Image :=
  { Image.cold with
    identity := .verified
    stage := some .still
    head := some 4500
    band := .num 0
    region := some { lo := 0, hi := none }
    perm := { ready := on, air := on, remote := on, lockout := .cold } }

/-- The part with U1 present and VERIFIED, PAUSED. -/
def sUnit : State :=
  { sPart with
    tbs := { sPart.tbs with
      units := sPart.tbs.units.set .u1 unitEntry
      profiles := sPart.tbs.profiles.set 0 profile
      bands := sPart.tbs.bands.set 0 ((sPart.tbs.bands[(0 : Fin 4)]).set 0 band)
      meritGen := [.u1]
      meritPump := [.u1]
      budgets := { w1 := 120, w2 := 100 } }
    uib := { sPart.uib with images := sPart.uib.images.set .u1 image } }

/-- The part RUNNING, with U1's sequencer in this state. -/
def sRun (n : SeqState) : State :=
  { sUnit with
    dse := { sUnit.dse with engine := .running }
    rmp := { sUnit.rmp with timer := some 10 }
    seqs := sUnit.seqs.set .u1 { Seq.cold with state := n, stageTimer := some 60, linger := some 100 } }

def planned (s : State) (m : PlanMode) (share : Option Nat) : State :=
  s.setEntry .u1 { s.entry .u1 with mode := m, share }

def assigned (s : State) (a : Assign) : State := s.setAssign .u1 a

def engineIs (s : State) (e : EngineState) : State := s.setDse { s.dse with engine := e }

def order : Order := { id := 7, target := 2000, cls := 0, clamped := false, src := 0 }

def ordered (s : State) (st : OrderState) : State :=
  s.setDse { s.dse with standing := { state := st, order, summary := .zero } }

def imaged (s : State) (i : Image) : State := s.setImage .u1 i

theorem consistent_sUnit : Consistent sUnit :=
  ⟨agrees_of (by decide +kernel), fun _ =>
    ⟨fun u => by cases u <;> decide +kernel, by decide +kernel, by decide +kernel, by decide +kernel,
      by decide +kernel, by decide +kernel, by decide +kernel⟩⟩

/-- While PAUSED, whatever U1's image holds is consistent. -/
theorem consistent_imaged (i : Image) : Consistent (imaged sUnit i) :=
  ⟨agrees_of rfl, fun _ => ⟨fun u => by cases u <;> rfl, rfl, rfl, rfl, rfl, .inl rfl, fun _ h => by cases h⟩⟩

-- WellFormed refuses each ill-formed term -----------------------------------------------------------------

theorem test_wf_gate_open_broadcast : ¬WellFormed (.tableGateOpen { dest := 31, src := 0, crc := 0 } 0) := by decide
theorem test_wf_gate_close_broadcast : ¬WellFormed (.tableGateClose { dest := 31, src := 0, crc := 0 } 0) := by decide
theorem test_wf_gate_bad_broadcast : ¬WellFormed (.tableGateBadRequest { dest := 31, src := 0, crc := 0 } 2 0) := by
  decide
theorem test_wf_gate_bad_names_open : ¬WellFormed (.tableGateBadRequest { dest := 5, src := 0, crc := 0 } 1 0) := by decide
theorem test_wf_trace_bad_names_off : ¬WellFormed (.traceBadRequest { dest := 5, src := 0, crc := 0 } 0 0) := by decide
theorem test_wf_engine_bad_names_pause : ¬WellFormed (.engineBadRequest { dest := 5, src := 0, crc := 0 } 2 0) := by
  decide
theorem test_wf_unit_present_zero : ¬WellFormed (.unitWritePresent { dest := 5, src := 0, crc := 0 } 1 0
    { addr := 11, waterway := 1, profile := 0, classCode := 4, rated := 3000, assign := 0, minRun := 0, minStill := 0,
      linger := 0 } 0) := by decide
theorem test_wf_unknown_table_named : ¬WellFormed (.tableWriteUnknownTable { dest := 5, src := 0, crc := 0 } 6 0 0) := by
  decide
theorem test_wf_unknown_table_seven : WellFormed (.tableWriteUnknownTable { dest := 5, src := 0, crc := 0 } 7 0 0) := by
  decide

-- CRC and cells (R2, R193 to R195) ------------------------------------------------------------------------

-- CRC-16 with generator 1021 and initial value FFFF over 30 zero bytes, worked outside the model.
theorem test_crc_zeros : crc16 0 0 0 0 0 = 0x2A45 := by decide +kernel

-- The same over the bytes 31, 1 and 28 zeros.
theorem test_crc_hold : crc16 31 1 0 0 0 = 0x3CF6 := by decide +kernel

-- A cell with its payload bytes 4 to 29 written out.
def cell (dest src kind sub : Byte) (payload : Payload) : Cell := { dest, src, kind, sub, payload, crc := 9 }

-- NET_POWER: bytes 4-5 order id, 6-7 target, 8 rate class.
theorem test_cell_netPower : readUpCell (cell 5 0 0x10 0x01
    0x1234F060020000000000000000000000000000000000000000AA#208) =
    some (.netPower { dest := 5, src := 0, crc := 9 } 0x1234 0xF060 2 0xAA) := by decide +kernel

-- UNIT_MODE: 4-5 order id, 6 unit, 7 planned mode, 8-9 setpoint, 10 rate class.
theorem test_cell_unitMode : readUpCell (cell 5 0 0x10 0x02
    0x0102030405DC01000000000000000000000000000000000000BB#208) =
    some (.unitMode { dest := 5, src := 0, crc := 9 } 0x0102 3 4 0x05DC 1 0xBB) := by decide +kernel

-- TABLE_WRITE of BAND: 4 table, 5 profile, 6 band, fields from byte 7.
theorem test_cell_bandWrite : readUpCell (cell 5 0 0x20 0x02
    0x04020B000104B00BB80AF0070808980100000000000000000000#208) =
    some (.bandWrite { dest := 5, src := 0, crc := 9 } 2 11
      { lower := 1, gmin := 1200, gmax := 3000, ppump := 2800, rzlo := 1800, rzhi := 2200, turb := 1, pump := 0 } 0) := by decide +kernel

-- TABLE_WRITE of PROFILE: 12-bit groups in bytes 6-26; bytes 27-28 field 17 over field 16; byte 29 field 15.
theorem test_cell_profileWrite : readUpCell (cell 5 0 0x20 0x02
    0x030100100200300400500600700800900A00B00C00D00E01F405#208) =
    some (.profileWrite { dest := 5, src := 0, crc := 9 } 1
      { tRunup := 1, tSync := 2, tLoad := 3, tUnload := 4, tStop := 5, tDewater := 6, tPrun := 7, tPrime := 8,
        tConvwait := 9, tLockwait := 10, rate0 := 11, rate1 := 12, rate2 := 13, rate3 := 14, hyst := 31,
        bandCount := 4, refresh := 5 }) := by decide +kernel

-- TABLE_WRITE of UNIT: 4 table, 5 unit, 6 present, fields of widths 1, 1, 1, 1, 2, 1, 2, 2, 2.
theorem test_cell_unitWrite : readUpCell (cell 5 0 0x20 0x02
    0x0203010B0201040BB80102580078006400000000000000000000#208) =
    some (.unitWritePresent { dest := 5, src := 0, crc := 9 } 3 1
      { addr := 11, waterway := 2, profile := 1, classCode := 4, rated := 3000, assign := 1, minRun := 600,
        minStill := 120, linger := 100 } 0) := by decide +kernel

-- WATCH: 4 unit, 5 mask.
theorem test_cell_watch : readUpCell (cell 5 0 0x20 0x06
    0x0284000000000000000000000000000000000000000000000000#208) =
    some (.watch { dest := 5, src := 0, crc := 9 } 2 0x84 0) := by decide +kernel

-- ENGINE: 4 request code, PAUSE is 2.
theorem test_cell_enginePause : readUpCell (cell 5 0 0x20 0x04
    0x0200000000000000000000000000000000000000000000000000#208) =
    some (.enginePause { dest := 5, src := 0, crc := 9 } 0) := by decide +kernel

-- UNIT_STATUS: 4 stage, 5 fault, 6-7 power, 8-9 head, 10 permissives, 11 interlocks.
theorem test_cell_unitStatus : readDnCell (cell 0 11 0x40 0x01
    0x0203FF9C11940781000000000000000000000000000000000000#208) =
    some (.unitStatus { dest := 0, src := 11, crc := 9 } 2 3 0xFF9C 0x1194 7 0x81 0) := by decide +kernel

-- UNIT_IDENT: 4 class code, 5-6 rated power.
theorem test_cell_unitIdent : readDnCell (cell 0 11 0x40 0x02
    0x040BB80000000000000000000000000000000000000000000000#208) =
    some (.unitIdent { dest := 0, src := 11, crc := 9 } 4 3000 0) := by decide +kernel

-- CONV_STATUS: 4 ready, 5 fault, 6 connected unit address.
theorem test_cell_convStatus : readDnCell (cell 0 11 0x40 0x03
    0x01000B0000000000000000000000000000000000000000000000#208) =
    some (.convStatus { dest := 0, src := 11, crc := 9 } 1 0 11 0) := by decide +kernel

-- Sub-kinds that R194 does not list spell no row.
theorem test_cell_unlisted : readUpCell (cell 5 0 0x20 0x09 0) = none ∧ readDnCell (cell 0 11 0x40 0x04 0) = none := by
  decide +kernel

-- The worked examples of the spec -------------------------------------------------------------------------

/-- The station of the worked allocations: four units in STILL, their bands, and the merit lists. -/
def station (target : Int) (shortCircuit : Bool) : State :=
  let b (gmin gmax ppump lo hi : Nat) : Band := { band with gmin, gmax, ppump, rzlo := lo, rzhi := hi }
  let row (x : Band) : Vector Band 12 := (Vector.replicate 12 Band.cold).set 0 x
  let e (p : Fin 4) : UnitEntry := { unitEntry with profile := p }
  let q : Seq := { Seq.cold with state := .still }
  ordered
    { sUnit with
      tbs := { sUnit.tbs with
        plant := { sUnit.tbs.plant with shortCircuit }
        units := { u1 := e 0, u2 := e 0, u3 := e 1, u4 := e 2, u5 := .cold, u6 := .cold }
        bands := (((sUnit.tbs.bands.set 0 (row (b 1200 3000 2800 1800 2200))).set 1 (row (b 1000 2500 2400 0 0))).set 2
          (row (b 1000 2500 2400 1500 1700)))
        meritGen := [.u1, .u2, .u3, .u4]
        meritPump := [.u4, .u3, .u2, .u1] }
      uib := { sUnit.uib with images := { u1 := image, u2 := image, u3 := image, u4 := image, u5 := .cold, u6 := .cold } }
      dse := { sUnit.dse with engine := .running }
      seqs := { u1 := q, u2 := q, u3 := q, u4 := q, u5 := .cold, u6 := .cold } } .active |>
    fun s => s.setDse { s.dse with standing := { s.dse.standing with order := { order with target } } }

-- Worked allocations, Cases 1 to 5: the plan and its summary.
theorem test_alloc_case1 : shares (station 4000 true) = [(.u1, 1800), (.u2, 2200)] ∧
    (plan (station 4000 true)).summary = { genCount := 2, pumpCount := 0, total := 4000, deviation := 0 } := by
  decide +kernel

theorem test_alloc_case2 : shares (station 6500 true) = [(.u1, 2295), (.u2, 2294), (.u3, 1911)] := by decide +kernel

theorem test_alloc_case3 : shares (station (-5000) true) = [(.u1, 2600)] ∧
    committedPumps (station (-5000) true) = [.u4, .u3, .u2] := by decide +kernel

theorem test_alloc_case4 : shares (station (-5000) false) = [] ∧ committedPumps (station (-5000) false) = [.u4, .u3] ∧
    (plan (station (-5000) false)).summary.deviation = 200 := by decide +kernel

theorem test_alloc_case5 : shares (station 3900 true) = [(.u1, 1800), (.u2, 2200)] ∧
    (plan (station 3900 true)).summary.deviation = 100 := by decide +kernel

-- R174 by hand: 100 shared by three moves of 100 is 33 each, and the remainder of 1 goes to the first.
theorem test_ramp_scaled : sharedMoves 100 [100, 100, 100] = [34, 33, 33] := by decide

-- R172 by hand: from 1700 toward 2500 with a step of 200, the move ends on the near edge 1800 of the zone.
theorem test_ramp_approach : approach band 1700 2500 200 = 100 := by decide

-- R178: 2000 is as near to 1800 as to 2200 and moves to the lower edge; 100 is raised to Gmin.
theorem test_band_clamp : band.clamp 2000 = 1800 ∧ band.clamp 100 = 1200 ∧ band.clamp 2001 = 2200 := by decide

-- R3: the strap values 0 and 31 are taken as 1 and 30.
theorem test_strap : strapAddress 0 = 1 ∧ strapAddress 31 = 30 ∧ strapAddress 30 = 30 ∧ strapAddress 1 = 1 := by decide

-- R43: with D = 2 the second consecutive cell changes the bit, and a cell between starts the count again.
theorem test_debounce : Debounced.take 2 true { val := false, run := 0 } = { val := false, run := 1 } ∧
    Debounced.take 2 true { val := false, run := 1 } = { val := true, run := 0 } ∧
    Debounced.take 2 false { val := false, run := 1 } = { val := false, run := 0 } := by decide

-- R105: a planned total outside a 16-bit signed field is carried as the nearer limit.
theorem test_carried : carried16 40000 = 0x7FFF ∧ carried16 (-40000) = 0x8000 ∧ carried16 (-1) = 0xFFFF := by decide

-- One step of some commands -------------------------------------------------------------------------------

-- R19, R23: CLOSE closes the gate and is answered ACCEPTED.
theorem test_gate_close :
    let t := after (.tableGateClose (hMe fun h => cellTableGate h 0 0) 0) sPart
    t.tbs.gateOpen = false ∧ t.rpb.queue = [.mgtResult 0 0x01 .accepted 0 0 0 0] := by
  decide +kernel

-- R27: a UNIT write at the converter's address 7 is refused with field 2.
theorem test_unit_write_collision :
    let f : UnitFields := { addr := 7, waterway := 1, profile := 0, classCode := 4, rated := 3000, assign := 0, minRun := 0,
                            minStill := 0, linger := 0 }
    (after (.unitWritePresent (hMe fun h => cellUnitWrite h 2 1 f 0) 2 1 f 0) sPart).rpb.queue =
      [.mgtResult 0 0x02 .range 2 2 0 2] := by
  decide +kernel

-- R119, R158: a free unit planned GEN asks for the lock, gets it, and enters G_RUNUP with GO_TURBINE.
theorem test_start_generator :
    let t := after (.netPower (hMe fun h => cellNetPower h 9 2000 0 0) 9 2000 0 0) (sRun .still)
    (t.seq .u1).state = .gRunup ∧ t.pra.locks.w1.holder = some .u1 ∧ (t.entry .u1).share = some 1800 ∧
      t.lpu.cmds = [{ slot := .stage .u1, dest := 11, cmd := .goTurbine }] := by
  decide +kernel

-- R120, R167: TURB_ON in G_SYNC reaches G_ON with the setpoint of the measured power.
theorem test_reach_g_on :
    let s := planned (sRun .gSync) .gen (some 1800)
    let t := after (.unitStatus (hTel fun h => cellUnitStatus h 2 0 1500 4500 7 0 0) 2 0 1500 4500 7 0 0) s
    (t.seq .u1).state = .gOn ∧ (t.ramp .u1).setpoint = some 1500 ∧ t.alertDue = false := by
  decide +kernel

-- R136, R139, R192: a fault code trips the unit and drives PLANT_ALERT_N.
theorem test_fault_trips :
    let t := after (.unitStatus (hTel fun h => cellUnitStatus h 2 1 1500 4500 7 0 0) 2 1 1500 4500 7 0 0) (sRun .gSync)
    (t.seq .u1).state = .tripped ∧ t.rpb.alertLow = true ∧
      t.rpb.queue = [.unitState .u1 .gSync .tripped .unitFault (some .turbOn) 1] := by
  decide +kernel

-- R55: after the third request the unit is ABSENT.
theorem test_identity_absent :
    (after (.identityWaitExpiry .u1)
      (imaged sUnit { image with identity := .identWait, identCount := 3, identTimer := some 20 })).image .u1 =
      { image with identity := .absent, identCount := 3, verifyEvent := true } := by
  decide +kernel

-- R8: the thirty-third forwarded cell is dropped and FWD_DROP_DN raised.
theorem test_forward_full :
    let c := (hdr (fun h => cellEcho h 0) 9 0).cell 0x20 0x07 0
    let s := { sPart with lpu := { sPart.lpu with upTx := .idle, dnFwd := List.replicate 32 c } }
    (after (.upCellArrival c) s).rpb.flags = 0x04 ∧ (after (.upCellArrival c) s).lpu.dnFwd.length = 32 := by
  decide +kernel

-- R133: a lock wait from STILL returns there at its timeout with min-still started.
theorem test_lockwait_timeout :
    let t := after (.lockwaitTimeout .u1) (sRun .gLockwait)
    (t.seq .u1).state = .still ∧ (t.seq .u1).minStill = some 120 ∧
      t.rpb.queue = [.unitState .u1 .gLockwait .still .lockwaitTimeout (some .still) 0] := by
  decide +kernel

-- R169: class 1 of the entry is 50 a second (Ti 1 s), under an order and without, and class 0, as a hold plan writes it,
-- 100 a second.
theorem test_hold_plan_rate_class :
    let s (c : Fin 4) : State := (sRun .gOn).setEntry .u1 { Entry.cold with mode := .gen, share := some 1700, cls := c }
    let r (c : Fin 4) (a : Assign) : State :=
      assigned ((s c).setRamp .u1 { setpoint := some 1300, refresh := some 5, rate := none }) a
    ((after .rampIntervalExpiry (r 0 .auto)).ramp .u1).setpoint = some 1400 ∧
      ((after .rampIntervalExpiry (r 1 .manual)).ramp .u1).setpoint = some 1350 ∧
      ((after .rampIntervalExpiry (r 1 .auto)).ramp .u1).setpoint = some 1350 ∧
      ((after .rampIntervalExpiry (ordered (r 1 .auto) .active)).ramp .u1).setpoint = some 1350 := by
  decide +kernel

-- R36, R81, R85: a MERIT write under a SETTLED order runs once; REPLANNED comes after the MGT_RESULT, the record is ACTIVE.
theorem test_merit_write_replans :
    let f : MeritFields := { len := 0, p1 := 0, p2 := 0, p3 := 0, p4 := 0, p5 := 0, p6 := 0 }
    let t := after (.meritWrite (hMe fun h => cellMeritWrite h 0 f 0) 0 f 0) (ordered (sRun .still) .settled)
    t.dse.standing.state = .active ∧ t.rpb.queue = [.mgtResult 0 0x02 .accepted 5 0 0 0,
      .orderResult 0 7 0x01 .replanned 0 (some { genCount := 0, pumpCount := 0, total := 0, deviation := -2000 })] := by
  decide +kernel

-- For every statement with hypotheses, states and operands that meet them ---------------------------------

theorem witness_StepTakesFrontCommand :
    ({ sPart with pending := [.dnSelection] } : State).pending = .dnSelection :: [] ∧ sPart.pending = [] := ⟨rfl, rfl⟩

theorem witness_ResetLowStopsPorts : cellOf (.upCellArrival (cell 5 0 0x20 0x07 0)) = some (cell 5 0 0x20 0x07 0) ∧
    ({ sPart with held := true } : State).held = true := ⟨rfl, rfl⟩

theorem witness_BadCrcRaisesFlagOnly :
    (cellOf (.echo { dest := 5, src := 0, crc := 9 } 0) = some (cell 5 0 0x20 0x07 0) ∧ sPart.held = false ∧
      (cell 5 0 0x20 0x07 0).crcGood = false) ∧
    cellOf (.unitStatus { dest := 0, src := 11, crc := 9 } 0 0 0 0 0 0 0) = some (cell 0 11 0x40 0x01 0) ∧
      (cell 0 11 0x40 0x01 0).crcGood = false := by
  decide +kernel

theorem witness_ArrivalActsAsItsRow :
    readUpCell (cell 5 0 0x20 0x07 0) = some (.echo { dest := 5, src := 0, crc := 9 } 0) ∧
      readDnCell (cell 0 11 0x40 0x03 0) = some (.convStatus { dest := 0, src := 11, crc := 9 } 0 0 0 0) := by
  decide +kernel

theorem witness_CellsSpellTheirRows :
    let i := Instr.tableGateBadRequest { dest := 5, src := 0, crc := 9 } 2 0
    WellFormed i ∧ i.carriesCell = false ∧ (cellOf i).isSome = true := by
  decide

theorem witness_OrderAndMgtCellsByDestination :
    let e (d : Byte) : Cell := cellEcho (hdr (fun h => cellEcho h 0) d 0) 0
    (Delivered (e 5) sPart ∧ (e 5).dest.toNat = sPart.lpu.addr) ∧
    (Delivered (e 31) sPart ∧ (e 31).dest = 31 ∧ sPart.lpu.addr < 31) ∧
    (Delivered (e 30) sPart ∧ (e 30).dest.toNat ≠ sPart.lpu.addr ∧ (e 30).dest ≠ 31) :=
  ⟨⟨delivered_of (by decide +kernel), by decide⟩, ⟨delivered_of (by decide +kernel), by decide, by decide⟩,
    delivered_of (by decide +kernel), by decide, by decide⟩

theorem witness_OtherArrivals :
    let c (d src kind sub : Byte) : Cell := .compose d src kind sub 0
    (Delivered (c 31 4 0 0) sPart ∧ (c 31 4 0 0).kind = kindHold) ∧
    (Delivered (c 5 4 0x50 1) sPart ∧ (c 5 4 0x50 1).kind ≠ kindHold ∧ (c 5 4 0x50 1).kind ≠ kindOrder ∧
      (c 5 4 0x50 1).kind ≠ kindMgt ∧ (c 5 4 0x50 1).kind ≠ kindTel) ∧
    (Delivered (c 5 4 0x20 9) sPart ∧ readUpCell (c 5 4 0x20 9) = none) ∧
    (Delivered (c 5 11 0x40 4) sPart ∧ (c 5 11 0x40 4).dest.toNat = sPart.lpu.addr ∧
      (c 5 11 0x40 4).sub ≠ subUnitIdent ∧ toPart (c 5 11 0x40 4) sPart = true) ∧
    (Delivered (c 0 30 0x40 1) sPart ∧ (c 0 30 0x40 1).dest.toNat ≠ sPart.lpu.addr ∧
      (∀ u, (sPart.unit u).present = true → (sPart.unit u).addr ≠ 30) ∧ sPart.tbs.plant.convAddr ≠ 30) ∧
    (Delivered (c 0 11 0x40 4) sPart ∧ toPart (c 0 11 0x40 4) sPart = false) :=
  ⟨⟨delivered_of (by decide +kernel), by decide⟩,
    ⟨delivered_of (by decide +kernel), by decide, by decide, by decide, by decide⟩,
    ⟨delivered_of (by decide +kernel), by decide +kernel⟩,
    ⟨delivered_of (by decide +kernel), by decide, by decide, by decide⟩,
    ⟨delivered_of (by decide +kernel), by decide, fun u => by cases u <;> decide, by decide⟩,
    delivered_of (by decide +kernel), by decide⟩

theorem witness_LinkStates :
    let s := sPart.withLinkUp .up
    (Delivered (cellEcho (hMe fun h => cellEcho h 0) 0) sPart ∧
      ∀ h r, (Instr.echo (hMe fun h => cellEcho h 0) 0).spelled ≠ .restart h r) ∧
    s.held = false ∧ (s.lpu.link.get .up).loss.isSome = true ∧ (s.lpu.link.get .dn).loss = none :=
  ⟨⟨delivered_of (by decide +kernel), fun _ _ => by simp [Instr.spelled]⟩, by decide, by decide, by decide⟩

/-- The part with this many cells to forward down, and perhaps a command waiting. -/
def sDn (n : Nat) (waiting : Bool) (turn : DnTurn) : State :=
  { sPart with lpu := { sPart.lpu with
      dnFwd := List.replicate n (cell 9 0 0x20 0x07 0)
      cmds := if waiting then [{ slot := .converter, dest := 7, cmd := .convRelease }] else []
      dnTurn := turn } }

theorem witness_DnArbiter :
    ((sDn 15 true .forward).held = false ∧ (sDn 15 true .forward).lpu.cmds ≠ [] ∧
      (sDn 15 true .forward).lpu.dnFwd.length < 16) ∧
    ((sDn 16 true .command).lpu.cmds ≠ [] ∧ (sDn 16 true .command).lpu.dnTurn = .command) ∧
    ((sDn 15 false .forward).lpu.dnFwd ≠ [] ∧ (sDn 15 false .forward).lpu.dnFwd.length < 16 ∧
      (sDn 15 false .forward).lpu.cmds = []) ∧
    ((sDn 0 false .forward).lpu.dnFwd = [] ∧ (sDn 0 false .forward).lpu.cmds = []) ∧
    ((sDn 16 true .forward).lpu.dnFwd ≠ [] ∧ ¬(sDn 16 true .forward).lpu.dnFwd.length < 16 ∧
      (sDn 16 true .forward).lpu.dnTurn = .forward) ∧
    ¬(sDn 16 false .command).lpu.dnFwd.length < 16 ∧ (sDn 16 false .command).lpu.cmds = [] := by
  decide

/-- The part with this many reports, and perhaps a cell to forward up, its UP transmitter idle. -/
def sUp (n : Nat) (forward : Bool) (turn : UpTurn) : State :=
  { sPart with
    lpu := { sPart.lpu with
      upFwd := if forward then [cell 0 11 0x40 0x01 0] else []
      upTurn := turn
      upTx := .idle }
    rpb := { sPart.rpb with queue := List.replicate n (.echo 0 0) } }

theorem witness_UpArbiter :
    ((sUp 11 true .report).held = false ∧ (sUp 11 true .report).sendingUpHold = false ∧
      (sUp 11 true .report).lpu.upFwd ≠ [] ∧ (sUp 11 true .report).rpb.queue.length < 12) ∧
    ((sUp 12 true .forward).lpu.upFwd ≠ [] ∧ (sUp 12 true .forward).lpu.upTurn = .forward) ∧
    ((sUp 11 false .report).rpb.queue ≠ [] ∧ (sUp 11 false .report).lpu.upFwd = []) ∧
    ((sUp 12 true .report).rpb.queue ≠ [] ∧ ¬(sUp 12 true .report).rpb.queue.length < 12 ∧
      (sUp 12 true .report).lpu.upTurn = .report) ∧
    (sUp 0 false .report).lpu.upFwd = [] ∧ (sUp 0 false .report).rpb.queue = [] := by
  decide

theorem witness_DepartureClearsCarriedEvents :
    let s := imaged (sUp 15 false .report) { image with events := 5 }
    (sUp 16 false .report).rpb.queue.length ≤ 16 ∧ s.rpb.queue.length ≤ 16 ∧ (s.image .u1).events ≠ 0 ∧
      s.rpb.queue.all (fun x => !x.isEventOf .u1) = true := by
  decide

theorem witness_HoldCellsCarryState :
    let s := ordered (sUp 0 false .report) .active
    s.held = false ∧ s.lpu.dnFwd = [] ∧ s.lpu.cmds = [] ∧ s.sendingUpHold = false ∧ s.lpu.upFwd = [] ∧
      s.rpb.queue = [] ∧ s.dse.standing.state ≠ .none := by
  decide

theorem witness_UpHoldSentClearsFlags :
    sPart.held = false ∧ (∃ c, sPart.lpu.upTx = .hold c) ∧ ∀ c, (sUp 0 false .report).lpu.upTx ≠ .hold c :=
  ⟨by decide, ⟨_, rfl⟩, fun _ => by simp [sUp]⟩

theorem witness_EchoReportsPayload :
    DeliveredToPart (cellEcho (hMe fun h => cellEcho h 5) 5) sPart ∧
      DeliveredBroadcast (cellEcho (hAll fun h => cellEcho h 5) 5) sPart :=
  ⟨toPart_of (by decide +kernel), broadcast_of (by decide +kernel)⟩

theorem witness_GateRowsAndClosedGate :
    DeliveredToPart (cellTableGate (hMe fun h => cellTableGate h 1 0) 1 0) sPart ∧
    DeliveredToPart (cellTableGate (hMe fun h => cellTableGate h 0 0) 0 0) sPart ∧
    DeliveredToPart (cellTableGate (hMe fun h => cellTableGate h 2 0) 2 0) sPart ∧
    DeliveredBroadcast (cellTableGate { dest := 31, src := 0, crc := (hAll fun h => cellTableGate h 1 0).crc } 1 0) sPart ∧
    (State.cold 5).tbs.gateOpen = false ∧
    (Instr.waterwayWrite (hMe fun h => cellWaterwayWrite h 1 50 0) 1 50 0).tableWrite.isSome = true ∧
    DeliveredToPart (cellWaterwayWrite (hMe fun h => cellWaterwayWrite h 1 50 0) 1 50 0) (State.cold 5) ∧
    DeliveredBroadcast (cellWaterwayWrite (hAll fun h => cellWaterwayWrite h 1 50 0) 1 50 0) (State.cold 5) :=
  ⟨toPart_of (by decide +kernel), toPart_of (by decide +kernel), toPart_of (by decide +kernel),
    broadcast_of (by decide +kernel), by decide, by decide +kernel, toPart_of (by decide +kernel),
    broadcast_of (by decide +kernel)⟩

/-- A PLANT write with this converter address. -/
def plantFields (conv : Byte) : PlantFields :=
  { ti := 10, shortCircuit := 1, guardTime := 30, staleTime := 20, identWait := 20, debounce := 2, convAddr := conv,
    releaseTime := 10 }

theorem witness_PlantWriteStoredOrRefused :
    (DeliveredToPart (cellPlantWrite (hMe fun h => cellPlantWrite h 0 (plantFields 8) 0) 0 (plantFields 8) 0) sUnit ∧
      sUnit.tbs.gateOpen = true ∧ sUnit.dse.engine = .paused ∧
      ¬((Plant.ofFields (plantFields 8)).convAddr = sUnit.lpu.addr ∨
        ∃ u, (sUnit.unit u).present = true ∧ (sUnit.unit u).addr = (Plant.ofFields (plantFields 8)).convAddr)) ∧
    DeliveredToPart (cellPlantWrite (hMe fun h => cellPlantWrite h 1 (plantFields 8) 0) 1 (plantFields 8) 0) sUnit ∧
    (sRun .still).dse.engine ≠ .paused ∧ (sRun .still).tbs.gateOpen = true ∧
    DeliveredToPart (cellPlantWrite (hMe fun h => cellPlantWrite h 0 (plantFields 11) 0) 0 (plantFields 11) 0) sUnit ∧
    (sUnit.unit .u1).present = true ∧ (sUnit.unit .u1).addr = (Plant.ofFields (plantFields 11)).convAddr :=
  ⟨⟨toPart_of (by decide +kernel), by decide, by decide, by
      rintro (h | ⟨u, hu⟩)
      · revert h; decide
      · revert hu; cases u <;> decide⟩,
    toPart_of (by decide +kernel), by decide, by decide, toPart_of (by decide +kernel), by decide, by decide⟩

/-- A UNIT write of this link address. -/
def unitFields (addr : Byte) : UnitFields :=
  { addr, waterway := 1, profile := 0, classCode := 4, rated := 3000, assign := 0, minRun := 600, minStill := 120,
    linger := 100 }

theorem witness_UnitWritePresentStored :
    let c (i : Byte) (a : Byte) : Cell := cellUnitWrite (hMe fun h => cellUnitWrite h i 1 (unitFields a) 0) i 1 (unitFields a) 0
    DeliveredToPart (c 1 11) sUnit ∧ DeliveredToPart (c 6 30) sUnit ∧ sUnit.tbs.gateOpen = true ∧
    (1 : Byte).toNat = UnitNo.number .u1 ∧ (6 : Byte).toNat = UnitNo.number .u6 ∧ (1 : Byte) ≠ 0 ∧
    sUnit.dse.engine = .paused ∧ PausedQuiet sUnit ∧
    (∀ v, v ≠ .u6 → (sUnit.unit v).present = true → (sUnit.unit v).addr ≠ (UnitEntry.ofFields 1 (unitFields 30)).addr) ∧
    (UnitEntry.ofFields 1 (unitFields 30)).addr ≠ sUnit.lpu.addr ∧
    (UnitEntry.ofFields 1 (unitFields 30)).addr ≠ sUnit.tbs.plant.convAddr ∧
    (∀ v, v ≠ .u1 → (sUnit.unit v).present = true → (sUnit.unit v).addr ≠ (UnitEntry.ofFields 1 (unitFields 11)).addr) ∧
    ((sUnit.unit .u1).present = true ∧ (sUnit.unit .u1).addr = (UnitEntry.ofFields 1 (unitFields 11)).addr) :=
  ⟨toPart_of (by decide +kernel), toPart_of (by decide +kernel), by decide, by decide, by decide, by decide, by decide,
    consistent_sUnit.paused (by decide), fun v => by cases v <;> decide, by decide, by decide,
    fun v => by cases v <;> decide, by decide⟩

theorem witness_UnitWriteAbsentStored :
    let c : Cell := cellUnitWrite (hMe fun h => cellUnitWrite h 6 0 (unitFields 0) 0) 6 0 (unitFields 0) 0
    DeliveredToPart c sUnit ∧ sUnit.tbs.gateOpen = true ∧ (6 : Byte).toNat = UnitNo.number .u6 ∧
      sUnit.dse.engine = .paused :=
  ⟨toPart_of (by decide +kernel), by decide, by decide, by decide⟩

theorem witness_UnitWriteRefused :
    let c (i : Byte) : Cell := cellUnitWrite (hMe fun h => cellUnitWrite h i 1 (unitFields 11) 0) i 1 (unitFields 11) 0
    DeliveredToPart (c 0) sUnit ∧ DeliveredToPart (c 7) sUnit ∧ sUnit.tbs.gateOpen = true ∧
    (DeliveredToPart (c 1) (sRun .still) ∧ (1 : Byte).toNat = UnitNo.number .u1 ∧ (sRun .still).dse.engine ≠ .paused) ∧
    DeliveredToPart (c 2) sUnit ∧ sUnit.dse.engine = .paused ∧ UnitNo.u1 ≠ .u2 ∧ (sUnit.unit .u1).present = true ∧
    (sUnit.unit .u1).addr = (UnitEntry.ofFields 1 (unitFields 11)).addr :=
  ⟨toPart_of (by decide +kernel), toPart_of (by decide +kernel), by decide,
    ⟨toPart_of (by decide +kernel), by decide, by decide⟩, toPart_of (by decide +kernel), by decide, by decide, by decide,
    by decide⟩

/-- A PROFILE write with this rate of class 0. -/
def profileFields (rate0 : BitVec 12) : ProfileFields :=
  { tRunup := 60, tSync := 60, tLoad := 60, tUnload := 60, tStop := 120, tDewater := 90, tPrun := 90, tPrime := 60,
    tConvwait := 240, tLockwait := 120, rate0, rate1 := 0, rate2 := 0, rate3 := 0, hyst := 0, bandCount := 1,
    refresh := 5 }

def bandFields : BandFields :=
  { lower := 0, gmin := 1000, gmax := 2500, ppump := 2400, rzlo := 0, rzhi := 0, turb := 1, pump := 1 }

/-- U1 in G_ON planned GEN, its share and setpoint above the Gmax that `bandFields` gives. -/
def generating : State := (planned (sRun .gOn) .gen (some 2800)).setRamp .u1 { setpoint := some 2700, refresh := some 5, rate := none }

/-- The state after U1's band is rewritten. -/
def rewritten (f : BandFields) (s : State) : State :=
  after (.bandWrite (hMe fun h => cellBandWrite h 0 0 f 0) 0 0 f 0) s

-- R35, R107, R178: rewritten contents bring share and setpoint to the new Gmax; a band without turbine stops the unit.
theorem test_band_rewritten :
    let t := rewritten bandFields generating
    let x := rewritten { bandFields with turb := 0 } generating
    ((t.entry .u1).share = some 2500 ∧ (t.ramp .u1).setpoint = some 2500 ∧ (t.seq .u1).state = .gOn ∧
      t.lpu.cmds = [{ slot := .setpoint .u1, dest := 11, cmd := .setpoint 2500 }]) ∧
    (x.entry .u1).mode = .still ∧ (x.entry .u1).forcedOut = true ∧ (x.seq .u1).state = .stopping := by
  decide +kernel

-- The clauses on the units of a content change, and on the run under a standing order.
theorem witness_ProfileAndBandWriteStored_units :
    (∀ n ∈ [SeqState.still, .gOn, .pOn, .gAir, .pAir, .gRunup, .gSync, .gLoad, .pDewater, .pConvwait, .pRunup, .pPrime,
        .gLockwait, .pLockwait, .stopping],
      agrees (sRun n) = true ∧ (sRun n).orderStands = false ∧ ((sRun n).unit .u1).present = true ∧
        ((sRun n).unit .u1).profile = 0) ∧
    (agrees generating = true ∧ ((rewritten bandFields generating).image .u1).band = .num 0 ∧
      ((rewritten bandFields generating).bandOf .u1).isSome = true ∧ (generating.unit .u2).present = false ∧
      (rewritten bandFields (assigned generating .manual)).entry .u1 ≠ generating.entry .u1) ∧
    (ordered generating .settled).orderStands = true ∧ (ordered generating .settled).tbs.gateOpen = true := by
  decide +kernel

theorem witness_ProfileAndBandWriteStored :
    let c (i : Byte) (f : ProfileFields) : Cell := cellProfileWrite (hMe fun h => cellProfileWrite h i f) i f
    let n := Profile.ofFields (profileFields 0)
    (DeliveredToPart (c 3 (profileFields 0)) (sRun .still) ∧ (sRun .still).tbs.gateOpen = true ∧
      (3 : Byte).toNat = (3 : Fin 4).val ∧
      ∀ u, ((sRun .still).unit u).present = true → ((sRun .still).unit u).profile ≠ 3) ∧
    (DeliveredToPart (c 0 (profileFields 0)) (sRun .still) ∧ (sRun .still).dse.engine ≠ .paused ∧
      ((sRun .still).unit .u1).present = true ∧ ((sRun .still).unit .u1).profile = 0 ∧
      (11, 0) ∈ n.timeouts ++ [(11, n.rate0), (16, n.bandCount)] ∧
      ∀ y ∈ n.timeouts ++ [(11, n.rate0), (16, n.bandCount)], y.1 < 11 → y.2 ≠ 0) ∧
    DeliveredToPart (cellBandWrite (hMe fun h => cellBandWrite h 3 11 bandFields 0) 3 11 bandFields 0) (sRun .gOn) ∧
    (11 : Byte).toNat = (11 : Fin 12).val :=
  ⟨⟨toPart_of (by decide +kernel), by decide, by decide, fun u => by cases u <;> decide⟩,
    ⟨toPart_of (by decide +kernel), by decide, by decide, by decide, by decide, by decide⟩,
    toPart_of (by decide +kernel), by decide⟩

/-- A MERIT write of these positions. -/
def meritOf (len p1 p2 : Byte) : MeritFields := { len, p1, p2, p3 := 3, p4 := 4, p5 := 5, p6 := 6 }

theorem witness_MeritWriteStoredOrRefused :
    let c (i : Byte) (f : MeritFields) : Cell := cellMeritWrite (hMe fun h => cellMeritWrite h i f 0) i f 0
    DeliveredToPart (c 0 (meritOf 6 1 2)) sUnit ∧ sUnit.tbs.gateOpen = true ∧ DeliveredToPart (c 1 (meritOf 0 1 2)) sUnit ∧
    DeliveredToPart (c 0 (meritOf 7 1 2)) sUnit ∧ 6 < (meritOf 7 1 2).len.toNat ∧
    DeliveredToPart (c 0 (meritOf 2 1 1)) sUnit ∧
    ¬(([(1 : Byte), 1].map BitVec.toNat)).Nodup ∧ sUnit.orderStands = false ∧
    (DeliveredToPart (c 1 (meritOf 6 1 2)) (ordered (sRun .still) .settled) ∧
      (ordered (sRun .still) .settled).orderStands = true ∧ (ordered (sRun .still) .settled).tbs.gateOpen = true ∧
      (ordered (sRun .still) .settled).rpb.queue.length + 2 ≤ 16) :=
  ⟨toPart_of (by decide +kernel), by decide, toPart_of (by decide +kernel), toPart_of (by decide +kernel), by decide,
    toPart_of (by decide +kernel), by decide, by decide, toPart_of (by decide +kernel), by decide, by decide, by decide⟩

theorem witness_WaterwayAndUnknownTableWrites :
    let c (i : Byte) (v : Half) : Cell := cellWaterwayWrite (hMe fun h => cellWaterwayWrite h i v 0) i v 0
    let p (i : Byte) : Cell := cellProfileWrite (hMe fun h => cellProfileWrite h i (profileFields 100)) i (profileFields 100)
    let b (i j : Byte) : Cell := cellBandWrite (hMe fun h => cellBandWrite h i j bandFields 0) i j bandFields 0
    let m (i : Byte) : Cell := cellMeritWrite (hMe fun h => cellMeritWrite h i (meritOf 6 1 2) 0) i (meritOf 6 1 2) 0
    let x (k : Byte) : Cell := cellUnknownTable (hMe fun h => cellUnknownTable h k 0 0) k 0 0
    sUnit.tbs.gateOpen = true ∧ sUnit.dse.engine = .paused ∧
    (DeliveredToPart (c 1 2000) sUnit ∧ (1 : Byte).toNat = Waterway.number .w1) ∧
    (DeliveredToPart (c 2 2001) sUnit ∧ (2 : Byte).toNat = Waterway.number .w2) ∧
    (DeliveredToPart (c 2 2001) (sRun .still) ∧ (sRun .still).dse.engine ≠ .paused ∧
      (sRun .still).tbs.gateOpen = true) ∧
    DeliveredToPart (c 0 50) sUnit ∧ DeliveredToPart (c 3 50) sUnit ∧
    (DeliveredToPart (p 4) sUnit ∧ 3 < (4 : Byte).toNat) ∧
    (DeliveredToPart (b 4 0) sUnit ∧ DeliveredToPart (b 3 12) sUnit ∧ 11 < (12 : Byte).toNat) ∧
    (DeliveredToPart (m 2) sUnit ∧ 1 < (2 : Byte).toNat) ∧
    DeliveredToPart (x 0) sUnit ∧ DeliveredToPart (x 7) sUnit :=
  ⟨by decide, by decide, ⟨toPart_of (by decide +kernel), by decide⟩, ⟨toPart_of (by decide +kernel), by decide⟩,
    ⟨toPart_of (by decide +kernel), by decide, by decide⟩, toPart_of (by decide +kernel), toPart_of (by decide +kernel),
    ⟨toPart_of (by decide +kernel), by decide⟩,
    ⟨toPart_of (by decide +kernel), toPart_of (by decide +kernel), by decide⟩,
    ⟨toPart_of (by decide +kernel), by decide⟩, toPart_of (by decide +kernel), toPart_of (by decide +kernel)⟩

-- R193, R22: a power is read as signed, so FFFF is -1 and below every lower limit.
theorem test_power_signed : (Band.ofFields { bandFields with gmin := 0xFFFF, gmax := 0x8000 }).gmin = 0 ∧
    (Band.ofFields { bandFields with gmin := 0xFFFF, gmax := 0x8000 }).gmax = 0 ∧
    (Band.ofFields { bandFields with gmax := 0x7FFF }).gmax = 5000 ∧
    (UnitEntry.ofFields 1 { unitFields 11 with rated := 0xFFFF }).rated = 1 := by decide

theorem tables_in_range : sUnit.tbs.InRange :=
  ⟨⟨by decide, by decide, by decide, by decide, by decide, by decide, by decide⟩,
    fun u => by cases u <;> exact ⟨by decide, by decide, by decide, by decide, by decide, by decide, by decide⟩,
    fun p => ⟨by revert p; decide +kernel, by revert p; decide +kernel, by revert p; decide +kernel,
      by revert p; decide +kernel, by revert p; decide +kernel⟩,
    fun p k => ⟨by revert p k; decide +kernel, by revert p k; decide +kernel, by revert p k; decide +kernel,
      by revert p k; decide +kernel, by revert p k; decide +kernel, by revert p k; decide +kernel⟩,
    by decide, by decide, fun w => by cases w <;> decide⟩

theorem addresses_apart : AddressesApart sUnit :=
  ⟨by decide, fun u v => by cases u <;> cases v <;> decide, fun u => by cases u <;> decide, fun u => by cases u <;> decide⟩

theorem queues_and_alert (n : SeqState) (h : n.alerts = false) : QueuesAndAlert (sRun n) :=
  ⟨by show sUnit.lpu.dnFwd.length ≤ 32; decide, by show sUnit.lpu.upFwd.length ≤ 32; decide,
    by show sUnit.rpb.queue.length ≤ 16; decide, by show (sUnit.lpu.cmds.map Waiting.slot).Nodup; decide, by
    have : (sRun n).alertDue = n.alerts := by cases n <;> decide +kernel
    rw [this, h]; rfl⟩

theorem witness_TableReadCarriesEntry :
    let c (t i b : Byte) : Cell := cellTableRead (hMe fun h => cellTableRead h t i b 0) t i b 0
    sUnit.tbs.InRange ∧ DeliveredToPart (c 1 0 0) sUnit ∧ DeliveredToPart (c 2 6 0) sUnit ∧ DeliveredToPart (c 3 3 0) sUnit ∧
    DeliveredToPart (c 4 3 11) sUnit ∧ DeliveredToPart (c 5 0 0) sUnit ∧ DeliveredToPart (c 5 1 0) sUnit ∧
    DeliveredToPart (c 6 2 0) sUnit ∧ DeliveredToPart (c 4 3 12) sUnit ∧ DeliveredToPart (c 7 0 0) sUnit :=
  ⟨tables_in_range, toPart_of (by decide +kernel), toPart_of (by decide +kernel), toPart_of (by decide +kernel),
    toPart_of (by decide +kernel), toPart_of (by decide +kernel), toPart_of (by decide +kernel),
    toPart_of (by decide +kernel), toPart_of (by decide +kernel), toPart_of (by decide +kernel)⟩

theorem witness_TablesStayInRange : sUnit.tbs.InRange ∧ step sUnit = .next sUnit := ⟨tables_in_range, rfl⟩

theorem witness_OnlyNamedRowsChangeSettings :
    let i := Instr.engineRun (hMe fun h => cellEngine h 1 0) 0
    exec i sUnit = .next (after i sUnit) ∧ (∀ strap, i ≠ .resetNRelease strap) ∧
      (after i sUnit).dse.engine ≠ sUnit.dse.engine :=
  ⟨rfl, fun _ => by simp, by decide +kernel⟩

theorem witness_AddressesStayApart : AddressesApart sUnit ∧ step sUnit = .next sUnit := ⟨addresses_apart, rfl⟩

theorem witness_QueuesAndAlertKept : QueuesAndAlert (sRun .gOn) ∧ step (sRun .gOn) = .next (sRun .gOn) :=
  ⟨queues_and_alert _ rfl, rfl⟩

theorem witness_ConsistencyKept : Consistent sUnit ∧ step sUnit = .next sUnit := ⟨consistent_sUnit, rfl⟩

theorem witness_EngineRunAccepted :
    let s (i : Image) : State := imaged sUnit i
    (DeliveredToPart (cellEngine (hMe fun h => cellEngine h 1 0) 1 0) sUnit ∧ sUnit.dse.engine = .paused ∧
      Consistent sUnit ∧ (∀ i, Consistent (s i)) ∧ ∀ u, (sUnit.unit u).present = true → PassesRun sUnit u) ∧
    ((s { image with stage := some .turbOn }).bandOf .u1 = some band ∧ band.turb = true ∧ band.pump = true) ∧
    (s { image with stage := some .pumpOn, band := .invalid }).bandOf .u1 = none ∧ (sUnit.unit .u2).present = false :=
  ⟨⟨toPart_of (by decide +kernel), by decide, consistent_sUnit, consistent_imaged, fun u => by
    cases u <;> (intro h; exact ⟨by decide, by decide, by decide, by decide⟩)⟩,
    ⟨by decide +kernel, by decide, by decide⟩, by decide +kernel, by decide⟩

/-- U1's profile as given. -/
def profiled (p : Profile) : State := { sUnit with tbs := { sUnit.tbs with profiles := sUnit.tbs.profiles.set 0 p } }

theorem witness_EngineRunRefused :
    let c := cellEngine (hMe fun h => cellEngine h 1 0) 1 0
    (DeliveredToPart c (sRun .still) ∧ (sRun .still).dse.engine ≠ .paused) ∧ (sUnit.unit .u1).present = true ∧
    (∀ v : UnitNo, v.number < UnitNo.number .u1 → (sUnit.unit v).present = true → PassesRun sUnit v) ∧
    (DeliveredToPart c (profiled { profile with bandCount := 0 }) ∧
      ((profiled { profile with bandCount := 0 }).profileOf .u1).bandCount = 0) ∧
    (((profiled { profile with tSync := 0 }).profileOf .u1).bandCount ≠ 0 ∧
      (2, 0) ∈ ((profiled { profile with tSync := 0 }).profileOf .u1).timeouts) ∧
    ((profiled { profile with rate0 := 0 }).profileOf .u1).rate0 = 0 ∧
    ({ sUnit.tbs with budgets := { w1 := 0, w2 := 0 } } : Tbs).budgets.get (sUnit.unit .u1).waterway = 0 :=
  ⟨⟨toPart_of (by decide +kernel), by decide⟩, by decide, fun v h => absurd h (by cases v <;> decide),
    ⟨toPart_of (by decide +kernel), by decide⟩, by decide, by decide, by decide⟩

theorem witness_EnginePauseDecided :
    let c := cellEngine (hMe fun h => cellEngine h 2 0) 2 0
    (DeliveredToPart c sUnit ∧ sUnit.dse.engine = .paused) ∧
    (DeliveredToPart c (sRun .stopping) ∧ (sRun .stopping).dse.engine ≠ .paused ∧
      ((sRun .stopping).seq .u1).state = .stopping) ∧
    DeliveredToPart c (sRun .gOn) ∧ (sRun .gOn).dse.engine ≠ .paused ∧
    ¬((∃ u, ((sRun .gOn).seq u).state.transition = true ∨ ((sRun .gOn).seq u).state = .stopping) ∨
      (sRun .gOn).pra.arb = .connecting ∨ (sRun .gOn).pra.arb = .inUse ∨ (sRun .gOn).pra.arb = .releasing) :=
  ⟨⟨toPart_of (by decide +kernel), by decide⟩, ⟨toPart_of (by decide +kernel), by decide, by decide⟩,
    toPart_of (by decide +kernel), by decide, by
      rintro (⟨u, h⟩ | h)
      · revert h; cases u <;> decide
      · revert h; decide⟩

theorem witness_TraceAndBadEngineRequests :
    DeliveredToPart (cellEngine (hMe fun h => cellEngine h 3 0) 3 0) sPart ∧
    DeliveredToPart (cellTrace (hMe fun h => cellTrace h 1 0) 1 0) sPart ∧
    DeliveredToPart (cellTrace (hMe fun h => cellTrace h 0 0) 0 0) sPart ∧
    DeliveredToPart (cellTrace (hMe fun h => cellTrace h 2 0) 2 0) sPart :=
  ⟨toPart_of (by decide +kernel), toPart_of (by decide +kernel), toPart_of (by decide +kernel),
    toPart_of (by decide +kernel)⟩

theorem witness_RestartIsWarmReset : DeliveredToPart (cellRestart (hMe fun h => cellRestart h 0) 0) (sRun .gOn) :=
  toPart_of (by decide +kernel)

theorem witness_WatchSetsMask :
    let c (u : Byte) : Cell := cellWatch (hMe fun h => cellWatch h u 3 0) u 3 0
    let s := imaged sUnit { image with interlocks := { image.interlocks with b0 := on } }
    let waiting : State := { s with rpb := { s.rpb with queue := [.unitEvent .u1 0 true] } }
    (DeliveredToPart (c 1) sUnit ∧ (1 : Byte).toNat = UnitNo.number .u1 ∧ (sUnit.unit .u1).present = true ∧
      (3 : Byte) &&& ~~~(sUnit.image .u1).watch &&& (sUnit.image .u1).activeInterlocks = 0) ∧
    (DeliveredToPart (c 1) s ∧ (3 : Byte) &&& ~~~(s.image .u1).watch &&& (s.image .u1).activeInterlocks &&&
      ~~~(s.image .u1).events ≠ 0 ∧ ¬∃ r ∈ s.rpb.queue, r.isEventOf .u1 = true) ∧
    (DeliveredToPart (c 1) waiting ∧ ∃ r ∈ waiting.rpb.queue, r.isEventOf .u1 = true) ∧
    DeliveredToPart (c 0) sUnit ∧ DeliveredToPart (c 7) sUnit ∧
    DeliveredToPart (c 6) sUnit ∧ (6 : Byte).toNat = UnitNo.number .u6 ∧ (sUnit.unit .u6).present = false :=
  ⟨⟨toPart_of (by decide +kernel), by decide, by decide, by decide⟩,
    ⟨toPart_of (by decide +kernel), by decide, by decide⟩, ⟨toPart_of (by decide +kernel), by decide⟩,
    toPart_of (by decide +kernel), toPart_of (by decide +kernel),
    toPart_of (by decide +kernel), by decide, by decide⟩

/-- The guard timer running, perhaps with an order deferred. -/
def guarded (s : State) (d : Option Order) : State := s.setDse { s.dse with guardTmr := some 30, deferred := d }

theorem witness_NetPowerDecided :
    let c (v : Half) : Cell := cellNetPower (hMe fun h => cellNetPower h 9 v 4 0) 9 v 4 0
    (DeliveredToPart (c 30000) sUnit ∧ sUnit.dse.engine ≠ .running) ∧
    (DeliveredToPart (c 30001) (guarded (sRun .still) (some order)) ∧
      (guarded (sRun .still) (some order)).dse.engine = .running ∧
      (guarded (sRun .still) (some order)).dse.guardTmr.isSome = true) ∧
    DeliveredToPart (c 30001) (sRun .still) ∧ (sRun .still).dse.engine = .running ∧ (sRun .still).dse.guardTmr = none :=
  ⟨⟨toPart_of (by decide +kernel), by decide⟩, ⟨toPart_of (by decide +kernel), by decide, by decide⟩,
    toPart_of (by decide +kernel), by decide, by decide⟩

theorem witness_GuardExpiryTakesDeferred :
    let s := guarded (sRun .still)
    (s none).held = false ∧ (s none).dse.guardTmr.isSome = true ∧ (s none).dse.deferred = none ∧
      (s (some order)).dse.deferred = some order ∧ (sRun .still).dse.guardTmr = none := by
  decide

theorem witness_UnitModeDecided :
    let c (u m : Byte) : Cell := cellUnitMode (hMe fun h => cellUnitMode h 9 u m 1500 0 0) 9 u m 1500 0 0
    let s := assigned (sRun .still) .manual
    (DeliveredToPart (c 7 1) s ∧ DeliveredToPart (c 6 1) s ∧ (s.unit .u6).present = false) ∧
    (DeliveredToPart (c 1 1) (sRun .still) ∧ ((sRun .still).unit .u1).present = true ∧
      (sRun .still).assignOf .u1 = .auto) ∧
    (DeliveredToPart (c 1 1) (assigned sUnit .manual) ∧ (assigned sUnit .manual).assignOf .u1 = .manual ∧
      (assigned sUnit .manual).dse.engine = .paused) ∧
    (DeliveredToPart (c 1 1) s ∧ s.assignOf .u1 = .manual ∧ s.dse.engine ≠ .paused ∧ s.bandOf .u1 = some band ∧
      band.turb = true ∧ band.pump = true) ∧
    (∀ b, (imaged s { image with band := .none }).bandOf .u1 = some b → b.turb = false) ∧
    DeliveredToPart (c 1 5) s ∧ 4 < (5 : Byte).toNat :=
  ⟨⟨toPart_of (by decide +kernel), toPart_of (by decide +kernel), by decide⟩,
    ⟨toPart_of (by decide +kernel), by decide, by decide⟩, ⟨toPart_of (by decide +kernel), by decide, by decide⟩,
    ⟨toPart_of (by decide +kernel), by decide, by decide, by decide +kernel, by decide, by decide⟩,
    fun b h => by simp [imaged, State.bandOf, State.image, State.setImage, PerUnit.set, PerUnit.get] at h,
    toPart_of (by decide +kernel), by decide⟩

/-- U1 MANUAL with its sequencer in this state, planned so. -/
def manual (n : SeqState) (m : PlanMode) : State := planned (assigned (sRun n) .manual) m none

-- The clauses on a change of planned mode: each state, each mode it can be planned to, and each mode ordered.
theorem witness_UnitModeDecided_change :
    (∀ n ∈ [SeqState.still, .gOn, .pOn, .gAir, .pAir, .gRunup, .gSync, .gLoad, .pDewater, .pConvwait, .pRunup, .pPrime,
        .gLockwait, .pLockwait, .gUnload, .pUnload, .stopping, .localCmd, .tripped],
      ∀ m ∈ [PlanMode.still, .gen, .pump, .genAir, .pumpAir],
      agrees (manual n m) = true ∧ (manual n m).orderStands = false ∧ ((manual n m).entry .u1).mode = m) ∧
    (∀ n ∈ [SeqState.still, .gOn, .pOn, .gAir, .pAir], n.stable = true) ∧ 0 < ((manual .gOn .gen).unit .u1).linger ∧
    ((manual .gOn .gen).image .u1).perm.air.val = true ∧ ((manual .gOn .gen).image .u1).perm.lockout.val = false ∧
    ((manual .gAir .gen).pra.locks.get .w1).holder = none := by
  decide +kernel

theorem witness_UnitAssignSetsAssignment :
    let c (u a : Byte) : Cell := cellUnitAssign (hMe fun h => cellUnitAssign h 9 u a 0) 9 u a 0
    (DeliveredToPart (c 0 1) sUnit ∧ DeliveredToPart (c 6 1) sUnit ∧ (sUnit.unit .u6).present = false) ∧
    DeliveredToPart (c 1 2) sUnit ∧ (sUnit.unit .u1).present = true ∧ sUnit.orderStands = false :=
  ⟨⟨toPart_of (by decide +kernel), toPart_of (by decide +kernel), by decide⟩, toPart_of (by decide +kernel), by decide,
    by decide⟩

theorem witness_UnitClearReleasesTrip :
    let c (u : Byte) : Cell := cellUnitClear (hMe fun h => cellUnitClear h 9 u 0) 9 u 0
    let s := imaged (sRun .tripped) { image with perm := { image.perm with remote := .cold } }
    (DeliveredToPart (c 7) sUnit ∧ DeliveredToPart (c 6) sUnit) ∧
    (DeliveredToPart (c 1) (sRun .still) ∧ ((sRun .still).seq .u1).state ≠ .tripped) ∧
    (DeliveredToPart (c 1) (sRun .tripped) ∧ ((sRun .tripped).seq .u1).state = .tripped ∧
      ((sRun .tripped).image .u1).stage = some .still ∧ ((sRun .tripped).image .u1).fault = 0 ∧
      ResourcesAgree (sRun .tripped) ∧ 0 < ((sRun .tripped).unit .u1).minStill ∧
      ((sRun .tripped).image .u1).perm.remote.val = true) ∧
    ResourcesAgree s ∧ (s.seq .u1).state = .tripped ∧ (s.image .u1).perm.remote.val = false :=
  ⟨⟨toPart_of (by decide +kernel), toPart_of (by decide +kernel)⟩, ⟨toPart_of (by decide +kernel), by decide⟩,
    ⟨toPart_of (by decide +kernel), by decide, by decide, by decide, agrees_of (by decide +kernel), by decide, by decide⟩,
    agrees_of (by decide +kernel), by decide, by decide⟩

theorem witness_AbortAndResume :
    let a := cellAbort (hMe fun h => cellAbort h 9 0) 9 0
    let r := cellResume (hMe fun h => cellResume h 9 0) 9 0
    let s := engineIs (sRun .dormant) .halted
    let on : State := planned (imaged s { image with stage := some .turbOn }) .gen (some 1800)
    DeliveredToPart a sUnit ∧ DeliveredToPart a s ∧ DeliveredToPart a (ordered (sRun .gOn) .active) ∧
    (ordered (sRun .gOn) .active).dse.engine = .running ∧
    DeliveredToPart r sUnit ∧ sUnit.dse.engine ≠ .halted ∧ DeliveredToPart r s ∧ s.dse.engine = .halted ∧
    s.dse.standing.state = .none ∧ ResourcesAgree s ∧ (s.seq .u1).state = .dormant ∧ (s.unit .u1).present = true ∧
    (s.image .u1).identity = .verified ∧ (s.seq .u2).state = .dormant ∧ (s.unit .u2).present = false ∧
    (s.image .u1).stage = some .still ∧ (s.entry .u1).mode = .still ∧
    DeliveredToPart r on ∧ ResourcesAgree on ∧ (on.image .u1).perm.remote.val = true ∧ (on.entry .u1).mode = .gen ∧
    on.bandOf .u1 = some band :=
  ⟨toPart_of (by decide +kernel), toPart_of (by decide +kernel), toPart_of (by decide +kernel), by decide,
    toPart_of (by decide +kernel), by decide, toPart_of (by decide +kernel), by decide, by decide,
    agrees_of (by decide +kernel), by decide, by decide, by decide, by decide, by decide, by decide, by decide,
    toPart_of (by decide +kernel), agrees_of (by decide +kernel), by decide, by decide, by decide +kernel⟩

/-- U1 and U2 on W1: `h` holds the lock in G_RUNUP, `w` waits for it in this state, with this origin. -/
def waiting (h w : UnitNo) (n : SeqState) (o : Origin) : State :=
  let s : State := { sRun .still with
    tbs := { sUnit.tbs with units := sUnit.tbs.units.set .u2 { unitEntry with addr := 12 } }
    uib := { sUnit.uib with images := sUnit.uib.images.set .u2 image } }
  ((s.setSeq h { Seq.cold with state := .gRunup, stageTimer := some 60 }).setSeq w
    { Seq.cold with state := n, origin := o, stageTimer := some 60 }).setLock .w1 { holder := some h, waiters := [w] }

-- The clauses on the sequencers at ABORT: each state; a lock wait of a lower and of a higher number than its holder.
-- And a sequencer out of DORMANT at RESUME.
theorem witness_AbortAndResume_sequencers :
    (∀ n ∈ [SeqState.still, .gOn, .pOn, .gAir, .pAir, .gRunup, .gSync, .gLoad, .gUnload, .pDewater, .pConvwait, .pRunup,
        .pPrime, .pUnload, .stopping, .localCmd, .tripped, .unsettled, .gLockwait, .pLockwait],
      agrees (sRun n) = true ∧ ((sRun n).seq .u1).state = n) ∧
    ((sRun .gOn).turbineBand .u1).isSome = true ∧ ((sRun .pOn).pumpBand .u1).isSome = true ∧
    ((imaged (sRun .gOn) { image with band := .none }).turbineBand .u1).isSome = false ∧
    (agrees (waiting .u2 .u1 .gLockwait .air) = true ∧ (waiting .u2 .u1 .gLockwait .air).lockOf .u1 =
      { holder := some .u2, waiters := [.u1] } ∧ UnitNo.number .u1 < UnitNo.number .u2) ∧
    (agrees (waiting .u1 .u2 .gLockwait .still) = true ∧ ((waiting .u1 .u2 .gLockwait .still).lockOf .u2).holder = some .u1 ∧
      (((waiting .u1 .u2 .gLockwait .still).lockOf .u2).waiters.filter fun v =>
        decide (UnitNo.number .u1 < v.number)).head? = some .u2) ∧
    (agrees (engineIs (sRun .gOn) .halted) = true ∧ ((engineIs (sRun .gOn) .halted).seq .u1).state ≠ .dormant ∧
      (engineIs (sRun .gOn) .halted).dse.standing.state = .none) := by
  decide +kernel

-- R79, R160: at ABORT a wait behind a higher number returns; behind a lower one it is handed the lock first, and stops.
theorem test_abort_lock_waits :
    let aborted (s : State) : State := after (.abort (hMe fun h => cellAbort h 9 0) 9 0) s
    ((aborted (waiting .u2 .u1 .gLockwait .still)).seq .u1).state = .still ∧
      ((aborted (waiting .u1 .u2 .gLockwait .still)).seq .u2).state = .stopping := by
  decide +kernel

-- The clauses on the sequencers' turns on a plan under a standing order: each state under an ACTIVE and a SETTLED order,
-- the guard timer stopped and running with a deferred order; at UNIT_CLEAR with REMOTE active and inactive; and the premises
-- of a turn: each state with a mode that its path goes on for, and with one that it does not.
theorem witness_turns_under_an_order :
    (∀ n ∈ [SeqState.still, .gOn, .pOn, .gAir, .pAir, .gRunup, .gSync, .gLoad, .pDewater, .pConvwait, .pRunup, .pPrime,
        .gLockwait, .pLockwait, .gUnload, .pUnload, .stopping, .localCmd, .tripped],
      ∀ st ∈ [OrderState.active, .settled],
      let s := ordered (sRun n) st
      agrees s = true ∧ agrees (guarded s (some order)) = true ∧ s.orderStands = true ∧ s.dse.engine = .running ∧
        s.dse.guardTmr = none ∧ (s.unit .u1).present = true) ∧
    ((assigned (ordered (sRun .still) .active) .manual).orderStands = true ∧
      agrees (assigned (ordered (sRun .still) .active) .manual) = true ∧
      ((assigned (ordered (sRun .still) .active) .manual).entry .u1).mode ≠ .gen) ∧
    (let s := ordered (imaged (sRun .tripped) { image with perm := { image.perm with remote := .cold } }) .active
     agrees s = true ∧ s.orderStands = true ∧ (s.image .u1).perm.remote.val = false) ∧
    (let s := imaged (ordered (sRun .dormant) .active) { image with identity := .identWait, identTimer := some 20 }
     agrees s = true ∧ s.orderStands = true ∧ (s.image .u1).identity = .identWait) ∧
    (∀ n ∈ [SeqState.gRunup, .gSync, .gLoad, .gLockwait], GoesOn { Seq.cold with state := n } .gen ∧
      ¬GoesOn { Seq.cold with state := n } .still) ∧
    (∀ n ∈ [SeqState.pDewater, .pConvwait, .pRunup, .pPrime, .pLockwait], GoesOn { Seq.cold with state := n } .pump ∧
      ¬GoesOn { Seq.cold with state := n } .still) ∧
    (agrees (ordered (waiting .u1 .u2 .gLockwait .air) .active) = true ∧
      ((ordered (waiting .u1 .u2 .gLockwait .air) .active).lockOf .u1).waiters.head? = some .u2) := by
  refine ⟨by decide +kernel, by decide +kernel, by decide +kernel, by decide +kernel, ?_, ?_, by decide +kernel⟩ <;>
    (intro n h
     simp only [List.mem_cons, List.not_mem_nil, or_false] at h
     rcases h with rfl | h <;> (try rcases h with rfl | h) <;> (try rcases h with rfl | h) <;>
       (try rcases h with rfl | h) <;> (try rcases h with rfl | h) <;> simp_all [GoesOn, Seq.cold])

-- R89, R128: at a taken NET_POWER U1, in STILL and planned GEN, starts at once; in G_RUNUP it goes on, its record as it was.
theorem test_net_power_sequencers :
    let taken (v : Half) : State → State := after (.netPower (hMe fun h => cellNetPower h 9 v 0 0) 9 v 0 0)
    let t := taken 1700 (sRun .still)
    let x := taken 1700 (planned (sRun .gRunup) .gen (some 1500))
    ((t.entry .u1).share = some 1700 ∧ (t.seq .u1).state = .gRunup ∧ t.pra.locks.w1.holder = some .u1 ∧
      t.lpu.cmds = [{ slot := .stage .u1, dest := 11, cmd := .goTurbine }]) ∧
    (x.entry .u1).share = some 1700 ∧ x.seq .u1 = (sRun .gRunup).seq .u1 ∧ x.lpu.cmds = [] := by
  decide +kernel

-- R89, R126, R160, R162: a plan of nothing stops U1 in G_RUNUP, which hands its lock to U2; U2 acts next and stops too.
theorem test_net_power_hands_lock :
    let s := (planned (waiting .u1 .u2 .gLockwait .still) .gen (some 1500)).setEntry .u2
      { Entry.cold with mode := .gen, share := some 1500 }
    let t := after (.netPower (hMe fun h => cellNetPower h 9 0 0 0) 9 0 0 0) s
    (t.seq .u1).state = .stopping ∧ (t.seq .u2).state = .stopping ∧ t.pra.locks.w1 = { holder := none, waiters := [] } ∧
      t.rpb.queue.drop 1 = [.unitState .u1 .gRunup .stopping .abandoned (some .still) 0,
        .unitState .u2 .gRunup .stopping .abandoned (some .still) 0] := by
  decide +kernel

/-- A UNIT_STATUS from unit controller 11. -/
def status (stage fault : Byte) (head : Half) : Cell :=
  cellUnitStatus (hTel fun h => cellUnitStatus h stage fault 1500 head 7 0 0) stage fault 1500 head 7 0 0

theorem witness_UnitStatusUpdatesImage :
    let mine := cellUnitStatus (hdr (fun h => cellUnitStatus h 0 0 0 0 0 0 0) 5 11) 0 0 0 0 0 0 0
    (Delivered mine sUnit ∧ toPart mine sUnit = true) ∧
    (Delivered (status 9 0 4500) sUnit ∧ toPart (status 9 0 4500) sUnit = false ∧ unitAt 11 sPart = none) ∧
    (Delivered (status 8 0 15000) sUnit ∧ unitAt 11 sUnit = some .u1 ∧ Stage.code .trip = 8 ∧
      (sUnit.image .u1).region = some { lo := 0, hi := none }) ∧
    Delivered (status 0 0 15001) sUnit :=
  ⟨⟨delivered_of (by decide +kernel), by decide⟩, ⟨delivered_of (by decide +kernel), by decide, by decide⟩,
    ⟨delivered_of (by decide +kernel), by decide, by decide, by decide⟩, delivered_of (by decide +kernel)⟩

/-- The state after U1 reported this stage and head. -/
def reported (stage : Byte) (head : Half) (s : State) : State :=
  after (.unitStatus (hTel fun h => cellUnitStatus h stage 0 1500 head 7 0 0) stage 0 1500 head 7 0 0) s

-- The clauses on a band change: a unit in G_ON planned GEN that gets its band, and one that loses it.
theorem witness_UnitStatusUpdatesImage_band :
    let gains : State := planned (imaged (sRun .gOn) { image with stage := some .turbOn, band := .none, region := none })
      .gen (some 1800)
    let loses : State := planned (imaged (sRun .gOn) { image with stage := some .turbOn }) .gen (some 1800)
    (agrees gains = true ∧ gains.orderStands = false ∧ (gains.seq .u1).state.ownStage = some .turbOn ∧
      Stage.code .turbOn = 2 ∧ (7 : Byte).getLsbD 2 = (gains.image .u1).perm.remote.val ∧
      (7 : Byte).getLsbD 3 = (gains.image .u1).perm.lockout.val) ∧
    (((reported 2 4500 gains).image .u1).band ≠ (gains.image .u1).band ∧
      (reported 2 4500 gains).bandOf .u1 = some band) ∧
    (((reported 2 15001 loses).image .u1).band ≠ (loses.image .u1).band ∧
      (reported 2 15001 loses).bandOf .u1 = none) := by
  decide +kernel

-- The clauses on a run under a standing order: with and without an allocation trigger.
theorem witness_UnitStatusUpdatesImage_run :
    let s : State := ordered (imaged (sRun .gOn) { image with stage := some .turbOn }) .settled
    let stale : State := imaged s { image with stage := some .turbOn, stale := true }
    agrees s = true ∧ s.orderStands = true ∧ (s.image .u1).stale = false ∧ agrees stale = true ∧
      stale.orderStands = true ∧ (stale.image .u1).stale = true ∧ (s.seq .u1).state ≠ .unsettled ∧
      (s.seq .u1).state ≠ .localCmd ∧ (reported 2 4500 s).dse.standing.state = .settled ∧
      (reported 2 4500 stale).dse.standing.state = .active := by
  decide +kernel

theorem witness_DebounceCountsCells :
    DeliveredPast (status 8 0 4500) sUnit ∧ unitAt 11 sUnit = some .u1 ∧ (8 : Byte).toNat ≤ 8 :=
  ⟨past_of (by decide +kernel), by decide, by decide⟩

theorem witness_BandCandidateAndJudgement : (0 : Nat) ≤ 12 ∧ (12 : Nat) ≤ 12 := by decide

theorem witness_UnitFaultTrips :
    let s (n : SeqState) (remote lockout : Debounced) : State :=
      imaged (sRun n) { image with perm := { image.perm with remote, lockout } }
    let ripe (v : Bool) : Debounced := { val := v, run := 1 }
    (∀ n ∈ [SeqState.gOn, .gSync, .stopping, .gAir, .still],
      agrees (sRun n) = true ∧ agrees (s n (ripe true) .cold) = true ∧ agrees (s n on (ripe false)) = true ∧
      (sRun n).orderStands = false) ∧
    (∀ n ∈ [SeqState.gOn, .gSync, .stopping, .gAir, .still], QueuesAndAlert (sRun n)) ∧
    DeliveredPast (status 8 0 4500) (sRun .gOn) ∧ DeliveredPast (status 0 1 4500) (sRun .gOn) ∧
    unitAt 11 (sRun .gOn) = some .u1 ∧ ((sRun .gOn).image .u1).identity = .verified ∧
    (7 : Byte).getLsbD 2 = ((sRun .gOn).image .u1).perm.remote.val ∧
    (7 : Byte).getLsbD 3 = ((sRun .gOn).image .u1).perm.lockout.val ∧ ((sRun .gOn).seq .u1).state.stable = true ∧
    (SeqState.awaited .gSync ≠ some .pumpAir ∧ ((sRun .gSync).seq .u1).prior ≠ some .pumpAir) ∧
    SeqState.ownStage .gOn ≠ some .still ∧ SeqState.ownStage .gOn = some .turbOn ∧
    ((3 : Byte).getLsbD 2 = false ∧ ((s .gOn (ripe true) .cold).image .u1).perm.remote.val = true ∧
      (s .gOn (ripe true) .cold).tbs.plant.debounce ≤ ((s .gOn (ripe true) .cold).image .u1).perm.remote.run + 1) ∧
    ((15 : Byte).getLsbD 3 ≠ ((s .gAir on (ripe false)).image .u1).perm.lockout.val ∧
      (s .gAir on (ripe false)).tbs.plant.debounce ≤ ((s .gAir on (ripe false)).image .u1).perm.lockout.run + 1 ∧
      ((s .gAir on (ripe false)).seq .u1).linger.isSome = true ∧ SeqState.ownStage .gAir = some .turbAir) :=
  ⟨by decide +kernel, fun n h => by
      simp only [List.mem_cons, List.not_mem_nil, or_false] at h
      rcases h with rfl | rfl | rfl | rfl | rfl <;> exact queues_and_alert _ rfl,
    past_of (by decide +kernel), past_of (by decide +kernel), by decide, by decide, by decide, by decide, by decide,
    by decide, by decide, by decide, by decide, by decide⟩

-- R128, R140: with no order standing, a start owed in STILL begins when LOCKOUT becomes inactive.
theorem test_lockout_cleared_starts :
    let s := planned (imaged (sRun .still)
      { image with perm := { image.perm with lockout := { val := true, run := 1 } } }) .pump none
    let t := reported 0 4500 s
    (agrees s = true ∧ s.orderStands = false ∧ (7 : Byte).getLsbD 3 ≠ (s.image .u1).perm.lockout.val ∧
      s.tbs.plant.debounce ≤ (s.image .u1).perm.lockout.run + 1 ∧ (t.image .u1).band = (s.image .u1).band) ∧
    (t.seq .u1).state = .pDewater ∧ { slot := .stage .u1, dest := 11, cmd := .dewater } ∈ t.lpu.cmds := by
  decide +kernel

theorem witness_AwaitedStageAdvances :
    let ready : State := { sRun .pDewater with uib := { (sRun .pDewater).uib with
      conv := { ready := true, fault := false, connected := 0 } } }
    let away : State := imaged (sRun .localCmd) { image with perm := { image.perm with remote := { val := false, run := 1 } } }
    (∀ n ∈ [SeqState.gRunup, .gSync, .gLoad, .pPrime, .gUnload, .pUnload, .pRunup, .pDewater, .stopping],
      agrees (sRun n) = true ∧ (sRun n).orderStands = false ∧ n.awaited.isSome = true) ∧
    DeliveredPast (status 2 0 4500) (planned (sRun .gSync) .gen (some 1800)) ∧
    unitAt 11 (planned (sRun .gSync) .gen (some 1800)) = some .u1 ∧ Stage.code .turbOn = 2 ∧
    SeqState.awaited .gSync = some .turbOn ∧
    (agrees ready = true ∧ ready.pra.arb = .free ∧ ready.pra.startQueue = [] ∧ SeqState.awaited .pDewater = some .dry ∧
      ((reported 4 4500 ready).image .u1).band = (ready.image .u1).band) ∧
    (sRun .pDewater).uib.conv.ready = false ∧
    (DeliveredPast (status 0 0 4500) away ∧ agrees away = true ∧ (away.seq .u1).state = .localCmd ∧
      away.dse.engine ≠ .paused ∧ away.orderStands = false ∧ (7 : Byte).getLsbD 2 = true ∧
      away.tbs.plant.debounce ≤ (away.image .u1).perm.remote.run + 1 ∧ (away.entry .u1).mode = .still ∧
      ((reported 0 4500 away).image .u1).band = (away.image .u1).band) ∧
    (agrees (planned away .gen (some 1800)) = true ∧
      ((reported 2 4500 (planned away .gen (some 1800))).image .u1).band = (away.image .u1).band) ∧
    (agrees (sRun .unsettled) = true ∧ agrees (ordered (sRun .unsettled) .active) = true ∧
      (ordered away .active).orderStands = true ∧ agrees (ordered away .active) = true ∧
      ((sRun .unsettled).image .u1).perm.remote.val = true ∧
      ((reported 0 4500 (ordered (sRun .unsettled) .active)).image .u1).band = image.band) :=
  ⟨by decide +kernel, past_of (by decide +kernel), by decide, by decide, by decide, by decide +kernel, by decide,
    ⟨past_of (by decide +kernel), by decide +kernel⟩, by decide +kernel, by decide +kernel⟩

-- The clauses on arrivals: each state with the stage it awaits, its unit planned any mode, and the band kept.
theorem witness_AwaitedStageAdvances_arrivals :
    (∀ x ∈ [(SeqState.gSync, (2 : Byte)), (.gLoad, 2), (.pPrime, 6), (.gUnload, 3), (.pUnload, 5), (.pRunup, 5),
        (.stopping, 0)], ∀ m ∈ [PlanMode.still, .gen, .pump, .genAir, .pumpAir],
      agrees (planned (sRun x.1) m none) = true ∧ (planned (sRun x.1) m none).orderStands = false ∧
        x.1.awaited.map Stage.code = some x.2 ∧
        ((reported x.2 4500 (planned (sRun x.1) m none)).image .u1).band = image.band) ∧
    (sRun .gSync).rpb.queue.length + 2 ≤ 16 := by
  decide +kernel

-- R121, R124: a unit that reaches PUMP_AIR planned PUMP goes on to prime at once where the lock is free.
theorem test_pump_air_goes_on :
    let t := reported 5 4500 (planned (sRun .pRunup) .pump none)
    (t.seq .u1).state = .pPrime ∧ t.pra.locks.w1.holder = some .u1 ∧
      .unitState .u1 .pRunup .pAir .reached (some .pumpAir) 0 ∈ t.rpb.queue := by
  decide +kernel

theorem witness_UnitIdentVerifies :
    let c (d k : Byte) : Cell := cellUnitIdent (hdr (fun h => cellUnitIdent h k 3000 0) d 11) k 3000 0
    let s := imaged (sRun .dormant) { image with identity := .identWait, identCount := 1, identTimer := some 20 }
    let on : State := planned (imaged (sRun .dormant)
      { image with identity := .identWait, identCount := 1, identTimer := some 20, stage := some .turbOn }) .gen (some 1800)
    (Delivered (c 0 4) sUnit ∧ toPart (c 0 4) sUnit = false) ∧
    (Delivered (c 5 4) sPart ∧ toPart (c 5 4) sPart = true ∧ unitAt 11 sPart = none) ∧
    (unitAt 11 sUnit = some .u1 ∧ (sUnit.image .u1).identity ≠ .identWait) ∧
    (Delivered (c 5 4) s ∧ toPart (c 5 4) s = true ∧ unitAt 11 s = some .u1 ∧ (s.image .u1).identity = .identWait ∧
      s.dse.engine = .running ∧ ResourcesAgree s ∧ s.orderStands = false) ∧
    (Delivered (c 5 4) on ∧ (on.image .u1).identity = .identWait ∧ ResourcesAgree on ∧ on.bandOf .u1 = some band) ∧
    Delivered (c 5 3) s :=
  ⟨⟨delivered_of (by decide +kernel), by decide⟩, ⟨delivered_of (by decide +kernel), by decide, by decide⟩,
    ⟨by decide, by decide⟩,
    ⟨delivered_of (by decide +kernel), by decide, by decide, by decide, by decide, agrees_of (by decide +kernel),
      by decide⟩,
    ⟨delivered_of (by decide +kernel), by decide, agrees_of (by decide +kernel), by decide +kernel⟩,
    delivered_of (by decide +kernel)⟩

theorem witness_IdentityWaitExpiry :
    ∀ n ∈ [1, 2, 3],
      let s := imaged sUnit { image with identity := .identWait, identCount := n, identTimer := some 20 }
      s.held = false ∧ (s.image .u1).identity = .identWait ∧ (s.image .u1).identTimer.isSome = true ∧
        (s.image .u1).identCount = n := by
  decide

/-- A CONV_STATUS from the converter controller. -/
def convCell (src ready fault connected : Byte) : Cell :=
  cellConvStatus (hdr (fun h => cellConvStatus h ready fault connected 0) 0 src) ready fault connected 0

/-- The arbiter in this state, U1 the holder in CONNECTING and IN_USE and waiting in FREE. -/
def arbiter (c : ConvState) : State :=
  let s := sRun (if c.granted then .pRunup else .pConvwait)
  { s with
    pra := { s.pra with
      arb := c
      holder := if c.granted then some .u1 else none
      releaseTmr := if c = .releasing then some 10 else none
      startQueue := if c = .free then [.u1] else [] }
    rpb := { s.rpb with alertLow := c == .faulted } }

theorem witness_ConvStatusMovesArbiter :
    let mine := cellConvStatus (hdr (fun h => cellConvStatus h 1 0 0 0) 5 7) 1 0 0 0
    (∀ c ∈ [ConvState.free, .connecting, .inUse, .releasing, .faulted],
      ResourcesAgree (arbiter c) ∧ QueuesAndAlert (arbiter c)) ∧
    (Delivered mine sUnit ∧ toPart mine sUnit = true) ∧
    (Delivered (convCell 8 1 0 0) sUnit ∧ toPart (convCell 8 1 0 0) sUnit = false ∧ (8 : Byte).toNat ≠ sUnit.tbs.plant.convAddr) ∧
    Delivered (convCell 7 1 0 0) (arbiter .free) ∧ toPart (convCell 7 1 0 0) (arbiter .free) = false ∧
    (7 : Byte).toNat = (arbiter .free).tbs.plant.convAddr ∧ Delivered (convCell 7 1 1 11) (arbiter .connecting) ∧
    ((arbiter .connecting).unit .u1).addr = (11 : Byte).toNat ∧ Delivered (convCell 7 0 0 0) (arbiter .faulted) ∧
    Delivered (convCell 7 1 0 14) (arbiter .free) ∧ Delivered (convCell 7 1 0 0) (arbiter .releasing) :=
  ⟨fun c h => by
      simp only [List.mem_cons, List.not_mem_nil, or_false] at h
      rcases h with rfl | rfl | rfl | rfl | rfl <;>
        exact ⟨agrees_of (by decide +kernel), by decide, by decide, by decide, by unfold Lpu.slotsDistinct; decide,
          by decide +kernel⟩,
    ⟨delivered_of (by decide +kernel), by decide⟩, ⟨delivered_of (by decide +kernel), by decide, by decide⟩,
    delivered_of (by decide +kernel), by decide, by decide, delivered_of (by decide +kernel), by decide,
    delivered_of (by decide +kernel), delivered_of (by decide +kernel), delivered_of (by decide +kernel)⟩

theorem witness_ReleaseTimerExpiryFaults :
    (arbiter .releasing).held = false ∧ (arbiter .releasing).pra.releaseTmr.isSome = true ∧
      (arbiter .releasing).pra.arb = .releasing ∧ (arbiter .free).pra.releaseTmr = none := by
  decide

theorem witness_StageAndLingerTimeouts :
    (∀ n ∈ [SeqState.gRunup, .pConvwait, .gAir, .pAir, .gLockwait, .pLockwait],
      (sRun n).held = false ∧ ResourcesAgree (sRun n) ∧ ((sRun n).seq .u1).stageTimer.isSome = true ∧
        ((sRun n).seq .u1).linger.isSome = true ∧ ((sRun n).seq .u1).state = n) ∧
    SeqState.tripsAtTimeout .gRunup = true ∧ (planned (sRun .gLockwait) .genAir none).orderStands = false ∧
    (sUnit.seq .u1).stageTimer = none ∧ (sUnit.seq .u1).linger = none ∧ 0 < ((sRun .gLockwait).unit .u1).minStill ∧
    (sRun .gLockwait).orderStands = false :=
  ⟨fun n h => by
      simp only [List.mem_cons, List.not_mem_nil, or_false] at h
      rcases h with rfl | rfl | rfl | rfl | rfl | rfl <;>
        exact ⟨by decide, agrees_of (by decide +kernel), by decide, by decide, by decide⟩,
    by decide, by decide, by decide, by decide, by decide, by decide⟩

-- The clauses on a wait from air, its lock held and free, and on a return to STILL with min-still 0.
theorem witness_StageAndLingerTimeouts_air :
    let s := planned (waiting .u2 .u1 .gLockwait .air) .gen (some 1800)
    let now := (sRun .gLockwait).setUnit .u1 { unitEntry with minStill := 0 }
    (agrees s = true ∧ s.held = false ∧ (s.seq .u1).stageTimer.isSome = true ∧ (s.seq .u1).origin = .air ∧
      s.orderStands = false ∧ (s.entry .u1).mode = .gen ∧ (s.lockOf .u1).holder = some .u2) ∧
    (agrees (planned (sRun .pLockwait) .pump none) = true ∧ ((sRun .pLockwait).lockOf .u1).holder = none) ∧
    (agrees now = true ∧ now.orderStands = false ∧ (now.unit .u1).minStill = 0 ∧ (now.seq .u1).stageTimer.isSome = true) := by
  decide +kernel

-- R133: a wait from air whose plan still asks for GEN begins again at the tail of the list.
theorem test_lockwait_again :
    let t := after (.lockwaitTimeout .u1) (planned (waiting .u2 .u1 .gLockwait .air) .gen (some 1800))
    (t.seq .u1).state = .gLockwait ∧ (t.seq .u1).origin = .air ∧ t.pra.locks.w1 = { holder := some .u2, waiters := [.u1] } ∧
      t.rpb.queue = [.unitState .u1 .gLockwait .gAir .lockwaitTimeout (some .still) 0] := by
  decide +kernel

theorem witness_StaleAndMinimumTimers :
    let s (n : SeqState) : State := imaged ((sRun n).setSeq .u1 { (sRun n).seq .u1 with minRun := some 600, minStill := some 120 })
      { image with staleTimer := some 20 }
    (s .still).held = false ∧ ((s .still).image .u1).staleTimer.isSome = true ∧ (s .still).orderStands = false ∧
    (ordered (s .still) .active).orderStands = true ∧ (ordered (s .still) .settled).orderStands = true ∧
    (s .still).rpb.queue.length + 1 ≤ 16 ∧ ((s .still).unit .u1).present = true ∧
    ((s .still).image .u1).stale = false ∧ ((s .gOn).seq .u1).minRun.isSome = true ∧
    ((s .still).seq .u1).minStill.isSome = true ∧ ((s .gOn).seq .u1).state ≠ .still ∧
    (sUnit.image .u1).staleTimer = none ∧ (sUnit.seq .u1).minRun = none ∧ (sUnit.seq .u1).minStill = none ∧
    (s .still).rpb.alertLow = (s .still).alertDue := by
  decide

-- R128, R132: with no order standing, a start owed in STILL begins at the expiry of min-still.
theorem test_min_still_starts :
    let s := planned ((sRun .still).setSeq .u1 { (sRun .still).seq .u1 with minStill := some 120 }) .gen (some 1500)
    let t := after (.minStillExpiry .u1) s
    agrees s = true ∧ s.orderStands = false ∧ (t.seq .u1).state = .gRunup ∧ t.pra.locks.w1.holder = some .u1 ∧
      t.lpu.cmds = [{ slot := .stage .u1, dest := 11, cmd := .goTurbine }] := by
  decide +kernel

/-- U1 in G_ON, ramping from one setpoint toward a share. -/
def ramping (setpoint share : Nat) : State :=
  (planned (sRun .gOn) .gen (some share)).setRamp .u1 { setpoint := some setpoint, refresh := some 5, rate := none }

theorem witness_RampIntervalStepsSetpoints :
    let traced (n : Nat) : State :=
      let s := ramping 1300 1400
      { s.setDse { s.dse with trace := true } with rpb := { s.rpb with queue := List.replicate n (.echo 0 0) } }
    let poor : State :=
      { ramping 1300 1400 with tbs := { (ramping 1300 1400).tbs with budgets := { w1 := 40, w2 := 0 } } }
    ((ramping 1300 1400).held = false ∧ (ramping 1300 1400).rmp.timer.isSome = true ∧
      (ramping 1300 1400).dse.engine = .running ∧ (ramping 1300 1400).dse.trace = false) ∧
    (crosser (ramping 1300 1400) .w1 = none ∧ crosser (ramping 1300 1400) .w2 = none) ∧
    crosser (ramping 1800 2500) .w1 = some .u1 ∧ crosser (ramping 2200 1200) .w1 = some .u1 ∧
    (desiredMove poor .u1 = 100 ∧ poor.tbs.budgets.get .w1 * poor.tbs.plant.ti / 10 < 100) ∧
    (desiredMove (ramping 1750 2500) .u1 = 50 ∧ (ramping 1750 2500).bandOf .u1 = some band) ∧
    ((ramping 1300 1400).ramp .u1).setpoint = some 1300 ∧ ((ramping 1300 1400).seq .u2).state ≠ .gOn ∧
    ((ramping 1300 1400).assignOf .u1 = .auto ∧ (ramping 1300 1400).dse.standing.state = .none ∧
      (ordered (ramping 1300 1400) .active).dse.standing.state ≠ .none) ∧
    ((traced 14).dse.trace = true ∧ (traced 14).rpb.queue.length + 2 ≤ 16 ∧ 16 < (traced 15).rpb.queue.length + 2) := by
  decide +kernel

theorem witness_RampKeepsBudgetAndBand :
    crosser (ramping 1700 2500) .w1 = none ∧ ramps (ramping 1700 2500) .u1 = true ∧
    (ramping 1700 2500).bandOf .u1 = some band ∧ band.Sound ∧ band.Allows 1700 ∧ band.Allows 2500 ∧ band.Allows 1800 ∧
    band.Allows 2200 :=
  ⟨by decide +kernel, by decide, by decide +kernel, ⟨by decide, by decide⟩, ⟨by decide, by decide⟩, ⟨by decide, by decide⟩,
    ⟨by decide, by decide⟩, by decide, by decide⟩

theorem witness_SettlingAtRampInterval :
    let s := ordered (ramping 1400 1400) .active
    s.held = false ∧ s.rmp.timer.isSome = true ∧ s.dse.engine = .running ∧ s.dse.standing.state = .active ∧
      (s.seq .u1).state = .gOn ∧ (s.entry .u1).mode = .gen := by
  decide

theorem witness_RefreshAndHeldInterval :
    let s := engineIs (ramping 1300 1400) .halted
    let traced : State := s.setDse { s.dse with trace := true }
    s.held = false ∧ (s.ramp .u1).setpoint = some 1300 ∧ (s.ramp .u1).refresh.isSome = true ∧
    (s.ramp .u2).refresh = none ∧ s.rmp.timer.isSome = true ∧ s.dse.engine = .halted ∧ s.dse.trace = false ∧
    traced.dse.trace = true ∧ ReportRoom 2 traced ∧
    ¬ReportRoom 2 { traced with rpb := { traced.rpb with queue := List.replicate 15 (.echo 0 0) } } := by
  unfold ReportRoom
  decide

theorem witness_PlannedSharesLieInBand :
    let h := hMe fun h => cellNetPower h 9 2000 0 0
    let t := after (.netPower h 9 2000 0 0) (sRun .still)
    DeliveredToPart (cellNetPower h 9 2000 0 0) (sRun .still) ∧ (sRun .still).dse.engine = .running ∧
      (sRun .still).dse.guardTmr = none ∧ exec (.netPower h 9 2000 0 0) (sRun .still) = .next t ∧
      (sRun .still).assignOf .u1 = .auto ∧ (t.entry .u1).share = some 1800 :=
  ⟨toPart_of (by decide +kernel), by decide, by decide, rfl, by decide, by decide +kernel⟩

theorem witness_ResetMeetsInvariants : (1 ≤ 1 ∧ (1 : Nat) ≤ 30) ∧ 1 ≤ 30 ∧ (30 : Nat) ≤ 30 := by decide

-- R3: each clause on the strap at its boundary values.
theorem witness_ColdResetGivesColdValues : (∀ v ∈ [(0 : BitVec 5), 1, 30, 31], ∃ t, exec (.resetNRelease v) State.reset = .next t ∧
    t.lpu.addr = (if v = 0 then 1 else if v = 31 then 30 else v.toNat)) := by
  intro v hv
  simp only [List.mem_cons, List.not_mem_nil, or_false] at hv
  rcases hv with rfl | rfl | rfl | rfl <;> exact ⟨_, rfl, rfl⟩

end Sys2Proof.Tests
end

section
/-! What a whole command leaves alone: a frame for the act of every block that takes a cell and for every timer's expiry,
carried from the operations to the commands; with it the invariants of the link (R3, R8, R9, R25, R27, R185, R192). -/

namespace Sys2Proof.Machine

/-- What the act of a block keeps: RESET_N and the waiting commands, the Link Port Unit but for the command queue, the
bound of the report queue, the distinct slots and the drive of PLANT_ALERT_N; and, where the flag is false, the tables
and the engine state. -/
structure TakeFrame (tables engines : Bool) (s t : State) : Prop where
  pending : t.pending = s.pending
  held    : t.held = s.held
  lpu     : t.lpu = { s.lpu with cmds := t.lpu.cmds }
  bound   : s.rpb.queue.length ≤ Config.reportCapacity → t.rpb.queue.length ≤ Config.reportCapacity
  slots   : s.lpu.slotsDistinct → t.lpu.slotsDistinct
  alert   : s.rpb.alertLow = s.alertDue → t.rpb.alertLow = t.alertDue
  tbs     : tables = false → t.tbs = s.tbs
  engine  : engines = false → t.dse.engine = s.dse.engine

/-- A frame that keeps the tables and the engine state too. -/
abbrev QuietFrame (s t : State) : Prop := TakeFrame false false s t

variable {a b : Bool}

theorem TakeFrame.refl (s : State) : TakeFrame a b s s :=
  ⟨rfl, rfl, rfl, id, id, id, fun _ => rfl, fun _ => rfl⟩

theorem TakeFrame.trans {s t r : State} (h : TakeFrame a b s t) (k : TakeFrame a b t r) : TakeFrame a b s r where
  pending := k.pending.trans h.pending
  held := k.held.trans h.held
  lpu := by rw [k.lpu, h.lpu]
  bound := k.bound ∘ h.bound
  slots := k.slots ∘ h.slots
  alert := k.alert ∘ h.alert
  tbs ha := (k.tbs ha).trans (h.tbs ha)
  engine hb := (k.engine hb).trans (h.engine hb)

/-- What keeps more keeps less. -/
theorem TakeFrame.weaken {s t : State} (h : QuietFrame s t) : TakeFrame a b s t :=
  ⟨h.pending, h.held, h.lpu, h.bound, h.slots, h.alert, fun _ => h.tbs rfl, fun _ => h.engine rfl⟩

theorem EventFrame.quiet {s t : State} (h : EventFrame s t) : QuietFrame s t :=
  ⟨h.pending, h.held, h.lpu, h.bound, h.slots, h.alert, fun _ => h.tbs, fun _ => by rw [h.dse]⟩

theorem SeqFrame.quiet {s t : State} (h : SeqFrame s t) : QuietFrame s t := h.event.quiet

/-- What is kept but for the drive of PLANT_ALERT_N is kept with it once PLANT_ALERT_N is driven anew (R192). -/
theorem TakeFrame.driven {s t : State} (hp : t.pending = s.pending) (hh : t.held = s.held)
    (hl : t.lpu = { s.lpu with cmds := t.lpu.cmds })
    (hb : s.rpb.queue.length ≤ Config.reportCapacity → t.rpb.queue.length ≤ Config.reportCapacity)
    (hs : s.lpu.slotsDistinct → t.lpu.slotsDistinct) (ht : a = false → t.tbs = s.tbs)
    (he : b = false → t.dse.engine = s.dse.engine) : TakeFrame a b s (driveAlert t) :=
  ⟨hp, hh, hl, hb, hs, fun _ => driveAlert_due t, ht, he⟩

-- Updates of one part of the state ------------------------------------------------------------------------

theorem setImage_take (u : UnitNo) (i : Image) (s : State) : TakeFrame a b s (s.setImage u i) :=
  ⟨rfl, rfl, rfl, id, id, id, fun _ => rfl, fun _ => rfl⟩

theorem setUib_take (i : Uib) (s : State) : TakeFrame a b s (s.setUib i) :=
  ⟨rfl, rfl, rfl, id, id, id, fun _ => rfl, fun _ => rfl⟩

theorem setAlc_take (x : Alc) (s : State) : TakeFrame a b s (s.setAlc x) :=
  ⟨rfl, rfl, rfl, id, id, id, fun _ => rfl, fun _ => rfl⟩

theorem setRmp_take (x : Rmp) (s : State) : TakeFrame a b s (s.setRmp x) :=
  ⟨rfl, rfl, rfl, id, id, id, fun _ => rfl, fun _ => rfl⟩

theorem setDse_take (d : Dse) (s : State) (h : b = false → d.engine = s.dse.engine) : TakeFrame a b s (s.setDse d) :=
  ⟨rfl, rfl, rfl, id, id, id, fun _ => rfl, h⟩

/-- A table rewritten other than the UNIT table. -/
theorem setTbs_take (t : Tbs) (s : State) (h : t.units = s.tbs.units) : TakeFrame true b s (s.setTbs t) := by
  refine ⟨rfl, rfl, rfl, id, id, fun k => k.trans ?_, fun h => (nomatch h), fun _ => rfl⟩
  simp only [State.alertDue, State.unit, State.seq, State.setTbs, h]

theorem pushReport_take (r : Report) (s : State) : TakeFrame a b s (pushReport r s) := (pushReport_frame r s).quiet.weaken

theorem closeEvent_take (e : Ev) : TakeFrame a b e.s (closeEvent e) := (closeEvent_frame e).quiet.weaken

theorem place_take (k : Slot) (d : Nat) (c : Command) (s : State) : TakeFrame a b s (place k d c s) :=
  (place_frame k d c s).quiet.weaken

/-- Commands withdrawn from the queue. -/
theorem filterCommands_take (p : Waiting → Bool) (s : State) :
    TakeFrame a b s (s.setLpu { s.lpu with cmds := s.lpu.cmds.filter p }) :=
  ⟨rfl, rfl, rfl, id, filter_slots p s.lpu.cmds, id, fun _ => rfl, fun _ => rfl⟩

-- Events of units and the identity exchange (R52, R54, R186) ----------------------------------------------

theorem raiseEvents_take (u : UnitNo) (ev : BitVec 8) (verify : Bool) (s : State) :
    TakeFrame a b s (raiseEvents u ev verify s) := by
  unfold raiseEvents
  dsimp only
  split
  · exact .refl s
  · split
    · exact ⟨rfl, rfl, rfl, fun h => by simpa [State.setRpb] using h, id, id, fun _ => rfl, fun _ => rfl⟩
    · exact (setImage_take _ _ _).trans (pushReport_take _ _)

theorem startExchange_take (u : UnitNo) (s : State) : TakeFrame a b s (startExchange u s) :=
  ((setImage_take _ _ s).trans (place_take _ _ _ _)).trans (raiseEvents_take _ _ _ _)

theorem startExchanges_take (us : List UnitNo) (s : State) : TakeFrame a b s (startExchanges us s) := by
  unfold startExchanges
  induction us generalizing s with
  | nil => exact .refl s
  | cons u us ih => exact (startExchange_take u s).trans (ih _)

theorem concludeExchange_take (u : UnitNo) (n : Identity) (s : State) : TakeFrame a b s (concludeExchange u n s) :=
  (setImage_take _ _ s).trans (raiseEvents_take _ _ _ _)

-- Orders (R70 to R80) -------------------------------------------------------------------------------------

theorem takeOrder_take (o : Order) (s : State) : TakeFrame a b s (takeOrder o s) :=
  (setDse_take { s.dse with
    guardTmr := if 0 < s.tbs.plant.guardTime then some s.tbs.plant.guardTime else s.dse.guardTmr } s fun _ => rfl).trans
    (takeOrder_frame o s).quiet.weaken

theorem deferOrder_take (o : Order) (s : State) : TakeFrame a b s (deferOrder o s) := by
  have h : TakeFrame a b s (pushReport (orderResultOf o .deferred none) (s.setDse { s.dse with deferred := some o })) :=
    (setDse_take { s.dse with deferred := some o } s fun _ => rfl).trans (pushReport_take _ _)
  unfold deferOrder
  generalize pushReport (orderResultOf o .deferred none) (s.setDse { s.dse with deferred := some o }) = s1 at h ⊢
  dsimp only
  split
  · exact h.trans (pushReport_take _ _)
  · exact h

theorem takeNetPower_take (h : Hdr) (id target : Half) (cls : Byte) (s : State) :
    TakeFrame a b s (takeNetPower h id target cls s) := by
  unfold takeNetPower
  dsimp only
  split
  · exact pushReport_take _ _
  · split
    · exact deferOrder_take _ _
    · exact takeOrder_take _ _

theorem guardExpired_take (s : State) : TakeFrame a b s (guardExpired s) := by
  unfold guardExpired
  split
  · exact (setDse_take { s.dse with guardTmr := none, deferred := none } s fun _ => rfl).trans (takeOrder_take _ _)
  · exact setDse_take { s.dse with guardTmr := none } s fun _ => rfl

theorem acceptUnitMode_take (h : Hdr) (id : Half) (unit mode : Byte) (setpoint : Half) (cls : Byte) (u : UnitNo)
    (s : State) : TakeFrame a b s (acceptUnitMode h id unit mode setpoint cls u s) := by
  unfold acceptUnitMode
  dsimp only
  refine TakeFrame.trans ?_ (closeEvent_take _)
  rw [trigger_s]
  have h1 := (setEntry_frame u (orderedEntry s h id u (orderedMode mode) setpoint cls) s).trans
    (pushReport_frame (orderAnswer h id subUnitMode
      (modeResult mode (orderedEntry s h id u (orderedMode mode) setpoint cls).share setpoint) unit) _).event
  split
  · exact h1.quiet.weaken
  · refine TakeFrame.trans h1.quiet.weaken ?_
    exact (act_frame u (.start _)).quiet.weaken

theorem takeUnitMode_take (h : Hdr) (id : Half) (unit mode : Byte) (setpoint : Half) (cls : Byte) (s : State) :
    TakeFrame a b s (takeUnitMode h id unit mode setpoint cls s) := by
  unfold takeUnitMode
  dsimp only
  repeat' split
  all_goals first
    | exact pushReport_take _ _
    | exact acceptUnitMode_take _ _ _ _ _ _ _ _

theorem takeUnitAssign_take (h : Hdr) (id : Half) (unit code : Byte) (s : State) :
    TakeFrame a b s (takeUnitAssign h id unit code s) := by
  unfold takeUnitAssign
  split
  · exact pushReport_take _ _
  · next u _ =>
    refine TakeFrame.trans ?_ (closeEvent_take _)
    exact (setDse_take { s.dse with assign := s.dse.assign.set u (.ofCode code) } s fun _ => rfl).trans
      (pushReport_take _ _)

theorem takeUnitClear_take (h : Hdr) (id : Half) (unit : Byte) (s : State) :
    TakeFrame a b s (takeUnitClear h id unit s) := by
  unfold takeUnitClear
  split
  · exact pushReport_take _ _
  · next u _ =>
    split
    · refine TakeFrame.trans ?_ (closeEvent_take _)
      exact (clearTrip_frame u (.start s)).quiet.weaken.trans (pushReport_take _ _)
    · exact pushReport_take _ _

theorem dropDeferred_take (s : State) : TakeFrame a b s (dropDeferred s) := by
  unfold dropDeferred
  dsimp only
  split
  · exact (pushReport_take _ _).trans (setDse_take _ _ fun _ => rfl)
  · exact setDse_take _ _ fun _ => rfl

theorem endStanding_take (st : OrderState) (r : Standing) (s : State) : TakeFrame a b s (endStanding st r s) := by
  unfold endStanding
  split
  · exact setDse_take _ _ fun _ => rfl
  · exact (pushReport_take _ _).trans (setDse_take _ _ fun _ => rfl)

theorem abortRunning_take (h : Hdr) (id : Half) (s : State) : TakeFrame a true s (abortRunning h id s) := by
  unfold abortRunning
  refine TakeFrame.trans ?_ (closeEvent_take _)
  refine TakeFrame.trans ?_ (setAlc_take _ _)
  refine TakeFrame.trans ?_ (setDse_take _ _ (by simp))
  exact ((pushReport_take _ s).trans (endStanding_take _ _ _)).trans (dropDeferred_take _)

theorem takeAbort_take (h : Hdr) (id : Half) (s : State) : TakeFrame a true s (takeAbort h id s) := by
  unfold takeAbort
  split
  · exact abortRunning_take _ _ _
  · exact pushReport_take _ _
  · exact pushReport_take _ _

theorem takeResume_take (h : Hdr) (id : Half) (s : State) : TakeFrame a true s (takeResume h id s) := by
  unfold takeResume
  split
  · refine TakeFrame.trans ?_ (closeEvent_take _)
    refine TakeFrame.trans ?_ (adoptAll_frame _ _).quiet.weaken
    exact (pushReport_take _ _).trans (setDse_take _ _ (by simp))
  · exact pushReport_take _ _

-- Table cells (R19 to R38) --------------------------------------------------------------------------------

theorem setGate_take (gate : Bool) (s : State) : TakeFrame true b s (s.setTbs { s.tbs with gateOpen := gate }) :=
  setTbs_take _ _ rfl

theorem takeGateOpen_take (h : Hdr) (s : State) : TakeFrame true b s (takeGateOpen h s) := by
  unfold takeGateOpen
  split
  · exact .refl s
  · exact (setGate_take _ _).trans (pushReport_take _ _)

theorem takeGateClose_take (h : Hdr) (s : State) : TakeFrame true b s (takeGateClose h s) := by
  unfold takeGateClose
  split
  · exact .refl s
  · exact (setGate_take _ _).trans (pushReport_take _ _)

theorem takeGateBadRequest_take (h : Hdr) (s : State) : TakeFrame a b s (takeGateBadRequest h s) := by
  unfold takeGateBadRequest
  split
  · exact .refl s
  · exact pushReport_take _ _

/-- What a TABLE_WRITE can do: nothing, an answer, or, with the gate open, its effect on a decision to store (R20, R21). -/
theorem takeWrite_cases {α : Type} (h : Hdr) (answer : MgtCode → Nat → Report) (d : Decision α)
    (effect : α → State → State) (s : State) :
    takeWrite h answer d effect s = s ∨ (∃ r, takeWrite h answer d effect s = pushReport r s) ∨
      ∃ k x r, d = .store k x ∧ takeWrite h answer d effect s = effect x (pushReport r s) := by
  unfold takeWrite
  split
  · split
    · exact .inr (.inl ⟨_, rfl⟩)
    · exact .inr (.inr ⟨_, _, _, rfl, rfl⟩)
  · split
    · exact .inl rfl
    · exact .inr (.inl ⟨_, rfl⟩)

theorem takeWrite_take {α : Type} (h : Hdr) (answer : MgtCode → Nat → Report) (d : Decision α)
    (effect : α → State → State) (s : State) (he : ∀ x t, TakeFrame a b t (effect x t)) :
    TakeFrame a b s (takeWrite h answer d effect s) := by
  obtain hs | ⟨r, hr⟩ | ⟨k, x, r, -, hx⟩ := takeWrite_cases h answer d effect s
  · rw [hs]; exact .refl s
  · rw [hr]; exact pushReport_take _ _
  · rw [hx]; exact (pushReport_take _ _).trans (he _ _)

theorem storePlant_take (p : Plant) (s : State) : TakeFrame true b s (storePlant p s) := by
  unfold storePlant
  dsimp only
  have h : TakeFrame true b s (s.setTbs { s.tbs with plant := p }) := setTbs_take _ _ rfl
  split
  · exact h
  · exact h.trans (setUib_take _ _)

theorem recomputeBand_take (u : UnitNo) (r : Option (Fin 12)) (e : Ev) : TakeFrame a b e.s (recomputeBand u r e).s := by
  unfold recomputeBand
  dsimp only
  have h : TakeFrame a b e.s (e.map fun s => s.setImage u (e.s.recomputed u (e.s.image u))).s := setImage_take _ _ _
  have change : ∀ (c : Bool) (e1 : Ev), TakeFrame a b e1.s (if c then bandChange u e1 else e1).s := by
    intro c e1
    split
    · exact (bandChange_frame u e1).quiet.weaken
    · exact .refl _
  exact h.trans (change _ _)

/-- A UNIT entry stored, whatever else is kept before PLANT_ALERT_N is driven anew. -/
theorem TakeFrame.unitStored {u : UnitNo} {n : UnitEntry} {s t : State} (h : TakeFrame true b (s.setUnit u n) t) :
    TakeFrame true b s (driveAlert t) :=
  .driven h.pending h.held h.lpu h.bound h.slots (fun k => nomatch k) h.engine

/-- A UNIT write with present = 1 stores the entry, works on the image and band, drives PLANT_ALERT_N and starts the
identity exchange (R28). -/
theorem storePresent_shape (u : UnitNo) (n : UnitEntry) (s : State) :
    ∃ t, QuietFrame (s.setUnit u n) t ∧ storePresent u n s = startExchange u (driveAlert t) := by
  refine ⟨_, ?_, rfl⟩
  refine TakeFrame.trans ?_ (setImage_take _ _ _)
  refine TakeFrame.trans ?_ (closeEvent_take _)
  refine TakeFrame.trans ?_ (recomputeBand_take _ _ _)
  dsimp only [Ev.start]
  split
  · exact .refl _
  · exact setImage_take _ _ _

theorem storePresent_take (u : UnitNo) (n : UnitEntry) (s : State) : TakeFrame true b s (storePresent u n s) := by
  obtain ⟨t, ht, hs⟩ := storePresent_shape u n s
  rw [hs]
  exact (TakeFrame.unitStored (u := u) (n := n) ht.weaken).trans (startExchange_take _ _)

theorem storeAbsent_take (u : UnitNo) (n : UnitEntry) (s : State) : TakeFrame true b s (storeAbsent u n s) :=
  TakeFrame.unitStored (u := u) (n := n)
    (((setImage_take _ _ _).trans (filterCommands_take _ _)).trans (filterCommands_take _ _))

theorem recomputeProfile_take (p : Fin 4) (r : Option (Fin 12)) (s : State) :
    TakeFrame a b s (recomputeProfile p r s) := by
  unfold recomputeProfile
  refine TakeFrame.trans ?_ (closeEvent_take _)
  rw [trigger_s]
  show TakeFrame a b (Ev.start s).s _
  generalize Ev.start s = e
  induction unitsOfProfile s p generalizing e with
  | nil => exact .refl _
  | cons u us ih => exact (recomputeBand_take u r e).trans (ih _)

theorem storeProfile_take (p : Fin 4) (n : Profile) (s : State) : TakeFrame true b s (storeProfile p n s) :=
  (setTbs_take { s.tbs with profiles := s.tbs.profiles.set p n } s rfl).trans (recomputeProfile_take p none _)

theorem storeBand_take (p : Fin 4) (k : Fin 12) (x : Band) (s : State) : TakeFrame true b s (storeBand p k x s) :=
  (setTbs_take { s.tbs with bands := s.tbs.bands.set p ((s.tbs.bands[p]).set k x) } s rfl).trans
    (recomputeProfile_take p (some k) _)

theorem storeMerit_take (index : Byte) (l : List UnitNo) (s : State) : TakeFrame true b s (storeMerit index l s) := by
  unfold storeMerit
  refine TakeFrame.trans ?_ (closeEvent_take _)
  exact setTbs_take _ s (by dsimp only; split <;> rfl)

theorem storeWaterway_take (w : Waterway) (x : Nat) (s : State) : TakeFrame true b s (storeWaterway w x s) :=
  setTbs_take _ s rfl

theorem takeUnknownTable_take (h : Hdr) (table index : Byte) (s : State) :
    TakeFrame a b s (takeUnknownTable h table index s) := takeWrite_take _ _ _ _ _ fun _ _ => .refl _

theorem takeTableRead_take (h : Hdr) (table index band : Byte) (s : State) :
    TakeFrame a b s (takeTableRead h table index band s) := by
  unfold takeTableRead
  split <;> exact pushReport_take _ _

-- Management cells (R16, R51, R63 to R69) -----------------------------------------------------------------

theorem holdPlan_take (s : State) : TakeFrame a b s (holdPlan s) := setAlc_take _ _

theorem runAccepted_take (h : Hdr) (s : State) : TakeFrame a true s (runAccepted h s) := by
  unfold runAccepted
  refine TakeFrame.trans ?_ (closeEvent_take _)
  refine TakeFrame.trans ?_ ((holdPlan_take _).trans (setRmp_take _ _))
  refine TakeFrame.trans ?_ (adoptAll_frame _ _).quiet.weaken
  exact (pushReport_take _ _).trans (setDse_take _ _ (by simp))

theorem takeEngineRun_take (h : Hdr) (s : State) : TakeFrame a true s (takeEngineRun h s) := by
  unfold takeEngineRun
  split
  · split
    · exact pushReport_take _ _
    · exact runAccepted_take _ _
  · exact pushReport_take _ _

theorem pauseAccepted_take (h : Hdr) (s : State) : TakeFrame a true s (pauseAccepted h s) := by
  unfold pauseAccepted
  have f : TakeFrame a true s (flushCommands (dropDeferred (endStanding .ended .cleared
      (pushReport (mgtPlain h subEngine .accepted) s)))) :=
    (((pushReport_take _ s).trans (endStanding_take _ _ _)).trans (dropDeferred_take _)).trans (filterCommands_take _ _)
  exact .driven f.pending f.held f.lpu f.bound f.slots f.tbs fun k => nomatch k

theorem takeEnginePause_take (h : Hdr) (s : State) : TakeFrame a true s (takeEnginePause h s) := by
  unfold takeEnginePause
  split
  · exact pushReport_take _ _
  · split
    · exact pushReport_take _ _
    · exact pauseAccepted_take _ _

/-- What follows the warm reset itself at a RESTART: its answer and the identity exchanges (R68). -/
theorem takeRestart_take (h : Hdr) (s : State) : TakeFrame a b (warmReset s) (takeRestart h s) :=
  (pushReport_take _ _).trans (startExchanges_take _ _)

theorem setTrace_take (h : Hdr) (on : Bool) (s : State) :
    TakeFrame a b s (pushReport (mgtPlain h subTrace .accepted) (s.setDse { s.dse with trace := on })) :=
  (setDse_take { s.dse with trace := on } s fun _ => rfl).trans (pushReport_take _ _)

theorem takeWatch_take (h : Hdr) (unit mask : Byte) (s : State) : TakeFrame a b s (takeWatch h unit mask s) := by
  unfold takeWatch
  split
  · exact pushReport_take _ _
  · exact ((setImage_take _ _ s).trans (pushReport_take _ _)).trans (raiseEvents_take _ _ _ _)

-- The act on a consumed ORDER or MGT cell, by its row (R6) --------------------------------------------------

end Sys2Proof.Machine

namespace Sys2Proof

/-- The rows whose act may change the tables: the gate's, the table writes and RESTART (R19, R20, R68). -/
def Instr.writesTables (i : Instr) : Bool :=
  i.tableWrite.isSome || match i with
    | .tableGateOpen _ _ => true
    | .tableGateClose _ _ => true
    | .restart _ _ => true
    | _ => false

/-- The rows whose act may change the engine state (R65, R67, R68, R79, R80). -/
def Instr.setsEngine : Instr → Bool
  | .engineRun _ _ => true
  | .enginePause _ _ => true
  | .abort _ _ _ => true
  | .resume _ _ _ => true
  | .restart _ _ => true
  | _ => false

end Sys2Proof

namespace Sys2Proof.Machine

variable {a b : Bool}

theorem takeOrderOrMgt_take (i : Instr) (s : State) (hr : ∀ h r, i ≠ .restart h r) :
    TakeFrame i.writesTables i.setsEngine s (takeOrderOrMgt i s) := by
  cases i with
  | netPower => exact takeNetPower_take _ _ _ _ _
  | unitMode => exact takeUnitMode_take _ _ _ _ _ _ _
  | unitAssign => exact takeUnitAssign_take _ _ _ _ _
  | unitClear => exact takeUnitClear_take _ _ _ _
  | abort => exact takeAbort_take _ _ _
  | resume => exact takeResume_take _ _ _
  | tableGateOpen => exact takeGateOpen_take _ _
  | tableGateClose => exact takeGateClose_take _ _
  | tableGateBadRequest => exact takeGateBadRequest_take _ _
  | plantWrite => exact takeWrite_take _ _ _ _ _ storePlant_take
  | unitWritePresent => exact takeWrite_take _ _ _ _ _ fun x => storePresent_take x.1 x.2
  | unitWriteAbsent => exact takeWrite_take _ _ _ _ _ fun x => storeAbsent_take x.1 x.2
  | profileWrite => exact takeWrite_take _ _ _ _ _ fun x => storeProfile_take x.1 x.2
  | bandWrite => exact takeWrite_take _ _ _ _ _ fun x => storeBand_take x.1 x.2.1 x.2.2
  | meritWrite => exact takeWrite_take _ _ _ _ _ (storeMerit_take _)
  | waterwayWrite => exact takeWrite_take _ _ _ _ _ fun x => storeWaterway_take x.1 x.2
  | tableWriteUnknownTable => exact takeUnknownTable_take _ _ _ _
  | tableRead => exact takeTableRead_take _ _ _ _ _
  | engineRun => exact takeEngineRun_take _ _
  | enginePause => exact takeEnginePause_take _ _
  | engineBadRequest => exact pushReport_take _ _
  | restart h r => exact absurd rfl (hr h r)
  | traceOn => exact setTrace_take _ _ _
  | traceOff => exact setTrace_take _ _ _
  | traceBadRequest => exact pushReport_take _ _
  | watch => exact takeWatch_take _ _ _ _
  | echo => exact pushReport_take _ _
  | _ => exact .refl s

-- Telemetry (R41 to R58, R147 to R153) --------------------------------------------------------------------

theorem statusEvent_take (u : UnitNo) (st : Stage) (n : Image) (s : State) : TakeFrame a b s (statusEvent u st n s) := by
  unfold statusEvent
  dsimp only
  refine TakeFrame.trans ?_ (closeEvent_take _)
  rw [trigger_s]
  have h1 : TakeFrame a b s (raiseEvents u (newlyActive (s.image u) n &&& (s.image u).watch) false (s.setImage u n)) :=
    (setImage_take u n s).trans (raiseEvents_take _ _ _ _)
  generalize raiseEvents u (newlyActive (s.image u) n &&& (s.image u).watch) false (s.setImage u n) = s1 at h1 ⊢
  have h2 : TakeFrame a b s (if (s.image u).identity = .absent then startExchange u s1 else s1) := by
    split
    · exact h1.trans (startExchange_take _ _)
    · exact h1
  generalize (if (s.image u).identity = .absent then startExchange u s1 else s1) = s2 at h2 ⊢
  have h3 : TakeFrame a b s
      (if (s.image u).identity = .verified then handToSequencer u (s.image u) n st (.start s2) else .start s2).s := by
    split
    · exact h2.trans (handToSequencer_frame u (s.image u) n st (.start s2)).quiet.weaken
    · exact h2
  generalize (if (s.image u).identity = .verified then handToSequencer u (s.image u) n st (.start s2)
    else .start s2) = e1 at h3 ⊢
  split
  · exact h3
  · exact h3.trans (bandChange_frame _ _).quiet.weaken

theorem snoopUnitStatus_take (h : Hdr) (stage fault : Byte) (power head : Half) (perm interlocks : Byte) (s : State) :
    TakeFrame a b s (snoopUnitStatus h stage fault power head perm interlocks s) := by
  unfold snoopUnitStatus
  split
  · exact statusEvent_take _ _ _ _
  · exact .refl s

theorem verifiedEvent_take (u : UnitNo) (s : State) : TakeFrame a b s (verifiedEvent u s) := by
  unfold verifiedEvent
  dsimp only
  refine TakeFrame.trans ?_ (closeEvent_take _)
  rw [trigger_s]
  refine (concludeExchange_take u .verified s).trans ?_
  split
  · exact (adopt_frame u (.start _)).quiet.weaken
  · exact .refl _

theorem takeUnitIdent_take (h : Hdr) (classCode : Byte) (rated : Half) (s : State) :
    TakeFrame a b s (takeUnitIdent h classCode rated s) := by
  unfold takeUnitIdent
  repeat' split
  all_goals first
    | exact .refl s
    | exact verifiedEvent_take _ _
    | exact concludeExchange_take _ _ _

theorem converterEvent_take (s : State) : TakeFrame a b s (converterEvent s) := by
  unfold converterEvent
  dsimp only
  refine TakeFrame.trans ?_ (closeEvent_take _)
  split
  · exact (converterFault_frame (.start s)).quiet.weaken
  · refine TakeFrame.trans (converterStep_frame s).quiet.weaken ?_
    exact (grantConverter_frame ((Ev.start s).map converterStep)).quiet.weaken

theorem snoopConvStatus_take (h : Hdr) (ready fault connected : Byte) (s : State) :
    TakeFrame a b s (snoopConvStatus h ready fault connected s) := by
  unfold snoopConvStatus
  split
  · exact (setUib_take _ s).trans (converterEvent_take _)
  · exact .refl s

-- Timers (R45, R55, R131 to R135, R151, R170, R176, R180) -------------------------------------------------

theorem identityWaitExpired_take (u : UnitNo) (s : State) : TakeFrame a b s (identityWaitExpired u s) := by
  unfold identityWaitExpired
  dsimp only
  split
  · exact (setImage_take _ _ s).trans (place_take _ _ _ _)
  · exact concludeExchange_take _ _ _

theorem staleExpired_take (u : UnitNo) (s : State) : TakeFrame a b s (staleExpired u s) := by
  unfold staleExpired
  refine TakeFrame.trans ?_ (closeEvent_take _)
  exact setImage_take _ _ s

theorem releaseExpired_take (s : State) : TakeFrame a b s (releaseExpired s) :=
  (((setPra_frame { s.pra with releaseTmr := none } s rfl).trans (raiseFlag_frame _ _)).trans
    (setArbiter_frame _ _)).quiet.weaken

/-- An event that only rewrites sequencers and then ends. -/
theorem closeEvent_of_frame {s : State} {e : Ev} (h : SeqFrame s e.s) : TakeFrame a b s (closeEvent e) :=
  h.quiet.weaken.trans (closeEvent_take e)

theorem minRunExpired_take (u : UnitNo) (s : State) : TakeFrame a b s (minRunExpired u s) :=
  closeEvent_of_frame (evSetSeq_frame u (fun q => { q with minRun := none }) (.start s) rfl)

theorem minStillExpired_take (u : UnitNo) (s : State) : TakeFrame a b s (minStillExpired u s) := by
  have h := evSetSeq_frame u (fun q => { q with minStill := none }) (.start s) rfl
  unfold minStillExpired
  dsimp only
  split
  · exact closeEvent_of_frame h
  · exact closeEvent_of_frame h

theorem settleCheck_take (s : State) : TakeFrame a b s (settleCheck s) := (settleCheck_frame s).quiet.weaken

theorem placeIfChanged_take (before s : State) (u : UnitNo) : TakeFrame a b s (placeIfChanged before s u) := by
  unfold placeIfChanged
  repeat' split
  all_goals first
    | exact .refl s
    | exact (placeSetpoint_frame _ _ _).quiet.weaken

theorem foldl_take {β : Type} (f : State → β → State) (h : ∀ s x, TakeFrame a b s (f s x)) (l : List β) (s : State) :
    TakeFrame a b s (l.foldl f s) := by
  induction l generalizing s with
  | nil => exact .refl s
  | cons x l ih => exact (h s x).trans (ih _)

theorem queueSnapshot_take (s : State) : TakeFrame a b s (queueSnapshot s) := by
  unfold queueSnapshot
  dsimp only
  split
  · next h => exact ⟨rfl, rfl, rfl, fun _ => by simpa [State.setRpb] using h, id, id, fun _ => rfl, fun _ => rfl⟩
  · exact ⟨rfl, rfl, rfl, id, id, id, fun _ => rfl, fun _ => rfl⟩

theorem rampRunning_take (s : State) : TakeFrame a b s (rampRunning s) :=
  ((setRmp_take _ s).trans (foldl_take _ (placeIfChanged_take s) _ _)).trans (settleCheck_take _)

theorem rampExpiry_take (s : State) : TakeFrame a b s (rampExpiry s) := by
  unfold rampExpiry
  have h1 : TakeFrame a b s (startRampTimer s) := setRmp_take _ s
  generalize startRampTimer s = s1 at h1 ⊢
  have h2 : TakeFrame a b s (if s1.dse.engine = .running then rampRunning s1 else s1) := by
    split
    · exact h1.trans (rampRunning_take _)
    · exact h1
  dsimp only
  generalize (if s1.dse.engine = .running then rampRunning s1 else s1) = s2 at h2 ⊢
  split
  · exact h2.trans (queueSnapshot_take _)
  · exact h2

-- The link's own operations (R8, R11 to R15, R189) --------------------------------------------------------

/-- What every command but the release of RESET_N keeps: the part's address, the bounds of the queues with the distinct
slots and the drive of PLANT_ALERT_N, and, where the flag is false, the tables and the engine state. -/
structure CommandFrame (tables engines : Bool) (s t : State) : Prop where
  addr   : t.lpu.addr = s.lpu.addr
  queues : QueuesAndAlert s → QueuesAndAlert t
  tbs    : tables = false → t.tbs = s.tbs
  engine : engines = false → t.dse.engine = s.dse.engine

theorem CommandFrame.refl (s : State) : CommandFrame a b s s := ⟨rfl, id, fun _ => rfl, fun _ => rfl⟩

theorem CommandFrame.trans {s t r : State} (h : CommandFrame a b s t) (k : CommandFrame a b t r) :
    CommandFrame a b s r :=
  ⟨k.addr.trans h.addr, k.queues ∘ h.queues, fun x => (k.tbs x).trans (h.tbs x), fun x => (k.engine x).trans (h.engine x)⟩

theorem TakeFrame.command {s t : State} (h : TakeFrame a b s t) : CommandFrame a b s t where
  addr := by rw [h.lpu]
  queues q := ⟨by rw [h.lpu]; exact q.dnFwd, by rw [h.lpu]; exact q.upFwd, h.bound q.queue, h.slots q.slots, h.alert q.alert⟩
  tbs := h.tbs
  engine := h.engine

theorem raiseFlag_command (f : Sticky) (s : State) : CommandFrame a b s (raiseFlag f s) :=
  (raiseFlag_frame f s).quiet.weaken.command

theorem setLink_command (l : PerPort Link) (s : State) : CommandFrame a b s (s.setLpu { s.lpu with link := l }) :=
  ⟨rfl, fun q => ⟨q.dnFwd, q.upFwd, q.queue, q.slots, q.alert⟩, fun _ => rfl, fun _ => rfl⟩

theorem forwardDn_command (c : Cell) (s : State) : CommandFrame a b s (forwardDn c s) := by
  unfold forwardDn
  split
  · next h =>
    exact ⟨rfl, fun q => ⟨by rw [State.setLpu_lpu, List.length_append]; exact h, q.upFwd, q.queue, q.slots, q.alert⟩,
      fun _ => rfl, fun _ => rfl⟩
  · exact raiseFlag_command _ _

theorem forwardUp_command (c : Cell) (s : State) : CommandFrame a b s (forwardUp c s) := by
  unfold forwardUp
  split
  · next h =>
    exact ⟨rfl, fun q => ⟨q.dnFwd, by rw [State.setLpu_lpu, List.length_append]; exact h, q.queue, q.slots, q.alert⟩,
      fun _ => rfl, fun _ => rfl⟩
  · exact raiseFlag_command _ _

/-- What a selection of the DN arbiter can do (R12). -/
theorem selectDn_cases (s : State) :
    (∃ w rest, s.lpu.cmds = w :: rest ∧ selectDn s = sendCommand w rest s) ∨
      (∃ c rest turn, s.lpu.dnFwd = c :: rest ∧ selectDn s = sendForwardDn c rest turn s) ∨ selectDn s = sendDnHold s := by
  unfold selectDn
  split
  · split
    · next w rest hc => exact .inl ⟨_, _, hc, rfl⟩
    · next c rest _ hd => exact .inr (.inl ⟨_, _, _, hd, rfl⟩)
    · exact .inr (.inr rfl)
  · next hfull =>
    split
    · next w rest _ hc => exact .inl ⟨_, _, hc, rfl⟩
    · next c rest hd _ => exact .inr (.inl ⟨_, _, _, hd, rfl⟩)
    · next hd _ => simp [hd, Config.dnAlternateAt] at hfull

/-- What a selection of the UP arbiter can do (R13). -/
theorem selectUp_cases (s : State) :
    (∃ c rest, s.lpu.upFwd = c :: rest ∧ selectUp s = sendForwardUp c rest s) ∨
      (∃ r rest turn, s.rpb.queue = r :: rest ∧ selectUp s = sendReport r rest turn s) ∨ selectUp s = sendUpHold s := by
  unfold selectUp
  split
  · split
    · next hc => exact .inl ⟨_, _, hc, rfl⟩
    · next hq => exact .inr (.inl ⟨_, _, _, hq, rfl⟩)
    · exact .inr (.inr rfl)
  · next hfull =>
    split
    · next hc => exact .inl ⟨_, _, hc, rfl⟩
    · next hq _ => exact .inr (.inl ⟨_, _, _, hq, rfl⟩)
    · next hq _ => simp [hq, Config.upAlternateAt] at hfull

theorem selectDn_command (s : State) : CommandFrame a b s (selectDn s) := by
  obtain ⟨w, rest, hw, h⟩ | ⟨c, rest, turn, hc, h⟩ | h := selectDn_cases s <;> rw [h]
  · refine ⟨rfl, fun q => ⟨q.dnFwd, q.upFwd, q.queue, ?_, q.alert⟩, fun _ => rfl, fun _ => rfl⟩
    have hd := q.slots
    rw [Lpu.slotsDistinct, hw, List.map_cons, List.nodup_cons] at hd
    exact hd.2
  · refine ⟨rfl, fun q => ⟨?_, q.upFwd, q.queue, q.slots, q.alert⟩, fun _ => rfl, fun _ => rfl⟩
    have hd := q.dnFwd
    rw [hc] at hd
    exact Nat.le_of_succ_le hd
  · exact ⟨rfl, fun q => ⟨q.dnFwd, q.upFwd, q.queue, q.slots, q.alert⟩, fun _ => rfl, fun _ => rfl⟩

theorem offerPending_take (s : State) (u : UnitNo) : TakeFrame a b s (offerPending s u) := by
  unfold offerPending
  split
  · exact pushReport_take _ _
  · exact .refl s

theorem clearDeparted_take (r : Report) (s : State) : TakeFrame a b s (clearDeparted r s) := by
  unfold clearDeparted
  split
  · exact setImage_take _ _ s
  · exact .refl s

theorem afterDeparture_take (r : Report) (s : State) : TakeFrame a b s (afterDeparture r s) :=
  (clearDeparted_take r s).trans (foldl_take _ offerPending_take _ _)

theorem sendReport_command (r : Report) (rest : List Report) (turn : UpTurn) (s : State) (hq : s.rpb.queue = r :: rest) :
    CommandFrame a b s (sendReport r rest turn s) := by
  refine CommandFrame.trans ?_ (afterDeparture_take r _).command
  exact ⟨rfl, fun q => ⟨q.dnFwd, q.upFwd, Nat.le_of_succ_le (by simpa [hq] using q.queue), q.slots, q.alert⟩, fun _ => rfl,
    fun _ => rfl⟩

theorem selectUp_command (s : State) : CommandFrame a b s (selectUp s) := by
  obtain ⟨c, rest, hc, h⟩ | ⟨r, rest, turn, hq, h⟩ | h := selectUp_cases s <;> rw [h]
  · refine ⟨rfl, fun q => ⟨q.dnFwd, ?_, q.queue, q.slots, q.alert⟩, fun _ => rfl, fun _ => rfl⟩
    have hd := q.upFwd
    rw [hc] at hd
    exact Nat.le_of_succ_le hd
  · exact sendReport_command r rest turn s hq
  · exact ⟨rfl, fun q => ⟨q.dnFwd, q.upFwd, q.queue, q.slots, q.alert⟩, fun _ => rfl, fun _ => rfl⟩

theorem upHoldDone_command (s : State) : CommandFrame a b s (upHoldDone s) := by
  unfold upHoldDone
  split
  · exact ⟨rfl, fun q => ⟨q.dnFwd, q.upFwd, q.queue, q.slots, q.alert⟩, fun _ => rfl, fun _ => rfl⟩
  · exact .refl s

/-- PLANT_ALERT_N is not due while no sequencer is TRIPPED or LOCAL and the arbiter is not FAULTED (R192). -/
theorem alertDue_eq_false (s : State) (hs : ∀ u, (s.seq u).state.alerts = false) (ha : s.pra.arb ≠ .faulted) :
    s.alertDue = false := by
  simp [State.alertDue, hs, ha]

/-- A warm reset empties the queues and releases PLANT_ALERT_N (R17, R185, R192). -/
theorem warmReset_command (s : State) : CommandFrame true true s (warmReset s) := by
  refine ⟨rfl, fun _ => ⟨Nat.zero_le _, Nat.zero_le _, Nat.zero_le _, List.nodup_nil, ?_⟩, (nomatch ·), (nomatch ·)⟩
  have hs : ∀ u, (warmReset s).seq u = .cold := fun u => PerUnit.get_all _ _
  exact (alertDue_eq_false _ (fun u => by rw [hs]; rfl) (by simp [warmReset, Pra.cold])).symm

theorem takeOrderOrMgt_command (i : Instr) (s : State) :
    CommandFrame i.writesTables i.setsEngine s (takeOrderOrMgt i s) := by
  by_cases hr : ∃ h r, i = .restart h r
  · obtain ⟨h, r, rfl⟩ := hr
    exact (warmReset_command s).trans (takeRestart_take h s).command
  · exact (takeOrderOrMgt_take i s fun h r hi => hr ⟨h, r, hi⟩).command

-- The arrivals (R2, R4 to R7) -----------------------------------------------------------------------------

/-- What an event does (R1). -/
theorem event_next (f : State → State) (s t : State) (h : event f s = .next t) : s.held = true ∧ t = s ∨ t = f s := by
  unfold event at h
  split at h <;> cases h
  · next hs => exact .inl ⟨hs, rfl⟩
  · exact .inr rfl

/-- Reception at a port, by its two outcomes (R2). -/
theorem receive_cases (p : Port) (bad : Sticky) (c : Cell) (f : State → State) (s : State) :
    receive p bad c f s = f (validArrival p s) ∨ ¬Delivered c s ∧ receive p bad c f s = raiseFlag bad s := by
  unfold receive
  split
  · exact .inl rfl
  · next h => exact .inr ⟨fun k => h k.2, rfl⟩

/-- What an arrival at UP leaves: undelivered, nothing or the flag of a bad CRC; delivered, the port UP, its row's act taken
or not and the cell forwarded or not (R2, R4). -/
def UpOutcome (i : Instr) (c : Cell) (s t : State) : Prop :=
  ¬Delivered c s ∧ (t = s ∨ t = raiseFlag .crcUp s) ∨
    ∃ x, (x = validArrival .up s ∨ x = takeOrderOrMgt i (validArrival .up s)) ∧ (t = x ∨ t = forwardDn c x)

theorem arriveUp_outcome (i : Instr) (c : Cell) (s : State) : UpOutcome i c s (arriveUp c (takeOrderOrMgt i) s) := by
  unfold arriveUp
  obtain h | ⟨hd, h⟩ := receive_cases .up .crcUp c (fun s => if toPart c s then takeOrderOrMgt i s
    else if c.dest = Config.broadcast then forwardDn c (takeOrderOrMgt i s) else forwardDn c s) s
  · rw [h]
    split
    · exact .inr ⟨_, .inr rfl, .inl rfl⟩
    · split
      · exact .inr ⟨_, .inr rfl, .inr rfl⟩
      · exact .inr ⟨_, .inl rfl, .inr rfl⟩
  · exact .inl ⟨hd, .inr h⟩

/-- The act on a cell arriving as such at UP is that of the row it spells. -/
theorem takeOrderOrMgt_spelled (c : Cell) :
    (readUpCell c).elim id takeOrderOrMgt = takeOrderOrMgt (Instr.spelled (.upCellArrival c)) := by
  have h : Instr.spelled (.upCellArrival c) = (readUpCell c).getD (.upCellArrival c) := rfl
  rw [h]
  cases readUpCell c <;> rfl

theorem arriveAtUp_outcome (c : Cell) (s : State) :
    UpOutcome (Instr.spelled (.upCellArrival c)) c s (arriveAtUp c s) := by
  unfold arriveAtUp
  split
  · obtain h | ⟨hd, h⟩ := receive_cases .up .crcUp c id s
    · exact .inr ⟨_, .inl rfl, .inl h⟩
    · exact .inl ⟨hd, .inr h⟩
  · split
    · rw [takeOrderOrMgt_spelled]
      exact arriveUp_outcome _ c s
    · obtain h | ⟨hd, h⟩ := receive_cases .up .crcUp c (forwardDn c) s
      · exact .inr ⟨_, .inl rfl, .inr h⟩
      · exact .inl ⟨hd, .inr h⟩

/-- The meaning of a row whose cell arrives at UP and is read by the row: the frame of R4 around its block's act. -/
theorem exec_up (i : Instr) (c : Cell) (s : State) (hc : cellOf i = some c) (hd : i.atDn = false)
    (hw : i.carriesCell = false) : exec i s = event (arriveUp c (takeOrderOrMgt i)) s := by
  cases i <;> cases hc <;> cases hd <;> cases hw <;> rfl

/-- While RESET_N is low no cell is delivered (R1). -/
theorem undelivered_of_held {c : Cell} {s : State} {P : Prop} (h : s.held = true) : ¬Delivered c s ∧ (s = s ∨ P) :=
  ⟨fun k => by simp [k.1] at h, .inl rfl⟩

/-- What a command whose cell arrives at UP leaves. -/
theorem exec_up_outcome (i : Instr) (c : Cell) (s t : State) (hc : cellOf i = some c) (hd : i.atDn = false)
    (h : exec i s = .next t) : UpOutcome i.spelled c s t := by
  cases hw : i.carriesCell
  · rw [exec_up i c s hc hd hw] at h
    have hi : i.spelled = i := by cases i <;> first | rfl | cases hw
    rw [hi]
    obtain ⟨hs, rfl⟩ | rfl := event_next _ _ _ h
    · exact .inl (undelivered_of_held hs)
    · exact arriveUp_outcome i c s
  · cases i <;> cases hw <;> cases hd
    cases hc
    obtain ⟨hs, rfl⟩ | rfl := event_next _ _ _ h
    · exact .inl (undelivered_of_held hs)
    · exact arriveAtUp_outcome c s

/-- An act of the Unit Image Block on a TEL cell, or none (R6, R7). -/
def TelAct (s t : State) : Prop :=
  t = s ∨ (∃ h k r, t = takeUnitIdent h k r s) ∨ (∃ h st f pw hd pm il, t = snoopUnitStatus h st f pw hd pm il s) ∨
    ∃ h r f k, t = snoopConvStatus h r f k s

/-- What an arrival at DN leaves: undelivered, nothing or the flag of a bad CRC; delivered, the port UP, an act of the
Unit Image Block or none, and the cell forwarded or not (R2, R5). -/
def DnOutcome (c : Cell) (s t : State) : Prop :=
  ¬Delivered c s ∧ (t = s ∨ t = raiseFlag .crcDn s) ∨ ∃ x, TelAct (validArrival .dn s) x ∧ (t = x ∨ t = forwardUp c x)

theorem arriveDn_outcome (c : Cell) (take snoop : State → State) (s : State) (ht : ∀ x, TelAct x (take x))
    (hs : ∀ x, TelAct x (snoop x)) : DnOutcome c s (arriveDn c take snoop s) := by
  unfold arriveDn
  obtain h | ⟨hd, h⟩ := receive_cases .dn .crcDn c (fun s => if toPart c s then take s
    else if snooped c.src s then forwardUp c (snoop s) else forwardUp c s) s
  · rw [h]
    split
    · exact .inr ⟨_, ht _, .inl rfl⟩
    · split
      · exact .inr ⟨_, hs _, .inr rfl⟩
      · exact .inr ⟨_, .inl rfl, .inr rfl⟩
  · exact .inl ⟨hd, .inr h⟩

theorem takeTel_act (c : Cell) (s : State) : TelAct s (takeTel c s) := by
  unfold takeTel
  split
  · exact .inr (.inl ⟨_, _, _, rfl⟩)
  · exact .inl rfl

theorem snoopTel_act (c : Cell) (s : State) : TelAct s (snoopTel c s) := by
  unfold snoopTel
  split
  · exact .inr (.inr (.inl ⟨_, _, _, _, _, _, _, rfl⟩))
  · exact .inr (.inr (.inr ⟨_, _, _, _, rfl⟩))
  · exact .inl rfl

theorem arriveAtDn_outcome (c : Cell) (s : State) : DnOutcome c s (arriveAtDn c s) := by
  unfold arriveAtDn
  split
  · obtain h | ⟨hd, h⟩ := receive_cases .dn .crcDn c id s
    · exact .inr ⟨_, .inl rfl, .inl h⟩
    · exact .inl ⟨hd, .inr h⟩
  · split
    · exact arriveDn_outcome c _ _ s (takeTel_act c) (snoopTel_act c)
    · obtain h | ⟨hd, h⟩ := receive_cases .dn .crcDn c (forwardUp c) s
      · exact .inr ⟨_, .inl rfl, .inr h⟩
      · exact .inl ⟨hd, .inr h⟩

/-- What a command whose cell arrives at DN leaves. -/
theorem exec_dn_outcome (i : Instr) (c : Cell) (s t : State) (hc : cellOf i = some c) (hd : i.atDn = true)
    (h : exec i s = .next t) : DnOutcome c s t := by
  cases i <;> cases hd <;> cases hc
  all_goals
    obtain ⟨hs, rfl⟩ | rfl := event_next _ _ _ h
    · exact .inl (undelivered_of_held hs)
  case dnCellArrival => exact arriveAtDn_outcome _ _
  case unitStatus =>
    exact arriveDn_outcome _ _ _ _ (fun _ => .inl rfl) fun _ => .inr (.inr (.inl ⟨_, _, _, _, _, _, _, rfl⟩))
  case unitIdent => exact arriveDn_outcome _ _ _ _ (fun _ => .inr (.inl ⟨_, _, _, rfl⟩)) fun _ => .inl rfl
  case convStatus => exact arriveDn_outcome _ _ _ _ (fun _ => .inl rfl) fun _ => .inr (.inr (.inr ⟨_, _, _, _, rfl⟩))
  case snoopedSubkindIgnored => exact arriveAtDn_outcome _ _

theorem UpOutcome.command {i : Instr} {c : Cell} {s t : State} (h : UpOutcome i c s t) :
    CommandFrame i.writesTables i.setsEngine s t := by
  obtain ⟨-, rfl | rfl⟩ | ⟨x, hx, ht⟩ := h
  · exact .refl t
  · exact raiseFlag_command _ _
  · have hv : CommandFrame i.writesTables i.setsEngine s (validArrival .up s) := setLink_command _ _
    have h1 : CommandFrame i.writesTables i.setsEngine s x := by
      obtain rfl | rfl := hx
      · exact hv
      · exact hv.trans (takeOrderOrMgt_command i _)
    obtain rfl | rfl := ht
    · exact h1
    · exact h1.trans (forwardDn_command _ _)

theorem TelAct.take {s t : State} (h : TelAct s t) : TakeFrame a b s t := by
  obtain rfl | ⟨h, k, r, rfl⟩ | ⟨h, st, f, pw, hd, pm, il, rfl⟩ | ⟨h, r, f, k, rfl⟩ := h
  · exact .refl t
  · exact takeUnitIdent_take _ _ _ _
  · exact snoopUnitStatus_take _ _ _ _ _ _ _ _
  · exact snoopConvStatus_take _ _ _ _ _

theorem DnOutcome.command {c : Cell} {s t : State} (h : DnOutcome c s t) : CommandFrame a b s t := by
  obtain ⟨-, rfl | rfl⟩ | ⟨x, hx, ht⟩ := h
  · exact .refl t
  · exact raiseFlag_command _ _
  · have h1 : CommandFrame a b s x := CommandFrame.trans (setLink_command _ s) hx.take.command
    obtain rfl | rfl := ht
    · exact h1
    · exact h1.trans (forwardUp_command _ _)

-- Every command -------------------------------------------------------------------------------------------

/-- What a command that is no cell's arrival keeps: the expiry of a timer, a selection, the end of an UP HOLD and the fall
of RESET_N. -/
theorem exec_timer_command (i : Instr) (s t : State) (hc : cellOf i = none) (hi : ∀ strap, i ≠ .resetNRelease strap)
    (h : exec i s = .next t) : CommandFrame a b s t := by
  cases i <;> cases hc
  case resetNLow =>
    cases h
    exact ⟨rfl, fun q => ⟨q.dnFwd, q.upFwd, q.queue, q.slots, driveAlert_due _⟩, fun _ => rfl, fun _ => rfl⟩
  case resetNRelease strap => exact absurd rfl (hi strap)
  case upSelection =>
    obtain ⟨-, rfl⟩ | rfl := event_next (fun s => selectUp (upHoldDone s)) s t h
    · exact .refl t
    · exact (upHoldDone_command s).trans (selectUp_command _)
  case refreshExpiry u =>
    unfold exec execRefreshExpiry at h
    obtain ⟨-, rfl⟩ | rfl := event_next _ _ _ h
    · exact .refl t
    · split
      · exact (placeSetpoint_frame _ _ _).quiet.weaken.command
      · exact .refl s
  all_goals
    obtain ⟨-, rfl⟩ | rfl := event_next _ _ _ h
    · exact .refl t
  case linkLossExpiry =>
    split
    · exact CommandFrame.trans (setLink_command _ s) (raiseFlag_command _ _)
    · exact .refl s
  case dnSelection => exact selectDn_command s
  case upHoldSent => exact upHoldDone_command s
  all_goals refine TakeFrame.command ?_; split <;> try exact .refl s
  case guardExpiry => exact guardExpired_take s
  case identityWaitExpiry => exact identityWaitExpired_take _ s
  case staleExpiry => exact staleExpired_take _ s
  case releaseTimerExpiry => exact releaseExpired_take s
  case stageTimeout => exact closeEvent_of_frame (enterTripped_frame _ _ _ (.start s))
  case lockwaitTimeout => exact closeEvent_of_frame (lockwaitExpired_frame _ (.start s))
  case queueTimeout => exact closeEvent_of_frame (stopWithReport_frame _ _ (.start s))
  case minRunExpiry => exact minRunExpired_take _ s
  case minStillExpiry => exact minStillExpired_take _ s
  case lingerExpiry => exact closeEvent_of_frame (enterStopping_frame _ (.start s))
  case rampIntervalExpiry => exact rampExpiry_take s

/-- What every command but the release of RESET_N keeps. -/
theorem exec_command (i : Instr) (s t : State) (hi : ∀ strap, i ≠ .resetNRelease strap) (h : exec i s = .next t) :
    CommandFrame i.spelled.writesTables i.spelled.setsEngine s t := by
  cases hc : cellOf i with
  | some c =>
    cases hd : i.atDn
    · exact (exec_up_outcome i c s t hc hd h).command
    · exact (exec_dn_outcome i c s t hc hd h).command
  | none => exact exec_timer_command i s t hc hi h

-- Steps and resets ----------------------------------------------------------------------------------------

/-- A step idles or runs the command at the front of the queue. -/
theorem step_next (s t : State) (h : step s = .next t) :
    t = s ∨ ∃ i rest, s.pending = i :: rest ∧ exec i { s with pending := rest } = .next t := by
  unfold step at h
  split at h
  · cases h; exact .inl rfl
  · next i rest hp => exact .inr ⟨i, rest, hp, h⟩

theorem strapAddress_bounds (strap : BitVec 5) : 1 ≤ strapAddress strap ∧ strapAddress strap ≤ 30 := by
  unfold strapAddress
  split
  · decide
  · next h0 =>
    split
    · decide
    · next h31 =>
      have h0' : strap.toNat ≠ 0 := fun h => h0 (BitVec.eq_of_toNat_eq h)
      have h31' : strap.toNat ≠ 31 := fun h => h31 (BitVec.eq_of_toNat_eq h)
      have := strap.isLt
      omega

theorem cold_queuesAndAlert (addr : Nat) (p : List Instr) : QueuesAndAlert { State.cold addr with pending := p } where
  dnFwd := Nat.zero_le _
  upFwd := Nat.zero_le _
  queue := Nat.zero_le _
  slots := List.nodup_nil
  alert := by
    have hs : ∀ u, ({ State.cold addr with pending := p } : State).seq u = .cold := fun u => PerUnit.get_all _ _
    exact (alertDue_eq_false _ (fun u => by rw [hs]; rfl) (by simp [State.cold, Pra.cold])).symm

theorem cold_addressesApart (addr : Nat) (p : List Instr) (h : 1 ≤ addr ∧ addr ≤ 30) :
    AddressesApart { State.cold addr with pending := p } := by
  have absent : ∀ u, (({ State.cold addr with pending := p } : State).unit u).present = true → False := fun u k => by
    have hu : ({ State.cold addr with pending := p } : State).unit u = .cold := PerUnit.get_all _ _
    rw [hu] at k
    exact nomatch k
  exact ⟨h, fun u _ k => (absent u k).elim, fun u k => (absent u k).elim, fun u k => (absent u k).elim⟩

-- Link addresses (R3, R25, R27) ---------------------------------------------------------------------------

theorem AddressesApart.congr {s t : State} (h : AddressesApart s) (ha : t.lpu.addr = s.lpu.addr)
    (hu : t.tbs.units = s.tbs.units) (hc : t.tbs.plant.convAddr = s.tbs.plant.convAddr) : AddressesApart t := by
  have unit : ∀ u, t.unit u = s.unit u := fun u => by simp only [State.unit, hu]
  refine ⟨?_, ?_, ?_, ?_⟩
  · rw [ha]; exact h.own
  · simpa only [unit] using h.units
  · simpa only [unit, ha] using h.fromPart
  · simpa only [unit, hc] using h.fromConv

/-- A changed converter address that no present unit and not the part has (R25). -/
theorem AddressesApart.setPlant {s t : State} (h : AddressesApart s) (ha : t.lpu.addr = s.lpu.addr)
    (hu : t.tbs.units = s.tbs.units) (hc : UnitNo.all.any (presentAt s t.tbs.plant.convAddr) = false) :
    AddressesApart t := by
  have unit : ∀ u, t.unit u = s.unit u := fun u => by simp only [State.unit, hu]
  refine ⟨by rw [ha]; exact h.own, by simpa only [unit] using h.units, by simpa only [unit, ha] using h.fromPart, ?_⟩
  intro u hp he
  rw [unit] at hp he
  have := List.any_eq_false.mp hc u (UnitNo.mem_all u)
  simp [presentAt, hp, he] at this

/-- A UNIT entry stored whose link address, where it is present, collides with none (R27). -/
theorem AddressesApart.setUnit {s t : State} {u : UnitNo} {n : UnitEntry} (h : AddressesApart s)
    (ha : t.lpu.addr = s.lpu.addr) (hu : t.tbs.units = s.tbs.units.set u n)
    (hc : t.tbs.plant.convAddr = s.tbs.plant.convAddr) (hn : n.present = true → addrCollides s u n.addr = false) :
    AddressesApart t := by
  have self : t.unit u = n := by simp only [State.unit, hu, PerUnit.get_set_self]
  have other : ∀ v, v ≠ u → t.unit v = s.unit v := fun v hv => by
    simp only [State.unit, hu, PerUnit.get_set_ne _ _ _ _ hv]
  have free : n.present = true → (∀ v, v ≠ u → (s.unit v).present = true → (s.unit v).addr ≠ n.addr) ∧
      n.addr ≠ s.lpu.addr ∧ n.addr ≠ s.tbs.plant.convAddr := fun k => by
    have := hn k
    simp only [addrCollides, presentAt, Bool.or_eq_false_iff, List.any_eq_false, Bool.and_eq_true, bne_iff_ne, ne_eq,
      beq_iff_eq, beq_eq_false_iff_ne] at this
    obtain ⟨⟨apart, own⟩, conv⟩ := this
    exact ⟨fun v hv hp he => apart v (UnitNo.mem_all v) ⟨hv, hp, he⟩, own, conv⟩
  refine ⟨by rw [ha]; exact h.own, fun v w hv hw he => ?_, fun v hv => ?_, fun v hv => ?_⟩
  · by_cases hvu : v = u <;> by_cases hwu : w = u
    · rw [hvu, hwu]
    · subst hvu
      rw [self] at hv he
      rw [other w hwu] at hw he
      exact absurd he.symm ((free hv).1 w hwu hw)
    · subst hwu
      rw [self] at hw he
      rw [other v hvu] at hv he
      exact absurd he ((free hw).1 v hvu hv)
    · rw [other v hvu] at hv he
      rw [other w hwu] at hw he
      exact h.units v w hv hw he
  · by_cases hvu : v = u
    · rw [hvu, self] at hv ⊢
      rw [ha]
      exact (free hv).2.1
    · rw [other v hvu] at hv ⊢
      rw [ha]
      exact h.fromPart v hv
  · by_cases hvu : v = u
    · rw [hvu, self] at hv ⊢
      rw [hc]
      exact (free hv).2.2
    · rw [other v hvu] at hv ⊢
      rw [hc]
      exact h.fromConv v hv

/-- The link addresses of units and converter are left as they are. -/
def SameAddresses (s t : State) : Prop := t.tbs.units = s.tbs.units ∧ t.tbs.plant = s.tbs.plant

theorem TakeFrame.sameAddresses {s t : State} (h : TakeFrame false b s t) : SameAddresses s t := by
  rw [SameAddresses, h.tbs rfl]; exact ⟨rfl, rfl⟩

/-- A write whose stored entry leaves the addresses leaves them whatever it decides. -/
theorem takeWrite_sameAddresses {α : Type} (h : Hdr) (answer : MgtCode → Nat → Report) (d : Decision α)
    (effect : α → State → State) (s : State) (he : ∀ x t, SameAddresses t (effect x t)) :
    SameAddresses s (takeWrite h answer d effect s) := by
  have push : ∀ r, SameAddresses s (pushReport r s) := fun r =>
    (pushReport_take (a := false) (b := false) r s).sameAddresses
  obtain hs | ⟨r, hr⟩ | ⟨k, x, r, -, hx⟩ := takeWrite_cases h answer d effect s
  · rw [hs]; exact ⟨rfl, rfl⟩
  · rw [hr]; exact push r
  · rw [hx]; exact ⟨(he x _).1.trans (push r).1, (he x _).2.trans (push r).2⟩

/-- A write to the state with other tables, up to acts that leave the tables. -/
theorem setTbs_sameAddresses {s r : State} {t : Tbs} (h : QuietFrame (s.setTbs t) r) (hu : t.units = s.tbs.units)
    (hp : t.plant = s.tbs.plant) : SameAddresses s r := by
  rw [SameAddresses, h.tbs rfl]; exact ⟨hu, hp⟩

theorem storeProfile_sameAddresses (p : Fin 4) (n : Profile) (s : State) : SameAddresses s (storeProfile p n s) :=
  setTbs_sameAddresses (recomputeProfile_take p none _) rfl rfl

theorem storeBand_sameAddresses (p : Fin 4) (k : Fin 12) (x : Band) (s : State) : SameAddresses s (storeBand p k x s) :=
  setTbs_sameAddresses (recomputeProfile_take p (some k) _) rfl rfl

theorem storeMerit_sameAddresses (index : Byte) (l : List UnitNo) (s : State) :
    SameAddresses s (storeMerit index l s) := by
  unfold storeMerit
  dsimp only
  split <;> exact setTbs_sameAddresses (closeEvent_take (.trigger true (.start _))) rfl rfl

theorem setGate_sameAddresses (g : Bool) (r : Report) (s : State) :
    SameAddresses s (pushReport r (s.setTbs { s.tbs with gateOpen := g })) :=
  setTbs_sameAddresses (pushReport_take r _) rfl rfl

/-- A stored PLANT entry has a converter address of its own (R25). -/
theorem decidePlant_store (s : State) (index : Byte) (f : PlantFields) (k : Nat) (p : Plant)
    (h : decidePlant s index f = .store k p) : UnitNo.all.any (presentAt s p.convAddr) = false := by
  unfold decidePlant at h
  dsimp only at h
  split at h
  · cases h
  · split at h
    · cases h
    · split at h
      · cases h
      · next hc =>
        cases h
        exact Bool.not_eq_true _ ▸ fun k => hc (.inr k)

/-- A stored UNIT entry, where it is present, has a link address of its own (R27). -/
theorem decideUnit_store (s : State) (index present : Byte) (f : UnitFields) (k : Nat) (x : UnitNo × UnitEntry)
    (h : decideUnit s index present f = .store k x) : x.2.present = true → addrCollides s x.1 x.2.addr = false := by
  unfold decideUnit at h
  dsimp only at h
  split at h
  · cases h
  · split at h
    · cases h
    · split at h
      · cases h
      · next hc =>
        cases h
        exact fun hp => Bool.not_eq_true _ ▸ fun k => hc ⟨hp, k⟩

theorem takePlantWrite_apart (h : Hdr) (index : Byte) (f : PlantFields) (s : State) (hs : AddressesApart s) :
    AddressesApart (takePlantWrite h index f s) := by
  unfold takePlantWrite
  obtain he | ⟨r, he⟩ | ⟨k, p, r, hd, he⟩ := takeWrite_cases h (writeAnswer h tablePlant index 0) (decidePlant s index f)
    storePlant s <;> rw [he]
  · exact hs
  · have push := pushReport_frame r s
    exact hs.congr (by rw [push.lpu]) (by rw [push.tbs]) (by rw [push.tbs])
  · have push := pushReport_frame r s
    have ht : (storePlant p (pushReport r s)).tbs = { s.tbs with plant := p } := by
      unfold storePlant
      dsimp only
      split <;> (rw [← push.tbs]; rfl)
    have hl := (storePlant_take (b := false) p (pushReport r s)).lpu
    exact hs.setPlant (by rw [hl, push.lpu]) (by rw [ht]) (by rw [ht]; exact decidePlant_store s index f k p hd)

theorem takeUnitWrite_apart (h : Hdr) (answer : MgtCode → Nat → Report) (index present : Byte) (f : UnitFields)
    (effect : UnitNo × UnitEntry → State → State) (s : State) (hs : AddressesApart s)
    (he : ∀ x t, TakeFrame true false t (effect x t) ∧ (effect x t).tbs = { t.tbs with units := t.tbs.units.set x.1 x.2 }) :
    AddressesApart (takeWrite h answer (decideUnit s index present f) effect s) := by
  obtain hw | ⟨r, hw⟩ | ⟨k, x, r, hd, hw⟩ := takeWrite_cases h answer (decideUnit s index present f) effect s <;> rw [hw]
  · exact hs
  · have push := pushReport_frame r s
    exact hs.congr (by rw [push.lpu]) (by rw [push.tbs]) (by rw [push.tbs])
  · have push := pushReport_frame r s
    obtain ⟨hf, ht⟩ := he x (pushReport r s)
    exact hs.setUnit (by rw [hf.lpu, push.lpu]) (by rw [ht, push.tbs]) (by rw [ht, push.tbs])
      (decideUnit_store s index present f k x hd)

theorem storePresent_tbs (u : UnitNo) (n : UnitEntry) (s : State) :
    (storePresent u n s).tbs = { s.tbs with units := s.tbs.units.set u n } := by
  obtain ⟨t, ht, hs⟩ := storePresent_shape u n s
  rw [hs, (startExchange_take (a := false) (b := false) u _).tbs rfl]
  exact ht.tbs rfl

/-- The acts that may change the tables leave the addresses, but for the writes of PLANT and UNIT. -/
theorem takeOrderOrMgt_sameAddresses (i : Instr) (s : State) (hp : ∀ h x f p, i ≠ .plantWrite h x f p)
    (hu : ∀ h x q f p, i ≠ .unitWritePresent h x q f p) (ha : ∀ h x f p, i ≠ .unitWriteAbsent h x f p)
    (hw : i.writesTables = true) : SameAddresses s (takeOrderOrMgt i s) := by
  cases i <;> cases hw
  case plantWrite => exact absurd rfl (hp _ _ _ _)
  case unitWritePresent => exact absurd rfl (hu _ _ _ _ _)
  case unitWriteAbsent => exact absurd rfl (ha _ _ _ _)
  case tableGateOpen =>
    show SameAddresses s (takeGateOpen _ s)
    unfold takeGateOpen
    split
    · exact ⟨rfl, rfl⟩
    · exact setGate_sameAddresses _ _ s
  case tableGateClose =>
    show SameAddresses s (takeGateClose _ s)
    unfold takeGateClose
    split
    · exact ⟨rfl, rfl⟩
    · exact setGate_sameAddresses _ _ s
  case profileWrite => exact takeWrite_sameAddresses _ _ _ _ s fun x => storeProfile_sameAddresses x.1 x.2
  case bandWrite => exact takeWrite_sameAddresses _ _ _ _ s fun x => storeBand_sameAddresses x.1 x.2.1 x.2.2
  case meritWrite => exact takeWrite_sameAddresses _ _ _ _ s (storeMerit_sameAddresses _)
  case waterwayWrite => exact takeWrite_sameAddresses _ _ _ _ s fun _ _ => ⟨rfl, rfl⟩
  case tableWriteUnknownTable => exact takeWrite_sameAddresses _ _ _ _ s fun _ _ => ⟨rfl, rfl⟩
  case restart h r =>
    exact (takeRestart_take (b := false) h s).sameAddresses

theorem takeOrderOrMgt_apart (i : Instr) (s : State) (hs : AddressesApart s) : AddressesApart (takeOrderOrMgt i s) := by
  have hf := takeOrderOrMgt_command i s
  by_cases hw : i.writesTables = true
  · have rest : SameAddresses s (takeOrderOrMgt i s) → AddressesApart (takeOrderOrMgt i s) := fun ht =>
      hs.congr hf.addr ht.1 (by rw [ht.2])
    cases i with
    | plantWrite => exact takePlantWrite_apart _ _ _ s hs
    | unitWritePresent =>
      exact takeUnitWrite_apart _ _ _ _ _ _ s hs fun x t => ⟨storePresent_take x.1 x.2 t, storePresent_tbs x.1 x.2 t⟩
    | unitWriteAbsent =>
      exact takeUnitWrite_apart _ _ _ _ _ _ s hs fun x t => ⟨storeAbsent_take x.1 x.2 t, rfl⟩
    | _ => exact rest (takeOrderOrMgt_sameAddresses _ s (by simp) (by simp) (by simp) hw)
  · have ht := hf.tbs (Bool.not_eq_true _ ▸ hw)
    exact hs.congr hf.addr (by rw [ht]) (by rw [ht])

theorem UpOutcome.apart {i : Instr} {c : Cell} {s t : State} (h : UpOutcome i c s t) (hs : AddressesApart s) :
    AddressesApart t := by
  have keep : ∀ x y, CommandFrame false false x y → AddressesApart x → AddressesApart y := fun x y k hx =>
    hx.congr k.addr (by rw [k.tbs rfl]) (by rw [k.tbs rfl])
  obtain ⟨-, rfl | rfl⟩ | ⟨x, hx, ht⟩ := h
  · exact hs
  · exact keep _ _ (raiseFlag_command _ _) hs
  · have hv : AddressesApart (validArrival .up s) := keep _ _ (setLink_command _ s) hs
    have h1 : AddressesApart x := by
      obtain rfl | rfl := hx
      · exact hv
      · exact takeOrderOrMgt_apart i _ hv
    obtain rfl | rfl := ht
    · exact h1
    · exact keep _ _ (forwardDn_command c x) h1

theorem exec_apart (i : Instr) (s t : State) (hs : AddressesApart s) (h : exec i s = .next t) : AddressesApart t := by
  by_cases hi : ∃ strap, i = .resetNRelease strap
  · obtain ⟨strap, rfl⟩ := hi
    cases h
    exact cold_addressesApart _ _ (strapAddress_bounds strap)
  · have keep : CommandFrame false false s t → AddressesApart t := fun k =>
      hs.congr k.addr (by rw [k.tbs rfl]) (by rw [k.tbs rfl])
    cases hc : cellOf i with
    | some c =>
      cases hd : i.atDn
      · exact (exec_up_outcome i c s t hc hd h).apart hs
      · exact keep (exec_dn_outcome i c s t hc hd h).command
    | none => exact keep (exec_timer_command i s t hc (fun strap k => hi ⟨strap, k⟩) h)

/-- Settles O30: the part's address is the strap's for good, and the two writes that can give a new link address check it
against the others. -/
theorem addressesStayApart : Obligations.AddressesStayApart := by
  intro s t hs h
  obtain rfl | ⟨i, rest, -, hx⟩ := step_next s t h
  · exact hs
  · exact exec_apart i { s with pending := rest } t ⟨hs.own, hs.units, hs.fromPart, hs.fromConv⟩ hx

/-- Settles O59: every command but the release of RESET_N keeps the bounds, the slots and the drive of PLANT_ALERT_N, and
the release gives them their cold values. -/
theorem queuesAndAlertKept : Obligations.QueuesAndAlertKept := by
  intro s t hs h
  obtain rfl | ⟨i, rest, -, hx⟩ := step_next s t h
  · exact hs
  · by_cases hi : ∃ strap, i = .resetNRelease strap
    · obtain ⟨strap, rfl⟩ := hi
      cases hx
      exact cold_queuesAndAlert _ _
    · exact (exec_command i _ t (fun strap k => hi ⟨strap, k⟩) hx).queues
        ⟨hs.dnFwd, hs.upFwd, hs.queue, hs.slots, hs.alert⟩

theorem writesTables_iff (i : Instr) : i.writesTables = true ↔ i.tableWrite.isSome = true ∨
    (∃ h p, i = .tableGateOpen h p) ∨ (∃ h p, i = .tableGateClose h p) ∨ ∃ h r, i = .restart h r := by
  cases i <;> simp [Instr.writesTables, Instr.tableWrite]

theorem setsEngine_iff (i : Instr) : i.setsEngine = true ↔ (∃ h p, i = .engineRun h p) ∨ (∃ h p, i = .enginePause h p) ∨
    (∃ h id p, i = .abort h id p) ∨ (∃ h id p, i = .resume h id p) ∨ ∃ h r, i = .restart h r := by
  cases i <;> simp [Instr.setsEngine]

/-- Settles O29: the frame of every command keeps the address, and keeps the tables and the engine state but for the rows
named. -/
theorem onlyNamedRowsChangeSettings : Obligations.OnlyNamedRowsChangeSettings := by
  intro i s t h hi
  have f := exec_command i s t hi h
  refine ⟨f.addr, fun ht => (writesTables_iff _).mp ?_, fun he => (setsEngine_iff _).mp ?_⟩
  · by_contra hw
    exact ht (f.tbs (Bool.not_eq_true _ ▸ hw))
  · by_contra hw
    exact he (f.engine (Bool.not_eq_true _ ▸ hw))

end Sys2Proof.Machine
end

section
/-! The cells that arrive: what a received cell spells is a command of that very cell (R193 to R195), and what every row
that is a cell's arrival does by CRC, port and destination (R1, R2, R4 to R8, R15). -/

namespace Sys2Proof

-- A payload put together again from its fields (R193, R195) -----------------------------------------------

/-- Two adjacent fields of a payload are one field. -/
theorem Payload.join (p : Payload) {i j a b : Nat} (h : j = i + b) :
    p.extractLsb' j a ++ p.extractLsb' i b = p.extractLsb' i (a + b) := by
  subst h
  ext k hk
  simp only [BitVec.getElem_append, BitVec.getElem_extractLsb']
  split
  · rfl
  · congr 1; omega

theorem Payload.of_all (p : Payload) : Payload.of (p.extractLsb' 0 208) = p := by
  ext k hk
  simp [Payload.of]

theorem readPlant_bits (p : Payload) : (readPlant p).bits = p.extractLsb' 120 72 := by
  simp only [readPlant, PlantFields.bits, BitVec.setWidth_eq, Payload.half, Payload.byte, Payload.join]

theorem readUnit_bits (p : Payload) : (readUnit p).bits = p.extractLsb' 80 104 := by
  simp only [readUnit, UnitFields.bits, BitVec.setWidth_eq, Payload.half, Payload.byte, Payload.join]

theorem readProfile_bits (p : Payload) : (readProfile p).bits = p.extractLsb' 0 192 := by
  simp only [readProfile, ProfileFields.bits, BitVec.setWidth_eq, Payload.byte, Payload.group, Payload.join]

theorem readBand_bits (p : Payload) : (readBand p).bits = p.extractLsb' 72 112 := by
  simp only [readBand, BandFields.bits, BitVec.setWidth_eq, Payload.half, Payload.byte, Payload.join]

theorem readMerit_bits (p : Payload) : (readMerit p).bits = p.extractLsb' 136 56 := by
  simp only [readMerit, MeritFields.bits, BitVec.setWidth_eq, Payload.byte, Payload.join]

/-- A received cell is its header with its kind, sub-kind and payload. -/
theorem Cell.eq_of_parts {c : Cell} {k s : Byte} {p : Payload} (hk : c.kind = k) (hs : c.sub = s) (hp : p = c.payload) :
    c.hdr.cell k s p = c := by
  subst hk hs hp; rfl

-- The cell of what a cell spells (R194, R195) -------------------------------------------------------------

theorem cellOf_readOrder (c : Cell) (i : Instr) (hk : c.kind = kindOrder) (h : readOrder c = some i) :
    cellOf i = some c := by
  unfold readOrder at h
  dsimp only at h
  repeat' split at h
  all_goals cases h
  all_goals
    refine congrArg some (Cell.eq_of_parts hk ‹c.sub = _› ?_)
    simp only [Payload.half, Payload.byte, Payload.tail, Payload.join]
    exact Payload.of_all _

theorem cellOf_readTableWrite (c : Cell) (hk : c.kind = kindMgt) (hs : c.sub = subTableWrite) :
    cellOf (readTableWrite c) = some c := by
  have made : ∀ {p : Payload}, p = c.payload → some (c.hdr.cell kindMgt subTableWrite p) = some c := fun hp =>
    congrArg some (Cell.eq_of_parts hk hs hp)
  have unit : Payload.of (c.payload.byte 4 ++ c.payload.byte 5 ++ c.payload.byte 6 ++ (readUnit c.payload).bits ++
      c.payload.tail 80) = c.payload := by
    rw [readUnit_bits]
    simp only [Payload.byte, Payload.tail, Payload.join]
    exact Payload.of_all _
  unfold readTableWrite
  dsimp only
  split
  · next h =>
    refine made ?_
    rw [← h, readPlant_bits]
    simp only [Payload.byte, Payload.tail, Payload.join]
    exact Payload.of_all _
  split
  · next h =>
    rw [h] at unit
    split
    · next h0 => rw [h0] at unit; exact made unit
    · exact made unit
  split
  · next h =>
    refine made ?_
    rw [← h, readProfile_bits]
    simp only [Payload.byte, Payload.join]
    exact Payload.of_all _
  split
  · next h =>
    refine made ?_
    rw [← h, readBand_bits]
    simp only [Payload.byte, Payload.tail, Payload.join]
    exact Payload.of_all _
  split
  · next h =>
    refine made ?_
    rw [← h, readMerit_bits]
    simp only [Payload.byte, Payload.tail, Payload.join]
    exact Payload.of_all _
  split
  · next h =>
    refine made ?_
    rw [← h]
    simp only [Payload.byte, Payload.half, Payload.tail, Payload.join]
    exact Payload.of_all _
  · refine made ?_
    simp only [Payload.byte, Payload.tail, Payload.join]
    exact Payload.of_all _

/-- The first byte of a payload and the rest. -/
theorem Payload.request_tail (p : Payload) : Payload.of (p.byte 4 ++ p.tail 200) = p := by
  simp only [Payload.byte, Payload.tail, Payload.join]
  exact Payload.of_all _

theorem cellOf_readTableGate (c : Cell) (hk : c.kind = kindMgt) (hs : c.sub = subTableGate) :
    cellOf (readTableGate c) = some c := by
  have hp := Cell.eq_of_parts hk hs c.payload.request_tail
  unfold readTableGate
  dsimp only
  split
  · next hd =>
    show some (cellTableGate { dest := Config.broadcast, src := c.src, crc := c.crc } _ _) = some c
    rw [← hd]
    exact congrArg some hp
  · split
    · next h => rw [h] at hp; exact congrArg some hp
    · split
      · next h => rw [h] at hp; exact congrArg some hp
      · exact congrArg some hp

theorem cellOf_readEngine (c : Cell) (hk : c.kind = kindMgt) (hs : c.sub = subEngine) :
    cellOf (readEngine c) = some c := by
  have hp := Cell.eq_of_parts hk hs c.payload.request_tail
  unfold readEngine
  dsimp only
  split
  · next h => rw [h] at hp; exact congrArg some hp
  · split
    · next h => rw [h] at hp; exact congrArg some hp
    · exact congrArg some hp

theorem cellOf_readTrace (c : Cell) (hk : c.kind = kindMgt) (hs : c.sub = subTrace) :
    cellOf (readTrace c) = some c := by
  have hp := Cell.eq_of_parts hk hs c.payload.request_tail
  unfold readTrace
  dsimp only
  split
  · next h => rw [h] at hp; exact congrArg some hp
  · split
    · next h => rw [h] at hp; exact congrArg some hp
    · exact congrArg some hp

theorem cellOf_readMgt (c : Cell) (i : Instr) (hk : c.kind = kindMgt) (h : readMgt c = some i) : cellOf i = some c := by
  unfold readMgt at h
  dsimp only at h
  split at h
  · cases h; exact cellOf_readTableGate c hk ‹_›
  split at h
  · cases h; exact cellOf_readTableWrite c hk ‹_›
  split at h
  · next hs =>
    cases h
    refine congrArg some (Cell.eq_of_parts hk hs ?_)
    simp only [Payload.byte, Payload.tail, Payload.join]
    exact Payload.of_all _
  split at h
  · cases h; exact cellOf_readEngine c hk ‹_›
  split at h
  · next hs => cases h; exact congrArg some (Cell.eq_of_parts hk hs rfl)
  split at h
  · next hs =>
    cases h
    refine congrArg some (Cell.eq_of_parts hk hs ?_)
    simp only [Payload.byte, Payload.tail, Payload.join]
    exact Payload.of_all _
  split at h
  · next hs => cases h; exact congrArg some (Cell.eq_of_parts hk hs rfl)
  split at h
  · cases h; exact cellOf_readTrace c hk ‹_›
  · cases h

/-- The command that a cell arriving at UP spells is a command of that cell. -/
theorem cellOf_readUpCell (c : Cell) (i : Instr) (h : readUpCell c = some i) : cellOf i = some c := by
  unfold readUpCell at h
  split at h
  · exact cellOf_readOrder c i ‹_› h
  · split at h
    · exact cellOf_readMgt c i ‹_› h
    · cases h

/-- The command that a cell arriving at DN spells is a command of that cell. -/
theorem cellOf_readDnCell (c : Cell) (i : Instr) (h : readDnCell c = some i) : cellOf i = some c := by
  unfold readDnCell at h
  dsimp only at h
  repeat' split at h
  all_goals cases h
  all_goals
    refine congrArg some (Cell.eq_of_parts ‹c.kind = _› ‹c.sub = _› ?_)
    simp only [Payload.half, Payload.byte, Payload.tail, Payload.join]
    exact Payload.of_all _

theorem readOrder_row (c : Cell) (i : Instr) (h : readOrder c = some i) : i.atDn = false ∧ i.carriesCell = false := by
  unfold readOrder at h
  dsimp only at h
  repeat' split at h
  all_goals cases h
  all_goals exact ⟨rfl, rfl⟩

theorem readTableWrite_row (c : Cell) : (readTableWrite c).atDn = false ∧ (readTableWrite c).carriesCell = false := by
  unfold readTableWrite
  dsimp only
  repeat' split
  all_goals exact ⟨rfl, rfl⟩

theorem readTableGate_row (c : Cell) : (readTableGate c).atDn = false ∧ (readTableGate c).carriesCell = false := by
  unfold readTableGate
  dsimp only
  repeat' split
  all_goals exact ⟨rfl, rfl⟩

theorem readEngine_row (c : Cell) : (readEngine c).atDn = false ∧ (readEngine c).carriesCell = false := by
  unfold readEngine
  dsimp only
  repeat' split
  all_goals exact ⟨rfl, rfl⟩

theorem readTrace_row (c : Cell) : (readTrace c).atDn = false ∧ (readTrace c).carriesCell = false := by
  unfold readTrace
  dsimp only
  repeat' split
  all_goals exact ⟨rfl, rfl⟩

theorem readMgt_row (c : Cell) (i : Instr) (h : readMgt c = some i) : i.atDn = false ∧ i.carriesCell = false := by
  unfold readMgt at h
  dsimp only at h
  repeat' split at h
  all_goals cases h
  all_goals first
    | exact ⟨rfl, rfl⟩
    | exact readTableGate_row c
    | exact readTableWrite_row c
    | exact readEngine_row c
    | exact readTrace_row c

/-- What a cell spells at UP is an ORDER or MGT row, read at UP. -/
theorem readUpCell_row (c : Cell) (i : Instr) (h : readUpCell c = some i) :
    (c.kind = kindOrder ∨ c.kind = kindMgt) ∧ i.atDn = false ∧ i.carriesCell = false := by
  unfold readUpCell at h
  split at h
  · next hk => exact ⟨.inl hk, readOrder_row c i h⟩
  · split at h
    · next hk => exact ⟨.inr hk, readMgt_row c i h⟩
    · cases h

/-- What a cell spells at DN is one of the three rows of telemetry. -/
theorem readDnCell_row (c : Cell) (i : Instr) (h : readDnCell c = some i) : c.kind = kindTel ∧
    ((∃ h st f pw hd pm il p, i = .unitStatus h st f pw hd pm il p) ∨ (∃ h k r p, i = .unitIdent h k r p) ∨
      ∃ h r f k p, i = .convStatus h r f k p) := by
  unfold readDnCell at h
  dsimp only at h
  split at h
  · next hk =>
    refine ⟨hk, ?_⟩
    split at h
    · cases h; exact .inl ⟨_, _, _, _, _, _, _, _, rfl⟩
    split at h
    · cases h; exact .inr (.inl ⟨_, _, _, _, rfl⟩)
    split at h
    · cases h; exact .inr (.inr ⟨_, _, _, _, _, rfl⟩)
    · cases h
  · cases h

end Sys2Proof

namespace Sys2Proof.Machine

-- An event's frame (R1, R2) -------------------------------------------------------------------------------

theorem event_free (f : State → State) {s : State} (h : s.held = false) : event f s = .next (f s) := by
  simp [event, h]

theorem event_held (f : State → State) {s : State} (h : s.held = true) : event f s = .next s := by
  simp [event, h]

theorem raiseFlag_eq_withFlag (f : Sticky) (s : State) : raiseFlag f s = s.withFlag f.bit := by
  unfold raiseFlag State.withFlag State.sendingUpHold
  cases s.lpu.upTx <;> rfl

theorem forwardDn_eq_forwardedDn (c : Cell) (s : State) : forwardDn c s = s.forwardedDn c := by
  unfold forwardDn State.forwardedDn
  rw [raiseFlag_eq_withFlag]
  rfl

theorem forwardUp_eq_forwardedUp (c : Cell) (s : State) : forwardUp c s = s.forwardedUp c := by
  unfold forwardUp State.forwardedUp
  rw [raiseFlag_eq_withFlag]
  rfl

theorem receive_good (p : Port) (bad : Sticky) {c : Cell} (f : State → State) (s : State) (h : c.crcGood = true) :
    receive p bad c f s = f (s.withLinkUp p) := by
  unfold receive
  rw [if_pos h]
  rfl

theorem receive_bad (p : Port) (bad : Sticky) {c : Cell} (f : State → State) (s : State) (h : c.crcGood = false) :
    receive p bad c f s = s.withFlag bad.bit := by
  unfold receive
  rw [if_neg (by simp [h]), raiseFlag_eq_withFlag]

-- An ORDER or MGT cell by its destination (R4) ------------------------------------------------------------

theorem toPart_iff (c : Cell) (s : State) : toPart c s = true ↔ c.dest.toNat = s.lpu.addr := by
  simp [toPart]

theorem toPart_eq_false_iff (c : Cell) (s : State) : toPart c s = false ↔ c.dest.toNat ≠ s.lpu.addr := by
  simp [toPart]

theorem toPart_withLinkUp (c : Cell) (p : Port) (s : State) : toPart c (s.withLinkUp p) = toPart c s := rfl

theorem arriveUp_toPart {c : Cell} (take : State → State) {s : State} (h : Delivered c s) (ht : toPart c s = true) :
    event (arriveUp c take) s = .next (take (s.withLinkUp .up)) := by
  rw [event_free _ h.1, arriveUp, receive_good _ _ _ _ h.2, toPart_withLinkUp, if_pos ht]

theorem arriveUp_broadcast {c : Cell} (take : State → State) {s : State} (h : DeliveredBroadcast c s) :
    event (arriveUp c take) s = .next ((take (s.withLinkUp .up)).forwardedDn c) := by
  obtain ⟨hd, hb, ha⟩ := h
  have ht : toPart c s = false := by
    rw [toPart_eq_false_iff, hb]
    exact fun k => absurd ha (k ▸ Nat.lt_irrefl 31)
  rw [event_free _ hd.1, arriveUp, receive_good _ _ _ _ hd.2, toPart_withLinkUp, if_neg (by simp [ht]), if_pos hb,
    forwardDn_eq_forwardedDn]

theorem arriveUp_past {c : Cell} (take : State → State) {s : State} (h : Delivered c s) (ht : toPart c s = false)
    (hb : c.dest ≠ 31) : event (arriveUp c take) s = .next ((s.withLinkUp .up).forwardedDn c) := by
  have hb' : ¬c.dest = Config.broadcast := hb
  rw [event_free _ h.1, arriveUp, receive_good _ _ _ _ h.2, toPart_withLinkUp, if_neg (by simp [ht]), if_neg hb',
    forwardDn_eq_forwardedDn]

-- A TEL cell by its destination (R5) ----------------------------------------------------------------------

theorem arriveDn_toPart {c : Cell} (take snoop : State → State) {s : State} (h : Delivered c s) (ht : toPart c s = true) :
    event (arriveDn c take snoop) s = .next (take (s.withLinkUp .dn)) := by
  rw [event_free _ h.1, arriveDn, receive_good _ _ _ _ h.2, toPart_withLinkUp, if_pos ht]

theorem arriveDn_past {c : Cell} (take snoop : State → State) {s : State} (h : Delivered c s) (ht : toPart c s = false) :
    event (arriveDn c take snoop) s =
      .next (if snooped c.src s then (snoop (s.withLinkUp .dn)).forwardedUp c else (s.withLinkUp .dn).forwardedUp c) := by
  rw [event_free _ h.1, arriveDn, receive_good _ _ _ _ h.2, toPart_withLinkUp, if_neg (by simp [ht])]
  simp only [forwardUp_eq_forwardedUp]
  rfl

-- Every arrival (R1, R2, R15) -----------------------------------------------------------------------------

theorem arriveAtUp_receive (c : Cell) : ∃ f, arriveAtUp c = receive .up .crcUp c f := by
  unfold arriveAtUp
  repeat' split
  all_goals exact ⟨_, rfl⟩

theorem arriveAtDn_receive (c : Cell) : ∃ f, arriveAtDn c = receive .dn .crcDn c f := by
  unfold arriveAtDn
  repeat' split
  all_goals exact ⟨_, rfl⟩

/-- The meaning of every row whose cell arrives at UP is a reception there. -/
theorem exec_receive_up (i : Instr) (c : Cell) (hc : cellOf i = some c) (hd : i.atDn = false) :
    ∃ f, ∀ s, exec i s = event (receive .up .crcUp c f) s := by
  by_cases hw : i.carriesCell = true
  · cases i <;> cases hw <;> cases hd
    cases hc
    obtain ⟨f, hf⟩ := arriveAtUp_receive c
    exact ⟨f, fun s => congrArg (event · s) hf⟩
  · exact ⟨_, fun s => exec_up i c s hc hd (Bool.not_eq_true _ ▸ hw)⟩

/-- The meaning of every row whose cell arrives at DN is a reception there. -/
theorem exec_receive_dn (i : Instr) (c : Cell) (hc : cellOf i = some c) (hd : i.atDn = true) :
    ∃ f, ∀ s, exec i s = event (receive .dn .crcDn c f) s := by
  obtain ⟨f, hf⟩ := arriveAtDn_receive c
  cases i <;> cases hd <;> cases hc
  case dnCellArrival => exact ⟨f, fun s => congrArg (event · s) hf⟩
  case snoopedSubkindIgnored => exact ⟨f, fun s => congrArg (event · s) hf⟩
  all_goals exact ⟨_, fun s => rfl⟩

/-- Settles O4: RESET_N low holds every event back, and its fall drives PLANT_ALERT_N to its released level. -/
theorem resetLowStopsPorts : Obligations.ResetLowStopsPorts := by
  refine ⟨fun s => rfl, fun i c s hc hs => ?_⟩
  cases hd : i.atDn
  · obtain ⟨f, hf⟩ := exec_receive_up i c hc hd
    rw [hf, event_held _ hs]
  · obtain ⟨f, hf⟩ := exec_receive_dn i c hc hd
    rw [hf, event_held _ hs]

/-- Settles O5: the reception at the port decides by the CRC before it looks at anything else. -/
theorem badCrcRaisesFlagOnly : Obligations.BadCrcRaisesFlagOnly := by
  intro i c s hc hs hb
  cases hd : i.atDn
  · obtain ⟨f, hf⟩ := exec_receive_up i c hc hd
    rw [hf, event_free _ hs, receive_bad _ _ _ _ hb]
    rfl
  · obtain ⟨f, hf⟩ := exec_receive_dn i c hc hd
    rw [hf, event_free _ hs, receive_bad _ _ _ _ hb]
    rfl

/-- A cell arriving as such at UP acts as the row it spells. -/
theorem exec_upCellArrival_spelled (c : Cell) (i : Instr) (s : State) (h : readUpCell c = some i) :
    exec (.upCellArrival c) s = exec i s := by
  obtain ⟨hk, hd, hw⟩ := readUpCell_row c i h
  have h0 : c.kind ≠ kindHold := by rcases hk with hk | hk <;> (rw [hk]; decide)
  rw [exec_up i c s (cellOf_readUpCell c i h) hd hw]
  show event (arriveAtUp c) s = _
  rw [arriveAtUp, if_neg h0, if_pos hk, h]
  rfl

/-- A cell arriving as such at DN acts as the row it spells. -/
theorem exec_dnCellArrival_spelled (c : Cell) (i : Instr) (s : State) (h : readDnCell c = some i) :
    exec (.dnCellArrival c) s = exec i s := by
  obtain ⟨hk, hi⟩ := readDnCell_row c i h
  have hc := cellOf_readDnCell c i h
  have h0 : c.kind ≠ kindHold := by rw [hk]; decide
  show event (arriveAtDn c) s = _
  rw [arriveAtDn, if_neg h0, if_pos hk]
  obtain ⟨h', st, f, pw, hd, pm, il, p, rfl⟩ | ⟨h', k, r, p, rfl⟩ | ⟨h', r, f, k, p, rfl⟩ := hi
  · have ht : takeTel c = fun s => s := funext fun x => by rw [takeTel, h]
    have hs : snoopTel c = snoopUnitStatus h' st f pw hd pm il := funext fun x => by rw [snoopTel, h]
    rw [ht, hs]
    cases hc
    rfl
  · have ht : takeTel c = takeUnitIdent h' k r := funext fun x => by rw [takeTel, h]
    have hs : snoopTel c = fun s => s := funext fun x => by rw [snoopTel, h]
    rw [ht, hs]
    cases hc
    rfl
  · have ht : takeTel c = fun s => s := funext fun x => by rw [takeTel, h]
    have hs : snoopTel c = snoopConvStatus h' r f k := funext fun x => by rw [snoopTel, h]
    rw [ht, hs]
    cases hc
    rfl

/-- Settles O6: a command's cell determines its meaning, and what a cell spells is a command of that cell. -/
theorem arrivalActsAsItsRow : Obligations.ArrivalActsAsItsRow :=
  ⟨exec_upCellArrival_spelled, exec_dnCellArrival_spelled, fun _ _ _ _ => rfl⟩

/-- Settles O8: the frame of R4 around the block's act, by the cell's destination. -/
theorem orderAndMgtCellsByDestination : Obligations.OrderAndMgtCellsByDestination := by
  intro i c s hc hd hw h
  rw [exec_up i c s hc hd hw]
  exact ⟨fun ht => arriveUp_toPart _ h ((toPart_iff c s).mpr ht), fun hb ha => arriveUp_broadcast _ ⟨h, hb, ha⟩,
    fun ht hb => arriveUp_past _ h ((toPart_eq_false_iff c s).mpr ht) hb⟩

/-- Settles O16: ECHO's act is its one report. -/
theorem echoReportsPayload : Obligations.EchoReportsPayload := by
  intro h p s
  have take : ∀ x, takeEcho h p x = x.reported (.echo h.src p) := fun x => pushReport_eq_reported _ x
  constructor
  · intro hd
    exact (arriveUp_toPart (takeEcho h p) hd.1 hd.2.1).trans (by rw [take])
  · intro hb
    exact (arriveUp_broadcast (takeEcho h p) hb).trans (by rw [take])

-- A table write while the gate is closed (R20) ------------------------------------------------------------

theorem takeWrite_closed {α : Type} (h : Hdr) (answer : MgtCode → Nat → Report) (d : Decision α)
    (effect : α → State → State) (s : State) (hg : s.tbs.gateOpen = false) :
    takeWrite h answer d effect s = if h.dest = Config.broadcast then s else s.reported (answer .gateClosed 0) := by
  unfold takeWrite
  rw [if_neg (by simp [hg])]
  split
  · rfl
  · exact pushReport_eq_reported _ s

/-- With the gate closed every table write is answered GATE_CLOSED, and a broadcast one is not answered (R20, R23). -/
theorem takeOrderOrMgt_closed (i : Instr) (h : Hdr) (table index band : Byte) (s : State)
    (hi : i.tableWrite = some (h, table, index, band)) (hg : s.tbs.gateOpen = false) :
    takeOrderOrMgt i s =
      if h.dest = Config.broadcast then s else s.reported (.mgtResult h.src 0x02 .gateClosed table index band 0) := by
  cases i <;> cases hi
  case tableWriteUnknownTable => exact takeWrite_closed (α := Unit) _ _ (.refuse .range 0) (fun _ s => s) s hg
  all_goals exact takeWrite_closed _ _ _ _ s hg

theorem tableWrite_row (i : Instr) (h : Hdr) (table index band : Byte) (c : Cell)
    (hi : i.tableWrite = some (h, table, index, band)) (hc : cellOf i = some c) :
    i.atDn = false ∧ i.carriesCell = false ∧ c.dest = h.dest := by
  cases i <;> cases hi <;> cases hc <;> exact ⟨rfl, rfl, rfl⟩

/-- Settles O18: the gate's rows, and every table write with the gate closed. -/
theorem gateRowsAndClosedGate : Obligations.GateRowsAndClosedGate := by
  refine ⟨?_, ?_, ?_, ?_, ?_⟩
  · intro h pad s hd
    have hb : ¬h.dest = Config.broadcast := hd.2.2
    refine (arriveUp_toPart (takeGateOpen h) hd.1 hd.2.1).trans ?_
    rw [takeGateOpen, if_neg hb, pushReport_eq_reported]
    rfl
  · intro h pad s hd
    have hb : ¬h.dest = Config.broadcast := hd.2.2
    refine (arriveUp_toPart (takeGateClose h) hd.1 hd.2.1).trans ?_
    rw [takeGateClose, if_neg hb, pushReport_eq_reported]
    rfl
  · intro h request pad s hd
    have hb : ¬h.dest = Config.broadcast := hd.2.2
    refine (arriveUp_toPart (takeGateBadRequest h) hd.1 hd.2.1).trans ?_
    rw [takeGateBadRequest, if_neg hb, pushReport_eq_reported]
    rfl
  · intro src crc request pad s hd
    exact arriveUp_broadcast (fun s => s) hd
  · intro i h table index band c s hi hc hg
    obtain ⟨hd, hw, hh⟩ := tableWrite_row i h table index band c hi hc
    have take := takeOrderOrMgt_closed i h table index band (s.withLinkUp .up) hi hg
    rw [exec_up i c s hc hd hw]
    constructor
    · intro hp
      rw [arriveUp_toPart _ hp.1 hp.2.1, take, if_neg (hh ▸ hp.2.2)]
    · intro hp
      rw [arriveUp_broadcast _ hp, take, if_pos (hh ▸ hp.2.1)]

-- Cells without a row of their own (R4 to R8) -------------------------------------------------------------

/-- A TEL cell of a sub-kind other than UNIT_IDENT is not used by the part it is addressed to (R6). -/
theorem takeTel_ignored {c : Cell} (s : State) (h : c.sub ≠ subUnitIdent) : takeTel c s = s := by
  unfold takeTel readDnCell
  dsimp only
  split
  · next he =>
    repeat' split at he
    all_goals cases he
  · rfl

/-- A TEL cell of a sub-kind other than UNIT_STATUS and CONV_STATUS is not used in passing (R7). -/
theorem snoopTel_ignored {c : Cell} (s : State) (hu : c.sub ≠ subUnitStatus) (hv : c.sub ≠ subConvStatus) :
    snoopTel c s = s := by
  unfold snoopTel readDnCell
  dsimp only
  split
  · next he =>
    repeat' split at he
    all_goals cases he
  · next he =>
    repeat' split at he
    all_goals cases he
  · rfl

/-- Nobody the tables know has this link address (R5). -/
theorem not_snooped {src : Byte} {s : State} (hu : ∀ u, (s.unit u).present = true → (s.unit u).addr ≠ src.toNat)
    (hc : s.tbs.plant.convAddr ≠ src.toNat) : snooped src s = false := by
  simp only [snooped, Bool.or_eq_false_iff, List.any_eq_false, Bool.and_eq_true, beq_iff_eq, beq_eq_false_iff_ne]
  exact ⟨fun u _ ⟨hp, ha⟩ => hu u hp ha, hc⟩

/-- A TEL cell that passes by without a use is forwarded alone (R5, R7, R8). -/
theorem arriveAtDn_past {c : Cell} {s : State} (hk : c.kind = kindTel) (h : Delivered c s) (ht : toPart c s = false)
    (hs : snooped c.src s = false ∨ snoopTel c (s.withLinkUp .dn) = s.withLinkUp .dn) :
    event (arriveAtDn c) s = .next ((s.withLinkUp .dn).forwardedUp c) := by
  have h0 : c.kind ≠ kindHold := by rw [hk]; decide
  rw [arriveAtDn, if_neg h0, if_pos hk, arriveDn_past _ _ h ht]
  rcases hs with hs | hs
  · rw [if_neg (by simp [hs])]
  · rw [hs, ite_self]

/-- A TEL cell addressed to the part without a use is discarded (R6). -/
theorem arriveAtDn_toPart {c : Cell} {s : State} (hk : c.kind = kindTel) (h : Delivered c s) (ht : toPart c s = true)
    (hi : c.sub ≠ subUnitIdent) : event (arriveAtDn c) s = .next (s.withLinkUp .dn) := by
  have h0 : c.kind ≠ kindHold := by rw [hk]; decide
  rw [arriveAtDn, if_neg h0, if_pos hk, arriveDn_toPart _ _ h ht, takeTel_ignored _ hi]

/-- A cell arriving as such at UP, whatever its kind (R4, R6). -/
theorem upCellArrival_other (c : Cell) (s : State) (h : Delivered c s) :
    (c.kind = kindHold → exec (.upCellArrival c) s = .next (s.withLinkUp .up)) ∧
    (c.kind ≠ kindHold → c.kind ≠ kindOrder → c.kind ≠ kindMgt →
      exec (.upCellArrival c) s = .next ((s.withLinkUp .up).forwardedDn c)) ∧
    ((c.kind = kindOrder ∨ c.kind = kindMgt) → readUpCell c = none →
      exec (.upCellArrival c) s = .next (if c.dest.toNat = s.lpu.addr then s.withLinkUp .up
        else (s.withLinkUp .up).forwardedDn c)) := by
  refine ⟨fun h0 => ?_, fun h0 h1 h2 => ?_, fun hk hn => ?_⟩ <;> show event (arriveAtUp c) s = _
  · rw [arriveAtUp, if_pos h0, event_free _ h.1, receive_good _ _ _ _ h.2]
    rfl
  · rw [arriveAtUp, if_neg h0, if_neg (by simp [h1, h2]), event_free _ h.1, receive_good _ _ _ _ h.2,
      forwardDn_eq_forwardedDn]
  · have h0 : c.kind ≠ kindHold := by rcases hk with hk | hk <;> (rw [hk]; decide)
    rw [arriveAtUp, if_neg h0, if_pos hk, hn]
    split
    · next ht => exact arriveUp_toPart _ h ((toPart_iff c s).mpr ht)
    · next ht =>
      have ht' := (toPart_eq_false_iff c s).mpr ht
      by_cases hb : c.dest = Config.broadcast
      · rw [event_free _ h.1, arriveUp, receive_good _ _ _ _ h.2, toPart_withLinkUp, if_neg (by simp [ht']), if_pos hb,
          forwardDn_eq_forwardedDn]
        rfl
      · exact arriveUp_past _ h ht' hb

/-- A cell arriving as such at DN that the part has no use for (R5 to R8). -/
theorem dnCellArrival_other (c : Cell) (s : State) (h : Delivered c s) :
    (c.kind = kindHold → exec (.dnCellArrival c) s = .next (s.withLinkUp .dn)) ∧
    (c.kind ≠ kindHold → c.kind ≠ kindTel →
      exec (.dnCellArrival c) s = .next ((s.withLinkUp .dn).forwardedUp c)) ∧
    (c.kind = kindTel → c.dest.toNat = s.lpu.addr → c.sub ≠ subUnitIdent →
      exec (.dnCellArrival c) s = .next (s.withLinkUp .dn)) ∧
    (c.kind = kindTel → c.dest.toNat ≠ s.lpu.addr →
      ((∀ u, (s.unit u).present = true → (s.unit u).addr ≠ c.src.toNat) ∧ s.tbs.plant.convAddr ≠ c.src.toNat) ∨
        (c.sub ≠ subUnitStatus ∧ c.sub ≠ subConvStatus) →
      exec (.dnCellArrival c) s = .next ((s.withLinkUp .dn).forwardedUp c)) := by
  refine ⟨fun h0 => ?_, fun h0 h1 => ?_, fun hk ht hi => arriveAtDn_toPart hk h ((toPart_iff c s).mpr ht) hi,
    fun hk ht hs => arriveAtDn_past hk h ((toPart_eq_false_iff c s).mpr ht) ?_⟩
  · show event (arriveAtDn c) s = _
    rw [arriveAtDn, if_pos h0, event_free _ h.1, receive_good _ _ _ _ h.2]
    rfl
  · show event (arriveAtDn c) s = _
    rw [arriveAtDn, if_neg h0, if_neg h1, event_free _ h.1, receive_good _ _ _ _ h.2, forwardUp_eq_forwardedUp]
  · rcases hs with ⟨hu, hc⟩ | ⟨hu, hv⟩
    · exact .inl (not_snooped hu hc)
    · exact .inr (snoopTel_ignored _ hu hv)

/-- Settles O9: by kind and destination; a sub-kind without an act leaves its frame alone. -/
theorem otherArrivals : Obligations.OtherArrivals :=
  ⟨upCellArrival_other, dnCellArrival_other, fun _ _ _ _ hd hu hv =>
    ⟨fun ht hi => arriveAtDn_toPart rfl hd ht hi,
      fun ht => arriveAtDn_past rfl hd ht (.inr (snoopTel_ignored _ hu hv))⟩⟩

-- Link states (R15) ---------------------------------------------------------------------------------------

theorem TakeFrame.link {a b : Bool} {s t : State} (h : TakeFrame a b s t) : t.lpu.link = s.lpu.link := by
  rw [h.lpu]

theorem forwardDn_link (c : Cell) (s : State) : (forwardDn c s).lpu.link = s.lpu.link := by
  unfold forwardDn
  split <;> rfl

theorem forwardUp_link (c : Cell) (s : State) : (forwardUp c s).lpu.link = s.lpu.link := by
  unfold forwardUp
  split <;> rfl

/-- A delivered cell's port is UP whatever its row's act, which leaves the link states unless it is RESTART's. -/
theorem exec_link (i : Instr) (c : Cell) (s t : State) (hc : cellOf i = some c) (hd : Delivered c s)
    (h : exec i s = .next t) (hr : ∀ h r, i.spelled ≠ .restart h r) :
    t.lpu.link.get (if i.atDn then .dn else .up) = { isUp := true, loss := some 100 } := by
  have link : ∀ p, (validArrival p s).lpu.link.get p = { isUp := true, loss := some 100 } := fun p =>
    PerPort.get_set_self _ _ _
  cases hp : i.atDn
  · obtain ⟨hu, -⟩ | ⟨x, hx, ht⟩ := exec_up_outcome i c s t hc hp h
    · exact absurd hd hu
    · have hl : x.lpu.link = (validArrival .up s).lpu.link := by
        obtain rfl | rfl := hx
        · rfl
        · exact (takeOrderOrMgt_take _ _ hr).link
      have hl' : t.lpu.link = x.lpu.link := by
        obtain rfl | rfl := ht
        · rfl
        · exact forwardDn_link c x
      rw [hl', hl]
      exact link .up
  · obtain ⟨hu, -⟩ | ⟨x, hx, ht⟩ := exec_dn_outcome i c s t hc hp h
    · exact absurd hd hu
    · have hl' : t.lpu.link = x.lpu.link := by
        obtain rfl | rfl := ht
        · rfl
        · exact forwardUp_link c x
      rw [hl', (hx.take (a := false) (b := false)).link]
      exact link .dn

/-- Settles O10: reception brings the port UP, no act but RESTART's touches the link states, and the expiry of a running
link-loss timer is one write and one flag. -/
theorem linkStates : Obligations.LinkStates := by
  refine ⟨exec_link, fun p s hs => ⟨fun hl => ?_, fun hl => ?_⟩⟩
  · show event _ s = _
    rw [event_free _ hs, if_pos hl, raiseFlag_eq_withFlag]
    cases p <;> rfl
  · show event _ s = _
    rw [event_free _ hs, if_neg (by simp [hl])]

end Sys2Proof.Machine
end

section
/-! The two arbiters of the link, the HOLD cells and the cells the part sends (R1, R9, R11 to R14, R184, R187 to R190,
R195). -/

namespace Sys2Proof.Machine

-- The DN arbiter (R12) ------------------------------------------------------------------------------------

theorem exec_dnSelection {s : State} (h : s.held = false) : exec .dnSelection s = .next (selectDn s) :=
  event_free selectDn h

theorem selectDn_command_first {s : State} {w : Waiting} {rest : List Waiting} (hc : s.lpu.cmds = w :: rest)
    (ht : s.lpu.dnFwd.length < 16 ∨ s.lpu.dnTurn = .command) : selectDn s = sendCommand w rest s := by
  unfold selectDn
  split
  · rw [hc]
  · next hn => rw [ht.resolve_left hn, hc]

theorem selectDn_forward_alone {s : State} {c : Cell} {rest : List Cell} (hf : s.lpu.dnFwd = c :: rest)
    (hl : s.lpu.dnFwd.length < 16) (hc : s.lpu.cmds = []) : selectDn s = sendForwardDn c rest .forward s := by
  rw [selectDn, if_pos (show s.lpu.dnFwd.length < Config.dnAlternateAt from hl), hc, hf]

theorem selectDn_idle {s : State} (hf : s.lpu.dnFwd = []) (hc : s.lpu.cmds = []) : selectDn s = sendDnHold s := by
  rw [selectDn, if_pos (by rw [hf]; decide), hc, hf]

theorem selectDn_forward_turn {s : State} {c : Cell} {rest : List Cell} (hf : s.lpu.dnFwd = c :: rest)
    (hl : ¬s.lpu.dnFwd.length < 16) (ht : s.lpu.dnTurn = .forward ∨ s.lpu.cmds = []) :
    selectDn s = sendForwardDn c rest .command s := by
  rw [selectDn, if_neg (show ¬s.lpu.dnFwd.length < Config.dnAlternateAt from hl), hf]
  rcases ht with ht | hc
  · rw [ht]
  · rw [hc]
    cases s.lpu.dnTurn <;> rfl

/-- Settles O11: the table of R12 row by row. -/
theorem dnArbiter : Obligations.DnArbiter := by
  refine ⟨fun _ => rfl, fun _ => rfl, fun s hs => ⟨fun w rest hc ht => ?_, fun c rest hf ha hc => ?_, fun hf hc => ?_,
    fun c rest hf ha ht => ?_⟩⟩
  · rw [exec_dnSelection hs, selectDn_command_first hc (by simpa using ht)]
    rfl
  · rw [exec_dnSelection hs, selectDn_forward_alone hf (by simpa using ha) hc]
    rfl
  · exact ⟨holdCell s (dnHoldPayload s), rfl, rfl, by rw [exec_dnSelection hs, selectDn_idle hf hc]; rfl⟩
  · rw [exec_dnSelection hs, selectDn_forward_turn hf (by simpa using ha) ht]
    rfl

-- The UP arbiter (R13) ------------------------------------------------------------------------------------

theorem upHoldDone_idle {s : State} (h : s.sendingUpHold = false) : upHoldDone s = s := by
  rw [upHoldDone, if_neg (by simp [h])]

theorem exec_upSelection {s : State} (h : s.held = false) : exec .upSelection s = .next (selectUp (upHoldDone s)) :=
  event_free (fun s => selectUp (upHoldDone s)) h

theorem selectUp_forward {s : State} {c : Cell} {rest : List Cell} (hf : s.lpu.upFwd = c :: rest)
    (ht : s.rpb.queue.length < 12 ∨ s.lpu.upTurn = .forward) : selectUp s = sendForwardUp c rest s := by
  unfold selectUp
  split
  · rw [hf]
  · next hn => rw [ht.resolve_left hn, hf]

theorem selectUp_report_alone {s : State} {r : Report} {rest : List Report} (hq : s.rpb.queue = r :: rest)
    (hl : s.rpb.queue.length < 12) (hf : s.lpu.upFwd = []) : selectUp s = sendReport r rest .report s := by
  rw [selectUp, if_pos (show s.rpb.queue.length < Config.upAlternateAt from hl), hf, hq]

theorem selectUp_report_turn {s : State} {r : Report} {rest : List Report} (hq : s.rpb.queue = r :: rest)
    (hl : ¬s.rpb.queue.length < 12) (ht : s.lpu.upTurn = .report ∨ s.lpu.upFwd = []) :
    selectUp s = sendReport r rest .forward s := by
  rw [selectUp, if_neg (show ¬s.rpb.queue.length < Config.upAlternateAt from hl), hq]
  rcases ht with ht | hf
  · rw [ht]
  · rw [hf]
    cases s.lpu.upTurn <;> rfl

theorem selectUp_idle {s : State} (hf : s.lpu.upFwd = []) (hq : s.rpb.queue = []) : selectUp s = sendUpHold s := by
  rw [selectUp, if_pos (by rw [hq]; decide), hf, hq]

/-- Settles O12: the table of R13 row by row. -/
theorem upArbiter : Obligations.UpArbiter := by
  refine ⟨fun _ => rfl, fun _ => rfl, fun s hs hh => ?_⟩
  rw [exec_upSelection hs, upHoldDone_idle hh]
  refine ⟨fun c rest hf ht => ?_, fun r rest hq hf ht => ?_, fun hf hq => ?_⟩
  · rw [selectUp_forward hf (by simpa using ht)]
    rfl
  · by_cases hl : s.rpb.queue.length < 12
    · rw [selectUp_report_alone hq hl (hf (by simpa using hl))]
      simp [hl, sendReport, State.setLpu, State.setRpb, Lpu.addrByte]
    · rw [selectUp_report_turn hq hl (ht (by simpa using hl))]
      simp [hl, sendReport, State.setLpu, State.setRpb, Lpu.addrByte]
  · exact ⟨holdCell s (upHoldPayload s), rfl, rfl, by rw [selectUp_idle hf hq]; rfl⟩

-- The end of an UP HOLD (R189) ----------------------------------------------------------------------------

theorem exec_upHoldSent {s : State} (h : s.held = false) : exec .upHoldSent s = .next (upHoldDone s) :=
  event_free upHoldDone h

theorem sendingUpHold_iff (s : State) : s.sendingUpHold = true ↔ ∃ c, s.lpu.upTx = .hold c := by
  unfold State.sendingUpHold
  cases s.lpu.upTx <;> simp

/-- After the end of an UP HOLD none is on its way. -/
theorem upHoldDone_done (s : State) : (upHoldDone s).sendingUpHold = false := by
  unfold upHoldDone
  split
  · rfl
  · next h => exact Bool.not_eq_true _ ▸ h

theorem upHoldDone_held (s : State) : (upHoldDone s).held = s.held := by
  unfold upHoldDone
  split <;> rfl

/-- Settles O15: a carried flag is cleared where its mark is clear; and an end taken twice is taken once. -/
theorem upHoldSentClearsFlags : Obligations.UpHoldSentClearsFlags := by
  intro s hs
  refine ⟨fun c hc => ⟨_, exec_upHoldSent hs, ?_⟩, fun hn => ?_, fun t ht => ?_⟩
  · have hd : upHoldDone s = clearCarried (s.setLpu { s.lpu with upTx := .idle }) := by
      rw [upHoldDone, if_pos ((sendingUpHold_iff s).mpr ⟨c, hc⟩)]
    rw [hd]
    refine ⟨fun k => ?_, rfl⟩
    simp [clearCarried, State.setRpb, State.setLpu]
  · rw [exec_upHoldSent hs, upHoldDone_idle]
    exact Bool.eq_false_iff.mpr fun h => ((sendingUpHold_iff s).mp h).elim hn
  · rw [exec_upHoldSent hs] at ht
    cases ht
    rw [exec_upSelection hs, exec_upSelection (upHoldDone_held s ▸ hs), upHoldDone_idle (upHoldDone_done s)]

-- Fields of a payload that is composed (R193, R195) -------------------------------------------------------

/-- A field that is a whole value reads as that value. -/
theorem extract_whole {w i : Nat} (x : BitVec w) (h : i = 0) : x.extractLsb' i w = x := by
  subst h
  exact BitVec.extractLsb'_eq_self

/-- The low bits of a layout that ends in two fields of zeros. -/
theorem extract_zeros {n m k : Nat} (x : BitVec n) : (x ++ 0#m ++ 0#k).extractLsb' 0 (m + k) = 0 := by
  ext i hi
  simp only [BitVec.getElem_extractLsb', BitVec.getLsbD_append, BitVec.getLsbD_zero, Nat.zero_add]
  split
  · simp
  · rw [if_pos (by omega)]
    simp

theorem compose_crcGood (dest src kind sub : Byte) (p : Payload) : (Cell.compose dest src kind sub p).crcGood = true := by
  simp only [Cell.crcGood, Cell.compose, beq_self_eq_true]

-- HOLD cells (R14, R190) ----------------------------------------------------------------------------------

/-- The fields of a DN HOLD payload. -/
theorem dnHold_fields (a b : Byte) (id : Half) :
    let p := Payload.of (a ++ b ++ id ++ 0#176)
    p.byte 4 = a ∧ p.byte 5 = b ∧ p.half 6 = id := by
  simp (disch := omega) only [Payload.of, Payload.byte, Payload.half, BitVec.setWidth_eq,
    BitVec.extractLsb'_append_eq_of_le, BitVec.extractLsb'_append_eq_of_add_le, extract_whole, and_self]

/-- The fields of an UP HOLD payload. -/
theorem upHold_fields (a st fl cv : Byte) (id tg tot ms dev : Half) (md : BitVec 48) :
    let p := Payload.of (a ++ id ++ st ++ tg ++ tot ++ ms ++ dev ++ md ++ fl ++ cv ++ 0#48)
    p.byte 4 = a ∧ p.half 5 = id ∧ p.byte 7 = st ∧ p.half 8 = tg ∧ p.half 10 = tot ∧ p.half 12 = ms ∧ p.half 14 = dev ∧
      p.extractLsb' 64 48 = md ∧ p.byte 22 = fl ∧ p.byte 23 = cv := by
  simp (disch := omega) only [Payload.of, Payload.byte, Payload.half, BitVec.setWidth_eq,
    BitVec.extractLsb'_append_eq_of_le, BitVec.extractLsb'_append_eq_of_add_le, extract_whole, and_self]

/-- The mode codes by unit. -/
theorem modeCodes_byte (s : State) (u : UnitNo) :
    (modeCodes s).extractLsb' (8 * (6 - u.number)) 8 = (s.seq u).state.code := by
  cases u <;> simp (disch := omega) only [modeCodes, UnitNo.number, BitVec.setWidth_eq,
    BitVec.extractLsb'_append_eq_of_le, BitVec.extractLsb'_append_eq_of_add_le, extract_whole]

/-- A byte of the mode codes in the payload is a byte of the payload. -/
theorem byte_of_modeCodes (p : Payload) (u : UnitNo) :
    p.byte (15 + u.number) = (p.extractLsb' 64 48).extractLsb' (8 * (6 - u.number)) 8 := by
  have hu : u.number ≤ 6 ∧ 1 ≤ u.number := by cases u <;> decide
  ext k hk
  have hi : 8 * (6 - u.number) + k < 48 := by omega
  have he : 8 * (29 - (15 + u.number)) + k = 64 + (8 * (6 - u.number) + k) := by omega
  simp [Payload.byte, BitVec.getElem_extractLsb', hi, he]

theorem holdCell_payload (s : State) (p : Payload) : (holdCell s p).payload = p := rfl

/-- The station summary, field by field (R190). -/
theorem upHoldPayload_fields (s : State) :
    let p := upHoldPayload s
    let r := s.dse.standing
    p.byte 4 = s.dse.engine.code ∧ p.half 5 = (if r.state != .none then r.order.id else 0) ∧ p.byte 7 = r.state.code ∧
      p.half 8 = (if r.state != .none then carried16 r.order.target else 0) ∧
      p.half 10 = (if r.state != .none then carried16 r.summary.total else 0) ∧
      p.half 12 = carried16 (measuredTotal s) ∧
      p.half 14 = (if r.state != .none then carried16 r.summary.deviation else 0) ∧
      p.extractLsb' 64 48 = modeCodes s ∧ p.byte 22 = s.rpb.flags ∧ p.byte 23 = s.pra.arb.code :=
  upHold_fields _ _ _ _ _ _ _ _ _ _

theorem sum_filter_map {α : Type} (l : List α) (q : α → Bool) (f : α → Int) :
    ((l.filter q).map f).sum = (l.map fun x => if q x = true then f x else 0).sum := by
  induction l with
  | nil => rfl
  | cons x l ih =>
    rw [List.filter_cons]
    split
    · next h => simp [h, ih]
    · next h => simp [h, ih]

/-- Settles O14: the two payloads field by field. -/
theorem holdCellsCarryState : Obligations.HoldCellsCarryState := by
  refine ⟨fun s hs hf hc => ?_, fun s hs hh hf hq => ?_⟩
  · refine ⟨holdCell s (dnHoldPayload s), sendDnHold s, by rw [exec_dnSelection hs, selectDn_idle hf hc], rfl,
      compose_crcGood _ _ _ _ _, rfl, ?_⟩
    rw [holdCell_payload]
    unfold dnHoldPayload
    dsimp only
    split
    · next h => exact dnHold_fields _ 0#8 0#16
    · next h => exact dnHold_fields _ 1#8 _
  · refine ⟨holdCell s (upHoldPayload s), sendUpHold s, by rw [exec_upSelection hs, upHoldDone_idle hh, selectUp_idle hf hq],
      rfl, compose_crcGood _ _ _ _ _, rfl, ?_⟩
    obtain ⟨h4, h5, h7, h8, h10, h12, h14, hm, h22, h23⟩ := upHoldPayload_fields s
    rw [holdCell_payload]
    refine ⟨h4, h7, fun hn => ?_, fun hn => ?_, ?_, fun u => ?_, h22, h23⟩
    · rw [h5, h8, h10, h14]
      simp only [bne_iff_ne.mpr hn, if_true, and_self]
    · rw [h5, h8, h10, h14]
      simp [hn]
    · rw [h12, measuredTotal, sum_filter_map]
    · rw [byte_of_modeCodes, hm, modeCodes_byte]

-- Reports and commands (R184, R195) -----------------------------------------------------------------------

/-- A summary's fields in the payload of an ORDER_RESULT or ORDER_STATE. -/
def SummaryAt (p : Payload) (m : Summary) : Prop :=
  p.byte 9 = BitVec.ofNat 8 m.genCount ∧ p.byte 10 = BitVec.ofNat 8 m.pumpCount ∧ p.half 11 = carried16 m.total ∧
    p.half 13 = carried16 m.deviation

theorem orderResult_fields (d : Byte) (id : Half) (sub : Byte) (code : OrderCode) (unit : Byte) (m : Option Summary) :
    let p := (Report.orderResult d id sub code unit m).payload
    p.half 4 = id ∧ p.byte 6 = sub ∧ p.byte 7 = code.code ∧ p.byte 8 = unit ∧ p.tail 120 = 0#120 := by
  simp (disch := omega) only [Report.payload, Payload.of, Payload.byte, Payload.half, Payload.tail, BitVec.setWidth_eq,
    BitVec.extractLsb'_append_eq_of_le, BitVec.extractLsb'_append_eq_of_add_le, extract_whole, and_self]

theorem orderResult_summary (d : Byte) (id : Half) (sub : Byte) (code : OrderCode) (unit : Byte) (m : Summary) :
    SummaryAt (Report.orderResult d id sub code unit (some m)).payload m := by
  simp (disch := omega) only [SummaryAt, Report.payload, summaryBits, Payload.of, Payload.byte, Payload.half,
    BitVec.setWidth_eq, BitVec.extractLsb'_append_eq_of_le, BitVec.extractLsb'_append_eq_of_add_le, extract_whole,
    and_self]

theorem orderResult_none (d : Byte) (id : Half) (sub : Byte) (code : OrderCode) (unit : Byte) :
    (Report.orderResult d id sub code unit none).payload.tail 168 = 0 := by
  simp only [Report.payload, summaryBits, Payload.of, Payload.tail, BitVec.setWidth_eq]
  exact extract_zeros (m := 48) (k := 120) (id ++ sub ++ code.code ++ unit)

theorem manualReplan_fields (d : Byte) (id : Half) (u : UnitNo) (mode : PlanMode) (share : Option Nat) :
    let p := (Report.manualReplan d id u mode share).payload
    p.half 4 = id ∧ p.byte 6 = subUnitMode ∧ p.byte 7 = OrderCode.replanned.code ∧ p.byte 8 = u.byte ∧
      p.byte 9 = mode.code ∧ p.byte 10 = 0#8 ∧ p.tail 136 = 0#136 ∧ p.half 11 = powerOrNone share := by
  simp (disch := omega) only [Report.payload, Payload.of, Payload.byte, Payload.half, Payload.tail, BitVec.setWidth_eq,
    BitVec.extractLsb'_append_eq_of_le, BitVec.extractLsb'_append_eq_of_add_le, extract_whole, and_self]

theorem orderState_fields (d : Byte) (id : Half) (st : OrderState) (target : Int) (m : Summary) :
    let p := (Report.orderState d id st target m).payload
    p.half 4 = id ∧ p.byte 6 = st.code ∧ p.half 7 = carried16 target ∧ SummaryAt p m ∧ p.tail 120 = 0#120 := by
  simp (disch := omega) only [SummaryAt, Report.payload, summaryBits, Payload.of, Payload.byte, Payload.half,
    Payload.tail, BitVec.setWidth_eq, BitVec.extractLsb'_append_eq_of_le, BitVec.extractLsb'_append_eq_of_add_le,
    extract_whole, and_self]

theorem unitState_fields (u : UnitNo) (before after : SeqState) (cause : Cause) (stage : Option Stage) (fault : Byte) :
    let p := (Report.unitState u before after cause stage fault).payload
    p.byte 4 = u.byte ∧ p.byte 5 = before.code ∧ p.byte 6 = after.code ∧ p.byte 7 = cause.code ∧ p.byte 9 = fault ∧
      p.tail 160 = 0#160 ∧ p.byte 8 = stageByte stage := by
  simp (disch := omega) only [Report.payload, Payload.of, Payload.byte, Payload.tail, BitVec.setWidth_eq,
    BitVec.extractLsb'_append_eq_of_le, BitVec.extractLsb'_append_eq_of_add_le, extract_whole, and_self]

theorem unitEvent_fields (u : UnitNo) (ev : BitVec 8) (verify : Bool) :
    let p := (Report.unitEvent u ev verify).payload
    p.byte 4 = u.byte ∧ p.byte 5 = ev ∧ p.byte 6 = bitOf verify 0 ∧ p.tail 184 = 0#184 := by
  simp (disch := omega) only [Report.payload, Payload.of, Payload.byte, Payload.tail, BitVec.setWidth_eq,
    BitVec.extractLsb'_append_eq_of_le, BitVec.extractLsb'_append_eq_of_add_le, extract_whole, and_self]

theorem mgtResult_fields (d sub : Byte) (code : MgtCode) (table index band field : Byte) :
    let p := (Report.mgtResult d sub code table index band field).payload
    p.byte 4 = sub ∧ p.byte 5 = code.code ∧ p.byte 6 = table ∧ p.byte 7 = index ∧ p.byte 8 = band ∧ p.byte 9 = field ∧
      p.tail 160 = 0#160 := by
  simp (disch := omega) only [Report.payload, Payload.of, Payload.byte, Payload.tail, BitVec.setWidth_eq,
    BitVec.extractLsb'_append_eq_of_le, BitVec.extractLsb'_append_eq_of_add_le, extract_whole, and_self]

theorem setpoint_fields (v : Nat) : (Command.setpoint v).payload.half 4 = BitVec.ofNat 16 v ∧
    (Command.setpoint v).payload.tail 192 = 0#192 := by
  simp (disch := omega) only [Command.payload, Payload.of, Payload.half, Payload.tail, BitVec.setWidth_eq,
    BitVec.extractLsb'_append_eq_of_le, BitVec.extractLsb'_append_eq_of_add_le, extract_whole, and_self]

theorem convConnect_fields (a : Nat) : (Command.convConnect a).payload.byte 4 = BitVec.ofNat 8 a ∧
    (Command.convConnect a).payload.tail 200 = 0#200 := by
  simp (disch := omega) only [Command.payload, Payload.of, Payload.byte, Payload.tail, BitVec.setWidth_eq,
    BitVec.extractLsb'_append_eq_of_le, BitVec.extractLsb'_append_eq_of_add_le, extract_whole, and_self]

theorem unitByte_toNat (u : UnitNo) : u.byte.toNat = u.number := by
  cases u <;> rfl

/-- Settles O17: the layout of each report and of each command, field by field. -/
theorem sentCellsCarryContents : Obligations.SentCellsCarryContents := by
  constructor
  · intro a r
    refine ⟨rfl, rfl, compose_crcGood _ _ _ _ _, ?_⟩
    cases r with
    | orderResult d id sub code unit m =>
      obtain ⟨h4, h6, h7, h8, ht⟩ := orderResult_fields d id sub code unit m
      refine ⟨rfl, rfl, h4, h6, h7, h8, ht, ?_⟩
      cases m with
      | none => exact orderResult_none d id sub code unit
      | some x => exact orderResult_summary d id sub code unit x
    | manualReplan d id u mode share =>
      obtain ⟨h4, h6, h7, h8, h9, h10, ht, h11⟩ := manualReplan_fields d id u mode share
      exact ⟨rfl, rfl, h4, h6, h7, (congrArg BitVec.toNat h8).trans (unitByte_toNat u), h9, h10, ht,
        h11.trans (by cases share <;> rfl)⟩
    | orderState d id st target m =>
      obtain ⟨h4, h6, h7, hm, ht⟩ := orderState_fields d id st target m
      exact ⟨rfl, rfl, h4, h6, h7, hm, ht⟩
    | unitState u before after cause stage fault =>
      obtain ⟨h4, h5, h6, h7, h9, ht, h8⟩ := unitState_fields u before after cause stage fault
      exact ⟨rfl, rfl, (congrArg BitVec.toNat h4).trans (unitByte_toNat u), h5, h6, h7, h9, ht,
        h8.trans (by cases stage <;> rfl)⟩
    | unitEvent u ev verify =>
      obtain ⟨h4, h5, h6, ht⟩ := unitEvent_fields u ev verify
      exact ⟨rfl, rfl, (congrArg BitVec.toNat h4).trans (unitByte_toNat u), h5,
        (congrArg BitVec.toNat h6).trans (by cases verify <;> rfl), ht⟩
    | mgtResult d sub code table index band field =>
      obtain ⟨h4, h5, h6, h7, h8, h9, ht⟩ := mgtResult_fields d sub code table index band field
      exact ⟨rfl, rfl, h4, h5, h6, h7, h8, h9, ht⟩
    | tableData d q => exact ⟨rfl, rfl, rfl⟩
    | snapshot q => exact ⟨rfl, rfl, rfl⟩
    | echo d q => exact ⟨rfl, rfl, rfl⟩
  · intro a w
    refine ⟨rfl, rfl, rfl, compose_crcGood _ _ _ _ _, rfl, ?_⟩
    obtain ⟨slot, dest, cmd⟩ := w
    cases cmd with
    | setpoint v => exact setpoint_fields v
    | convConnect addr => exact convConnect_fields addr
    | _ => rfl

end Sys2Proof.Machine
end

section
/-! The step, the cold reset, the warm reset and the UNIT write that takes a unit out of service (R1, R3, R17, R18, R29,
R54, R68). -/

namespace Sys2Proof.Machine

/-- Settles O1: the two rows of `step`. -/
theorem stepTakesFrontCommand : Obligations.StepTakesFrontCommand :=
  ⟨fun c rest s h => by rw [step, h], fun s h => by rw [step, h]⟩

-- The cold reset (R3, R17) --------------------------------------------------------------------------------

theorem strapAddress_of_bounds (strap : BitVec 5) (h1 : 1 ≤ strap.toNat) (h2 : strap.toNat ≤ 30) :
    strapAddress strap = strap.toNat := by
  have h0 : strap ≠ 0 := fun h => by rw [h] at h1; exact absurd h1 (by decide)
  have h31 : strap ≠ 31 := fun h => by rw [h] at h2; exact absurd h2 (by decide)
  rw [strapAddress, if_neg h0, if_neg h31]

/-- The first HOLD cell is a good cell from the part's address to broadcast (R1, R14). -/
theorem firstHold_good (addr : Nat) (h : addr ≤ 30) : (firstHold addr).kind = kindHold ∧ (firstHold addr).dest = 31 ∧
    (firstHold addr).src.toNat = addr ∧ (firstHold addr).crcGood = true :=
  ⟨rfl, rfl, Nat.mod_eq_of_lt (by omega : addr < 2 ^ 8), compose_crcGood _ _ _ _ _⟩

theorem cold_profiles (p : Fin 4) : Tbs.cold.profiles[p] = Profile.cold := Vector.getElem_replicate _

theorem cold_bands (p : Fin 4) (k : Fin 12) : (Tbs.cold.bands[p])[k] = Band.cold := by
  have h : Tbs.cold.bands[p] = Vector.replicate 12 Band.cold := Vector.getElem_replicate _
  rw [h]
  exact Vector.getElem_replicate _

theorem cold_budgets (w : Waterway) : Tbs.cold.budgets.get w = 0 := by
  cases w <;> rfl

theorem cold_locks (w : Waterway) : Pra.cold.locks.get w = Lock.free := by
  cases w <;> rfl

theorem cold_crossings (w : Waterway) : Rmp.cold.crossings.get w = Crossing.idle := by
  cases w <;> rfl

/-- Settles O2: the cold state's fields, block by block. -/
theorem coldResetGivesColdValues : Obligations.ColdResetGivesColdValues := by
  intro strap s
  obtain ⟨-, h30⟩ := strapAddress_bounds strap
  refine ⟨_, rfl, ?_, ?_, strapAddress_of_bounds strap, rfl, rfl, rfl, rfl, rfl, rfl, rfl, rfl,
    ⟨_, rfl, firstHold_good _ h30⟩, ⟨_, rfl, firstHold_good _ h30⟩, rfl, rfl, rfl, PerUnit.get_all _, cold_profiles,
    cold_bands, rfl, rfl, cold_budgets, PerUnit.get_all _, PerUnit.get_all _, rfl, rfl, rfl, rfl, rfl, ⟨rfl, rfl, rfl, rfl⟩,
    rfl, rfl, PerUnit.get_all _, PerUnit.get_all _, rfl, PerUnit.get_all _, rfl, rfl, rfl, rfl, cold_locks, rfl,
    PerUnit.get_all _, cold_crossings, rfl⟩
  · rintro rfl; rfl
  · rintro rfl; rfl

theorem Tbs.cold_inRange : Tbs.cold.InRange where
  plant := by constructor <;> decide
  units u := by
    rw [show Tbs.cold.units.get u = UnitEntry.cold from PerUnit.get_all _ _]
    constructor <;> decide
  profiles p := by
    rw [cold_profiles]
    constructor <;> decide
  bands p k := by
    rw [cold_bands]
    constructor <;> decide
  meritGen := List.nodup_nil
  meritPump := List.nodup_nil
  budgets w := by rw [cold_budgets]; decide

/-- After a cold reset nobody holds anything or waits for anything, and the engine is quiet (R62, R146). -/
theorem cold_consistent (addr : Nat) : Consistent (State.cold addr) := by
  have seq : ∀ u, (State.cold addr).seq u = .cold := PerUnit.get_all _
  have lock : ∀ w, (State.cold addr).pra.locks.get w = .free := cold_locks
  refine ⟨⟨List.nodup_nil, fun u => (nomatch ·), rfl, fun u => (nomatch ·), fun w => ?_, fun w => ?_, fun w => ?_,
    fun w _ => ?_, fun u h => ?_⟩, fun _ => ⟨seq, rfl, rfl, rfl, rfl, .inl rfl, fun w => (nomatch ·)⟩⟩
  · rw [lock]; exact List.nodup_nil
  · rw [lock]; exact fun u h => nomatch h
  · rw [lock]; exact fun u h => nomatch h
  · rw [lock]; rfl
  · rw [seq] at h; exact absurd rfl h

/-- Settles O3: the cold values meet each invariant. -/
theorem resetMeetsInvariants : Obligations.ResetMeetsInvariants :=
  ⟨⟨1, rfl, by decide, by decide⟩, fun a h1 h30 =>
    ⟨Tbs.cold_inRange, cold_addressesApart a [] ⟨h1, h30⟩, cold_queuesAndAlert a [], cold_consistent a⟩⟩

-- Identity exchanges started after a warm reset (R54, R57, R68) ---------------------------------------------

/-- The unit's exchange meets nothing of its own: no UNIT_EVENT, no event flag and no waiting stage command, and the report
queue has room for this many reports. -/
structure ExchangeFree (u : UnitNo) (s : State) : Prop where
  event : eventWaiting u s = false
  flag  : (s.image u).verifyEvent = false
  slot  : s.lpu.cmds.any (fun w => w.slot == .stage u) = false

/-- The image of a unit whose exchange has started, with VERIFY_CHANGE set. -/
def Image.exchanging (i : Image) (wait : Nat) : Image :=
  { i with identity := .identWait, identCount := 1, identTimer := some wait, verifyEvent := true }

/-- The exchanges of these units have been started, from `s` to `t`: an IDENT_REQ and a UNIT_EVENT for each, in turn. -/
structure Exchanged (us : List UnitNo) (s t : State) : Prop where
  pending : t.pending = s.pending
  held    : t.held = s.held
  lpu     : t.lpu = { s.lpu with
              cmds := s.lpu.cmds ++ us.map fun u => { slot := .stage u, dest := (s.unit u).addr, cmd := .identReq } }
  tbs     : t.tbs = s.tbs
  conv    : t.uib.conv = s.uib.conv
  images  : ∀ v, t.image v = if v ∈ us then (s.image v).exchanging s.tbs.plant.identWait else s.image v
  dse     : t.dse = s.dse
  alc     : t.alc = s.alc
  seqs    : t.seqs = s.seqs
  pra     : t.pra = s.pra
  rmp     : t.rmp = s.rmp
  rpb     : t.rpb = { s.rpb with queue := s.rpb.queue ++ us.map fun u => .unitEvent u (s.image u).events true }

/-- VERIFY_CHANGE set on a unit without a waiting UNIT_EVENT places one (R52, R186). -/
theorem raiseEvents_verify (u : UnitNo) (s : State) (hf : (s.image u).verifyEvent = false)
    (he : eventWaiting u s = false) : raiseEvents u 0 true s =
      pushReport (.unitEvent u (s.image u).events true) (s.setImage u { s.image u with verifyEvent := true }) := by
  unfold raiseEvents
  dsimp only
  rw [if_neg (by simp [hf]), if_neg (by simp [he])]
  simp [unitEventOf]

theorem pushReport_room (r : Report) (s : State) (h : s.rpb.queue.length < 16) :
    pushReport r s = s.setRpb { s.rpb with queue := s.rpb.queue ++ [r] } := by
  rw [pushReport, if_pos (show s.rpb.queue.length < Config.reportCapacity from h)]

theorem placeIn_new (w : Waiting) (q : List Waiting) (h : q.any (fun x => x.slot == w.slot) = false) :
    placeIn w q = q ++ [w] := by
  rw [placeIn, if_neg (by simp [h])]

theorem startExchange_exchanged (u : UnitNo) (s : State) (h : ExchangeFree u s) (hq : s.rpb.queue.length < 16) :
    Exchanged [u] s (startExchange u s) := by
  obtain ⟨he, hf, hc⟩ := h
  unfold startExchange
  dsimp only
  generalize hi : ({ s.image u with identity := .identWait, identCount := 1, identTimer := some s.tbs.plant.identWait } :
    Image) = i
  have hs1 : placeStage u .identReq (s.setImage u i) = ({ s with
      uib := { s.uib with images := s.uib.images.set u i }
      lpu := { s.lpu with cmds := s.lpu.cmds ++ [{ slot := .stage u, dest := (s.unit u).addr, cmd := .identReq }] } } :
      State) := by
    have hp := placeIn_new { slot := .stage u, dest := (s.unit u).addr, cmd := .identReq } s.lpu.cmds hc
    simp only [placeStage, place, State.setImage_lpu, State.setImage_unit, hp]
    rfl
  rw [hs1]
  generalize hs2 : ({ s with
      uib := { s.uib with images := s.uib.images.set u i }
      lpu := { s.lpu with cmds := s.lpu.cmds ++ [{ slot := .stage u, dest := (s.unit u).addr, cmd := .identReq }] } } :
      State) = s2
  have hi2 : s2.image u = i := by rw [← hs2]; exact PerUnit.get_set_self _ _ _
  rw [raiseEvents_verify u s2 (by rw [hi2, ← hi]; exact hf) (by rw [← hs2]; exact he),
    pushReport_room _ _ (by rw [← hs2]; exact hq), hi2]
  subst hs2 hi
  refine ⟨rfl, rfl, rfl, rfl, rfl, fun v => ?_, rfl, rfl, rfl, rfl, rfl, rfl⟩
  by_cases hv : v = u
  · subst hv
    simp [State.image, State.setImage, State.setRpb, Image.exchanging]
  · simp [State.image, State.setImage, State.setRpb, hv, PerUnit.get_set_ne]

/-- Another unit's exchange leaves a unit free for its own. -/
theorem Exchanged.free {u v : UnitNo} {s t : State} (h : Exchanged [u] s t) (hv : v ≠ u) (hf : ExchangeFree v s) :
    ExchangeFree v t := by
  have hu : (u == v) = false := by simpa using hv.symm
  refine ⟨?_, ?_, ?_⟩
  · have := hf.event
    simp only [eventWaiting] at this ⊢
    rw [h.rpb]
    simp [this, Report.isEventOf, hu]
  · rw [h.images, if_neg (by simpa using hv)]
    exact hf.flag
  · rw [h.lpu]
    have := hf.slot
    simp [this, hv.symm]

theorem Exchanged.cons {u : UnitNo} {us : List UnitNo} {s t r : State} (hu : u ∉ us) (h : Exchanged [u] s t)
    (k : Exchanged us t r) : Exchanged (u :: us) s r := by
  have unit : ∀ v, t.unit v = s.unit v := fun v => by simp only [State.unit, h.tbs]
  have other : ∀ v ∈ us, t.image v = s.image v := fun v hv => by
    rw [h.images, if_neg (by simp only [List.mem_singleton]; rintro rfl; exact hu hv)]
  refine ⟨k.pending.trans h.pending, k.held.trans h.held, ?_, k.tbs.trans h.tbs, k.conv.trans h.conv, fun v => ?_,
    k.dse.trans h.dse, k.alc.trans h.alc, k.seqs.trans h.seqs, k.pra.trans h.pra, k.rmp.trans h.rmp, ?_⟩
  · rw [k.lpu, h.lpu]
    simp [unit]
  · rw [k.images, h.images, h.tbs]
    by_cases hv : v = u
    · subst hv
      simp [hu]
    · simp [hv]
  · rw [k.rpb, h.rpb]
    have events : us.map (fun v => Report.unitEvent v (t.image v).events true) =
        us.map fun v => Report.unitEvent v (s.image v).events true :=
      List.map_congr_left fun v hv => by rw [other v hv]
    simp [events]

/-- Exchanges started one after another, each unit free for its own and the queue with room for them all. -/
theorem startExchanges_exchanged (us : List UnitNo) (s : State) (hn : us.Nodup) (hf : ∀ u ∈ us, ExchangeFree u s)
    (hq : s.rpb.queue.length + us.length ≤ 16) : Exchanged us s (startExchanges us s) := by
  induction us generalizing s with
  | nil => exact ⟨rfl, rfl, by simp [startExchanges], rfl, rfl, fun v => by simp [startExchanges], rfl, rfl, rfl, rfl,
    rfl, by simp [startExchanges]⟩
  | cons u us ih =>
    obtain ⟨hu, hn⟩ := List.nodup_cons.mp hn
    rw [List.length_cons] at hq
    have h := startExchange_exchanged u s (hf u List.mem_cons_self) (by omega)
    refine h.cons hu (ih _ hn (fun v hv => h.free (by rintro rfl; exact hu hv) (hf v (List.mem_cons_of_mem _ hv))) ?_)
    rw [h.rpb]
    simp only [List.length_append, List.map_cons, List.map_nil, List.length_singleton]
    omega

-- RESTART (R68) -------------------------------------------------------------------------------------------

theorem warmReset_image (s : State) (u : UnitNo) : (warmReset s).image u = .cold := PerUnit.get_all _ _

/-- Settles O35: the warm reset leaves the queues empty, so that each present unit's exchange finds its slot and its event
free. -/
theorem restartIsWarmReset : Obligations.RestartIsWarmReset := by
  intro h rest s hd
  generalize hw : s.withLinkUp .up = w
  generalize hr : pushReport (mgtPlain h subRestart .accepted) (warmReset w) = r
  have hr' : r = (warmReset w).setRpb { (warmReset w).rpb with queue := [mgtPlain h subRestart .accepted] } := by
    rw [← hr, pushReport_room _ (warmReset w) (show 0 < 16 by decide)]
    rfl
  have image : ∀ u, r.image u = .cold := fun u => by rw [hr']; exact warmReset_image w u
  have free : ∀ u, ExchangeFree u r := fun u => ⟨by rw [hr']; rfl, by rw [image]; rfl, by rw [hr']; rfl⟩
  generalize hus : (UnitNo.all.filter fun u => (s.unit u).present) = us
  have hn : us.Nodup := hus ▸ List.Nodup.filter _ (by decide)
  have hl : us.length ≤ 6 := hus ▸ List.length_filter_le _ UnitNo.all
  have ex := startExchanges_exchanged us r hn (fun u _ => free u) (by rw [hr']; show 1 + _ ≤ 16; omega)
  refine ⟨startExchanges us r, ?_, ?_⟩
  · refine (arriveUp_toPart (takeRestart h) hd.1 hd.2.1).trans ?_
    rw [takeRestart, hw, hr]
    show Host.Outcome.next (startExchanges (UnitNo.all.filter fun u => (w.unit u).present) r) = _
    rw [← hw]
    show Host.Outcome.next (startExchanges (UnitNo.all.filter fun u => (s.unit u).present) r) = _
    rw [hus]
  · have hdse : (startExchanges us r).dse = .afterReset (.ofFn fun u => (s.unit u).assign) := by
      rw [ex.dse, hr', ← hw]; rfl
    have hseqs : (startExchanges us r).seqs = .all .cold := by rw [ex.seqs, hr']; rfl
    refine ⟨by rw [ex.pending, hr', ← hw]; rfl, ?_, ?_, by rw [ex.tbs, hr', ← hw]; rfl, by rw [ex.conv, hr']; rfl,
      fun u => ?_, by rw [hdse]; rfl, by rw [hdse]; rfl, by rw [hdse]; rfl, by rw [hdse]; rfl,
        by rw [hdse]; exact ⟨rfl, rfl, rfl, rfl⟩,
      by rw [hdse]; rfl, by rw [hdse]; rfl, fun u => ?_, by rw [ex.alc, hr']; rfl, fun u => ?_, by rw [ex.pra, hr']; rfl,
      by rw [ex.rmp, hr']; rfl, ?_⟩
    · rw [ex.held, hr', ← hw]
      exact hd.1.1
    · rw [ex.lpu, hr', ← hw]
      rfl
    · rw [ex.images, image, hr', ← hw]
      have hmem : u ∈ us ↔ (s.unit u).present = true := by
        rw [← hus, List.mem_filter]
        exact ⟨fun k => k.2, fun k => ⟨UnitNo.mem_all u, k⟩⟩
      simp only [hmem]
      rfl
    · rw [State.assignOf, hdse]
      exact PerUnit.get_ofFn _ _
    · rw [State.seq, hseqs]
      exact PerUnit.get_all _ _
    · rw [ex.rpb]
      simp only [image]
      rw [hr']
      rfl

-- A UNIT write that takes a unit out of service (R29) -------------------------------------------------------

theorem ofNumber_number (u : UnitNo) : UnitNo.ofNumber u.number = some u := by
  cases u <;> rfl

/-- Storing an absent entry and answering are independent. -/
theorem storeAbsent_pushReport (u : UnitNo) (n : UnitEntry) (r : Report) (s : State) :
    storeAbsent u n (pushReport r s) = pushReport r (storeAbsent u n s) := by
  unfold pushReport
  by_cases h : s.rpb.queue.length < Config.reportCapacity
  · rw [if_pos h, if_pos (show (storeAbsent u n s).rpb.queue.length < Config.reportCapacity from h)]
    rfl
  · rw [if_neg h, if_neg (show ¬(storeAbsent u n s).rpb.queue.length < Config.reportCapacity from h)]
    rfl

theorem decideUnit_absent (s : State) (index : Byte) (f : UnitFields) (u : UnitNo) (hi : index.toNat = u.number)
    (he : s.dse.engine = .paused) :
    decideUnit s index 0 f = .store (unitClamped 0 f) (u, UnitEntry.ofFields 0 f) := by
  unfold decideUnit
  rw [hi, ofNumber_number]
  dsimp only
  rw [if_neg (by simp [he]), if_neg (by rintro ⟨h, -⟩; exact nomatch h)]

theorem takeWrite_store {α : Type} (h : Hdr) (answer : MgtCode → Nat → Report) (k : Nat) (x : α)
    (effect : α → State → State) (s : State) (hg : s.tbs.gateOpen = true) :
    takeWrite h answer (.store k x) effect s =
      effect x (pushReport (answer (if k = 0 then .accepted else .clamped) k) s) := by
  rw [takeWrite, if_pos hg]

/-- Settles O21: the decision stores, and what is stored is the entry, the cold image and the emptied slots. -/
theorem unitWriteAbsentStored : Obligations.UnitWriteAbsentStored := by
  intro h index f pad u s hd hg hi he
  refine ⟨rfl, (arriveUp_toPart (takeUnitWriteAbsent h index f) hd.1 hd.2.1).trans ?_⟩
  have hdec := decideUnit_absent (s.withLinkUp .up) index f u hi he
  rw [takeUnitWriteAbsent, hdec, takeWrite_store _ _ _ _ _ (s.withLinkUp .up) hg, storeAbsent_pushReport,
    pushReport_eq_reported]
  have cmds : ((s.lpu.cmds.filter fun w => w.slot != .stage u).filter fun w => w.slot != .setpoint u) =
      s.lpu.cmds.filter fun w => w.slot != .stage u && w.slot != .setpoint u := by
    rw [List.filter_filter]
    exact List.filter_congr fun w _ => Bool.and_comm _ _
  rw [← cmds]
  rfl

end Sys2Proof.Machine
end

section
/-! CONV_STATUS at the converter arbiter: what a stop of a unit that holds no lock and waits nowhere leaves, the grant, and
the events that end where they stand (R147 to R156). -/

namespace Sys2Proof.Machine

theorem PerUnit.set_set {α : Type} (t : PerUnit α) (u : UnitNo) (a b : α) : (t.set u a).set u b = t.set u b := by
  cases u <;> rfl

theorem PerWaterway.set_get {α : Type} (t : PerWaterway α) (w : Waterway) : t.set w (t.get w) = t := by
  cases w <;> rfl

-- The command queue ---------------------------------------------------------------------------------------

theorem mem_placeIn_self (w : Waiting) (q : List Waiting) : w ∈ placeIn w q := by
  unfold placeIn
  split
  · next h =>
    obtain ⟨x, hx, hs⟩ := List.any_eq_true.mp h
    exact List.mem_map.mpr ⟨x, hx, if_pos (beq_iff_eq.mp hs)⟩
  · exact List.mem_append_right _ (List.mem_singleton_self w)

theorem mem_placeIn_of_ne {x w : Waiting} {q : List Waiting} (hx : x ∈ q) (h : x.slot ≠ w.slot) : x ∈ placeIn w q := by
  unfold placeIn
  split
  · exact List.mem_map.mpr ⟨x, hx, if_neg h⟩
  · exact List.mem_append_left _ hx

-- Entry into a timed state (R118) -------------------------------------------------------------------------

theorem moveTo_pra (u : UnitNo) (n : SeqState) (e : Ev) : (moveTo u n e).s.pra = e.s.pra := by
  unfold moveTo
  dsimp only
  split <;> rfl

theorem moveTo_cmds (u : UnitNo) (n : SeqState) (e : Ev) : (moveTo u n e).s.lpu.cmds = e.s.lpu.cmds := by
  unfold moveTo
  dsimp only
  split <;> rfl

theorem moveTo_seqs (u : UnitNo) (n : SeqState) (e : Ev) :
    (moveTo u n e).s.seqs = e.s.seqs.set u ((e.s.seq u).leaveFor n) := by
  unfold moveTo
  dsimp only
  split <;> rfl

theorem moveTo_flags (u : UnitNo) (n : SeqState) (e : Ev) : (moveTo u n e).s.rpb.flags = e.s.rpb.flags := by
  unfold moveTo
  dsimp only
  split <;> rfl

theorem moveTo_unit (u v : UnitNo) (n : SeqState) (e : Ev) : (moveTo u n e).s.unit v = e.s.unit v := by
  simp only [State.unit, (moveTo_frame u n e).tbs]

theorem enterTimed_pra (u : UnitNo) (n : SeqState) (e : Ev) : (enterTimed u n e).s.pra = e.s.pra := by
  unfold enterTimed
  dsimp only
  split <;> exact moveTo_pra _ _ _

theorem enterTimed_flags (u : UnitNo) (n : SeqState) (e : Ev) : (enterTimed u n e).s.rpb.flags = e.s.rpb.flags := by
  unfold enterTimed
  dsimp only
  split <;> exact moveTo_flags _ _ _

/-- The record of a sequencer that has entered a timed state (R118). -/
def Seq.timedIn (q : Seq) (n : SeqState) (stage : Option Stage) (time : Nat) : Seq :=
  { q.leaveFor n with prior := stage, stageTimer := some time }

theorem enterTimed_seqs (u : UnitNo) (n : SeqState) (e : Ev) :
    (enterTimed u n e).s.seqs =
      e.s.seqs.set u ((e.s.seq u).timedIn n (e.s.image u).stage ((e.s.profileOf u).timeout n)) := by
  have h : (enterTimed u n e).s.seqs = ((moveTo u n e).setSeq u fun q =>
      { q with prior := (e.s.image u).stage, stageTimer := some ((e.s.profileOf u).timeout n) }).s.seqs := by
    unfold enterTimed
    dsimp only
    split <;> rfl
  rw [h]
  simp only [Ev.setSeq, Ev.map, State.setSeq_seqs, State.seq, moveTo_seqs, PerUnit.get_set_self]
  exact PerUnit.set_set _ _ _ _

theorem enterTimed_cmds (u : UnitNo) (n : SeqState) (c : Command) (e : Ev) (hc : n.command = some c) :
    (enterTimed u n e).s.lpu.cmds = placeIn { slot := .stage u, dest := (e.s.unit u).addr, cmd := c } e.s.lpu.cmds := by
  unfold enterTimed
  rw [hc]
  show placeIn { slot := .stage u, dest := ((moveTo u n e).s.unit u).addr, cmd := c } (moveTo u n e).s.lpu.cmds = _
  rw [moveTo_unit, moveTo_cmds]

-- Giving up nothing (R125) --------------------------------------------------------------------------------

theorem filter_ne_of_not_mem {u : UnitNo} {l : List UnitNo} (h : u ∉ l) : (l.filter fun v => v != u) = l :=
  List.filter_eq_self.mpr fun v hv => by simpa using fun hu : v = u => h (hu ▸ hv)

theorem leaveWaits_of_waitsNowhere {u : UnitNo} {e : Ev} (h : WaitsNowhere u e.s) : leaveWaits u e = e := by
  have locks : e.s.pra.locks.set (e.s.unit u).waterway { e.s.pra.locks.get (e.s.unit u).waterway with
      waiters := (e.s.pra.locks.get (e.s.unit u).waterway).waiters.filter fun v => v != u } = e.s.pra.locks := by
    rw [filter_ne_of_not_mem (h.1 _)]
    exact PerWaterway.set_get _ _
  unfold leaveWaits
  simp only [locks, filter_ne_of_not_mem h.2, Ev.map, State.setLock, State.setPra]

theorem releaseLock_of_ne {u : UnitNo} {e : Ev} (h : (e.s.lockOf u).holder ≠ some u) : releaseLock u e = e := if_neg h

theorem endGrant_of_ne {u : UnitNo} {e : Ev} (h : e.s.pra.holder ≠ some u) : endGrant u e = e := if_neg fun k => h k.1

/-- A unit that waits nowhere and holds neither lock nor grant has nothing to give up. -/
theorem giveUp_nothing {u : UnitNo} {e : Ev} (hw : WaitsNowhere u e.s) (hl : (e.s.lockOf u).holder ≠ some u)
    (hg : e.s.pra.holder ≠ some u) : giveUp u e = e := by
  rw [giveUp, leaveWaits_of_waitsNowhere hw, releaseLock_of_ne hl, endGrant_of_ne hg]

-- Stopping a unit that holds no lock and waits nowhere (R125) ---------------------------------------------

/-- The unit waits nowhere and holds neither its waterway's lock nor the converter grant. -/
structure HoldsNothing (u : UnitNo) (s : State) : Prop where
  waits : WaitsNowhere u s
  lock  : (s.lockOf u).holder ≠ some u
  grant : s.pra.holder ≠ some u

theorem lockOf_congr {s t : State} (u : UnitNo) (ht : t.tbs = s.tbs) (hp : t.pra.locks = s.pra.locks) :
    t.lockOf u = s.lockOf u := by
  simp only [State.lockOf, State.unit, ht, hp]

theorem HoldsNothing.congr {u : UnitNo} {s t : State} (h : HoldsNothing u s) (ht : t.tbs = s.tbs) (hp : t.pra = s.pra) :
    HoldsNothing u t :=
  ⟨by unfold WaitsNowhere; rw [hp]; exact h.waits, by rw [lockOf_congr u ht (by rw [hp])]; exact h.lock,
    by rw [hp]; exact h.grant⟩

/-- A stop of a unit with nothing to give up is its entry into STOPPING alone. -/
theorem enterStopping_nothing {u : UnitNo} {e : Ev} (h : HoldsNothing u e.s) :
    enterStopping u e = (enterTimed u .stopping e).setSeq u fun q => { q with minRun := none, linger := none } := by
  have k : HoldsNothing u ((enterTimed u .stopping e).setSeq u fun q => { q with minRun := none, linger := none }).s :=
    h.congr (enterTimed_frame _ _ _).tbs (enterTimed_pra _ _ _)
  exact giveUp_nothing k.waits k.lock k.grant

theorem pushReport_pra (r : Report) (s : State) : (pushReport r s).pra = s.pra := by
  unfold pushReport
  split <;> rfl

theorem pushReport_seqs (r : Report) (s : State) : (pushReport r s).seqs = s.seqs := by
  unfold pushReport
  split <;> rfl

theorem pushReport_lpu (r : Report) (s : State) : (pushReport r s).lpu = s.lpu := by
  unfold pushReport
  split <;> rfl

theorem raiseFlag_getLsbD (f : Sticky) (s : State) (i : Nat) (h : s.rpb.flags.getLsbD i = true) :
    (raiseFlag f s).rpb.flags.getLsbD i = true := by
  show (s.rpb.flags ||| f.bit).getLsbD i = true
  rw [BitVec.getLsbD_or, h, Bool.true_or]

theorem pushReport_getLsbD (r : Report) (s : State) (i : Nat) (h : s.rpb.flags.getLsbD i = true) :
    (pushReport r s).rpb.flags.getLsbD i = true := by
  unfold pushReport
  split
  · exact h
  · exact raiseFlag_getLsbD _ _ _ h

/-- A stop with its report, of a unit with nothing to give up: the resources stay, the unit is STOPPING, and STOP waits to
be sent. -/
theorem stopWithReport_nothing {u : UnitNo} {e : Ev} (c : Cause) (h : HoldsNothing u e.s) :
    (stopWithReport u c e).s.pra = e.s.pra ∧ ((stopWithReport u c e).s.seq u).state = .stopping ∧
      (stopWithReport u c e).s.lpu.cmds =
        placeIn { slot := .stage u, dest := (e.s.unit u).addr, cmd := .stop } e.s.lpu.cmds ∧
      ∀ i, e.s.rpb.flags.getLsbD i = true → (stopWithReport u c e).s.rpb.flags.getLsbD i = true := by
  unfold stopWithReport
  rw [enterStopping_nothing h]
  refine ⟨(pushReport_pra _ _).trans (enterTimed_pra _ _ _), ?_, ?_, fun i hi => pushReport_getLsbD _ _ i ?_⟩
  · show ((pushReport _ _).seqs.get u).state = _
    rw [pushReport_seqs]
    simp [Ev.setSeq, Ev.map, State.seq, enterTimed_seqs, Seq.timedIn, Seq.leaveFor]
  · exact (congrArg Lpu.cmds (pushReport_lpu _ _)).trans (enterTimed_cmds u .stopping .stop e rfl)
  · exact (congrArg (·.getLsbD i) (enterTimed_flags u .stopping e)).trans hi

-- Events that owe nothing ---------------------------------------------------------------------------------

/-- No trigger was raised, no sequencer settled, and no action is owed. -/
structure Ev.Idle (e : Ev) : Prop where
  trig   : e.trig = false
  settle : e.settle = false
  due    : e.due = []

theorem Ev.idle_start (s : State) : (Ev.start s).Idle := ⟨rfl, rfl, rfl⟩

theorem Ev.Idle.map {e : Ev} (h : e.Idle) (f : State → State) : (e.map f).Idle := ⟨h.trig, h.settle, h.due⟩

theorem Ev.Idle.enterTimed {e : Ev} (h : e.Idle) (u : UnitNo) (n : SeqState) (hn : n.stable = false) :
    (enterTimed u n e).Idle := by
  have k : (e.settle || n.stable) = false := by rw [h.settle, hn]; rfl
  unfold Machine.enterTimed
  dsimp only
  split <;> exact ⟨h.trig, k, h.due⟩

theorem Ev.Idle.grantConverter {e : Ev} (h : e.Idle) : (grantConverter e).Idle := by
  unfold Machine.grantConverter
  split
  · split
    · exact h
    · exact Ev.Idle.enterTimed (h.map _) _ _ rfl
  · exact h

theorem Ev.Idle.grantLock {e : Ev} (h : e.Idle) (u : UnitNo) : (grantLock u e).Idle := by
  unfold Machine.grantLock
  split <;> exact h.enterTimed _ _ rfl

theorem Ev.Idle.giveUp {e : Ev} (h : e.Idle) (u : UnitNo) : (giveUp u e).Idle := by
  have release : (releaseLock u (leaveWaits u e)).Idle := by
    unfold releaseLock
    dsimp only
    split
    · split
      · exact (h.map _).map _
      · exact Ev.Idle.grantLock ((h.map _).map _) _
    · exact h.map _
  unfold Machine.giveUp endGrant
  split
  · exact release.map _
  · exact release

theorem Ev.Idle.stopWithReport {e : Ev} (h : e.Idle) (u : UnitNo) (c : Cause) : (stopWithReport u c e).Idle :=
  Ev.Idle.map (Ev.Idle.giveUp ((h.enterTimed u .stopping rfl).map _) u) _

theorem Ev.Idle.converterFault {e : Ev} (h : e.Idle) : (converterFault e).Idle := by
  have failed := h.map fun s => setArbiter .faulted (raiseFlag .convFault s)
  unfold Machine.converterFault
  dsimp only
  split
  · exact failed
  · split
    · exact (failed.map _).stopWithReport _ _
    · exact failed.map _
  · split
    · exact (failed.map _).stopWithReport _ _
    · exact failed.map _
  · exact failed.map _
  · exact h

theorem closeEvent_of_idle {e : Ev} (h : e.Idle) : closeEvent e = e.s :=
  closeEvent_idle e h.due (by rw [h.trig]; rfl) h.settle

-- The grant rule (R154) -----------------------------------------------------------------------------------

theorem grantConverter_idle {e : Ev} (h : e.s.pra.arb = .free → e.s.uib.conv.available = true → e.s.pra.startQueue = []) :
    grantConverter e = e := by
  unfold grantConverter
  split
  · next k => rw [h k.1 k.2]
  · rfl

/-- The head of the start queue is granted the converter: CONV_CONNECT and CONVERTER_START wait to be sent, and it runs up. -/
theorem grantConverter_head {e : Ev} {u : UnitNo} {rest : List UnitNo} (ha : e.s.pra.arb = .free)
    (hc : e.s.uib.conv.available = true) (hq : e.s.pra.startQueue = u :: rest) :
    (grantConverter e).s.pra = { e.s.pra with arb := .connecting, holder := some u, startQueue := rest } ∧
      ((grantConverter e).s.seq u).state = .pRunup ∧
      ((grantConverter e).s.seq u).stageTimer = some (e.s.profileOf u).tPrun ∧
      (grantConverter e).s.lpu.cmds = placeIn { slot := .stage u, dest := (e.s.unit u).addr, cmd := .converterStart }
        (placeIn { slot := .converter, dest := e.s.tbs.plant.convAddr, cmd := .convConnect (e.s.unit u).addr }
          e.s.lpu.cmds) := by
  unfold grantConverter
  rw [if_pos ⟨ha, hc⟩, hq]
  refine ⟨enterTimed_pra _ _ _, ?_, ?_, enterTimed_cmds _ _ .converterStart _ rfl⟩
  · rw [State.seq, enterTimed_seqs, PerUnit.get_set_self]
    rfl
  · rw [State.seq, enterTimed_seqs, PerUnit.get_set_self]
    rfl

-- The converter's fault (R152) ----------------------------------------------------------------------------

/-- The state in which a faulted converter's grant holder is stopped: the grant is gone, CONV_RELEASE waits to be sent. -/
def State.grantAbandoned (s : State) : State :=
  let s1 := placeConverter .convRelease (setArbiter .faulted (raiseFlag .convFault s))
  s1.setPra { s1.pra with holder := none }

theorem converterFault_faulted {e : Ev} (h : e.s.pra.arb = .faulted) : converterFault e = e := by
  unfold converterFault
  rw [h]

theorem converterFault_free {e : Ev} (h : e.s.pra.arb = .free) :
    converterFault e = e.map fun s => setArbiter .faulted (raiseFlag .convFault s) := by
  unfold converterFault
  rw [h]

theorem converterFault_releasing {e : Ev} (h : e.s.pra.arb = .releasing) :
    converterFault e = (e.map fun s => setArbiter .faulted (raiseFlag .convFault s)).map
      fun s => s.setPra { s.pra with releaseTmr := none } := by
  unfold converterFault
  rw [h]

theorem converterFault_granted {e : Ev} {u : UnitNo} (h : e.s.pra.arb.granted = true) (hu : e.s.pra.holder = some u) :
    converterFault e = stopWithReport u .converter (e.map State.grantAbandoned) := by
  unfold converterFault
  rw [hu]
  cases ha : e.s.pra.arb <;> rw [ha] at h <;> first | rfl | exact absurd h (by decide)

theorem convFault_flag (s : State) : (raiseFlag .convFault s).rpb.flags.getLsbD 7 = true := by
  show (s.rpb.flags ||| Sticky.convFault.bit).getLsbD 7 = true
  rw [BitVec.getLsbD_or, show Sticky.convFault.bit.getLsbD 7 = true by decide, Bool.or_true]

/-- The holder of a converter grant runs up, and so holds no lock and waits nowhere (R146, R149, R155, R158, R160). -/
theorem ResourcesAgree.holder_nothing {s : State} (h : ResourcesAgree s) {u : UnitNo} (hu : s.pra.holder = some u) :
    WaitsNowhere u s ∧ (s.lockOf u).holder ≠ some u := by
  have hs := h.holderState u hu
  refine ⟨⟨fun w hw => ?_, fun hq => ?_⟩, fun hl => ?_⟩
  · have := (h.waiterState w u hw).2
    rw [hs] at this
    exact absurd this (by decide)
  · have := h.queueState u hq
    rw [hs] at this
    exact absurd this (by decide)
  · have := (h.lockState _ u hl).2
    rw [hs] at this
    exact absurd this (by decide)

/-- A grant stands in CONNECTING and IN_USE alone, with its holder (R146). -/
theorem ResourcesAgree.holder_none {s : State} (h : ResourcesAgree s) (ha : s.pra.arb.granted = false) :
    s.pra.holder = none := by
  have := h.granted
  rw [ha] at this
  exact Option.isSome_eq_false_iff.mp this.symm |> Option.isNone_iff_eq_none.mp

/-- What a new fault leaves of the arbiter, and the stop of a unit that held the grant (R152). -/
theorem converterFault_spec {s : State} (h : ResourcesAgree s) (ha : s.pra.arb ≠ .faulted) :
    (converterFault (.start s)).s.pra =
        { s.pra with arb := .faulted, holder := none
                     releaseTmr := if s.pra.arb = .releasing then none else s.pra.releaseTmr } ∧
      (converterFault (.start s)).s.rpb.flags.getLsbD 7 = true ∧
      ∀ u, s.pra.holder = some u → ((converterFault (.start s)).s.seq u).state = .stopping ∧
        { slot := .converter, dest := s.tbs.plant.convAddr, cmd := .convRelease } ∈ (converterFault (.start s)).s.lpu.cmds ∧
        { slot := .stage u, dest := (s.unit u).addr, cmd := .stop } ∈ (converterFault (.start s)).s.lpu.cmds := by
  cases hg : s.pra.arb.granted with
  | false =>
    have hn := h.holder_none hg
    have none : ∀ p : UnitNo → Prop, ∀ u, s.pra.holder = some u → p u := fun p u hu => by rw [hn] at hu; cases hu
    have hp : s.pra = { s.pra with holder := .none } := by rw [← hn]
    cases hs : s.pra.arb with
    | free =>
      rw [converterFault_free hs]
      refine ⟨?_, convFault_flag s, none _⟩
      show ({ s.pra with arb := .faulted } : Pra) = _
      rw [hp]
      rfl
    | releasing =>
      rw [converterFault_releasing hs]
      refine ⟨?_, convFault_flag s, none _⟩
      show ({ s.pra with arb := .faulted, releaseTmr := .none } : Pra) = _
      rw [hp]
      rfl
    | connecting => rw [hs] at hg; cases hg
    | inUse => rw [hs] at hg; cases hg
    | faulted => exact absurd hs ha
  | true =>
    obtain ⟨u, hu⟩ := Option.isSome_iff_exists.mp (h.granted ▸ hg : s.pra.holder.isSome = true)
    obtain ⟨hw, hl⟩ := h.holder_nothing hu
    have hr : s.pra.arb ≠ .releasing := fun k => by rw [k] at hg; cases hg
    obtain ⟨hpra, hstate, hcmds, hflags⟩ := stopWithReport_nothing (e := (Ev.start s).map State.grantAbandoned) .converter
      (⟨hw, hl, fun k => nomatch k⟩ : HoldsNothing u s.grantAbandoned)
    rw [converterFault_granted hg hu]
    refine ⟨?_, hflags 7 (convFault_flag s), fun v hv => ?_⟩
    · rw [hpra, if_neg hr]
      rfl
    · obtain rfl : u = v := Option.some.inj (hu.symm.trans hv)
      rw [hcmds]
      exact ⟨hstate, mem_placeIn_of_ne (mem_placeIn_self _ _) (fun k => nomatch k), mem_placeIn_self _ _⟩

-- The transitions without fault (R147, R148, R150, R153) --------------------------------------------------

theorem converterStep_connecting {s : State} (h : s.pra.arb = .connecting) :
    converterStep s = if connectedToHolder s then setArbiter .inUse s else s := by
  unfold converterStep
  rw [h]

theorem converterStep_releasing {s : State} (h : s.pra.arb = .releasing) :
    converterStep s = if s.uib.conv.connected = 0 then setArbiter .free (s.setPra { s.pra with releaseTmr :=
      none }) else s := by
  unfold converterStep
  rw [h]

theorem converterStep_faulted {s : State} (h : s.pra.arb = .faulted) :
    converterStep s = if s.uib.conv.ready ∧ s.uib.conv.connected = 0 then setArbiter .free s else s := by
  unfold converterStep
  rw [h]

theorem converterStep_free {s : State} (h : s.pra.arb = .free) : converterStep s = s := by
  unfold converterStep
  rw [h]

theorem converterStep_inUse {s : State} (h : s.pra.arb = .inUse) : converterStep s = s := by
  unfold converterStep
  rw [h]

theorem connectedToHolder_iff (s : State) :
    connectedToHolder s = true ↔ ∃ u, s.pra.holder = some u ∧ (s.unit u).addr = s.uib.conv.connected := by
  unfold connectedToHolder
  rw [Option.any_eq_true]
  simp only [beq_iff_eq]

theorem converterEvent_fault {s : State} (h : s.uib.conv.fault = true) :
    converterEvent s = (converterFault (.start s)).s := by
  unfold converterEvent
  dsimp only
  rw [if_pos h, closeEvent_of_idle (Ev.idle_start s).converterFault]

theorem converterEvent_noFault {s : State} (h : s.uib.conv.fault = false) :
    converterEvent s = (grantConverter (.start (converterStep s))).s := by
  unfold converterEvent
  dsimp only
  rw [if_neg (by simp [h])]
  exact closeEvent_of_idle (Ev.Idle.grantConverter ((Ev.idle_start s).map converterStep))

/-- A CONV_STATUS without fault that leaves the arbiter other than free, or the converter not available, grants nothing. -/
theorem converterEvent_noGrant {s : State} (h : s.uib.conv.fault = false)
    (hg : (converterStep s).pra.arb ≠ .free ∨ s.uib.conv.available = false) : converterEvent s = converterStep s := by
  rw [converterEvent_noFault h, grantConverter_idle]
  · rfl
  · intro ha hc
    rcases hg with hg | hg
    · exact absurd ha hg
    · rw [show (Ev.start (converterStep s)).s.uib = s.uib from (converterStep_frame s).uib, hg] at hc
      cases hc

theorem available_iff (c : ConvImage) : c.available = true ↔ c.ready = true ∧ c.fault = false ∧ c.connected = 0 := by
  simp [ConvImage.available, and_assoc]

/-- The transition of the arbiter leaves sequencers, waiting commands, locks, grant and start queue. -/
theorem converterStep_keeps (s : State) : (converterStep s).seqs = s.seqs ∧ (converterStep s).lpu = s.lpu ∧
    (converterStep s).pra = { s.pra with
      arb := (converterStep s).pra.arb
      releaseTmr := (converterStep s).pra.releaseTmr } := by
  unfold converterStep
  dsimp only
  repeat' split
  all_goals exact ⟨rfl, rfl, rfl⟩

/-- The arbiter is free after a CONV_STATUS of a converter that has nothing connected, a faulted one once it is ready. -/
theorem converterStep_freed {s : State} (ha : s.pra.arb = .free ∨ s.pra.arb = .releasing ∨ s.pra.arb = .faulted)
    (hc : s.uib.conv.connected = 0) (hr : s.pra.arb = .faulted → s.uib.conv.ready = true) :
    (converterStep s).pra.arb = .free := by
  rcases ha with ha | ha | ha
  · rw [converterStep_free ha]
    exact ha
  · rw [converterStep_releasing ha, if_pos hc]
    rfl
  · rw [converterStep_faulted ha, if_pos ⟨hr ha, hc⟩]
    rfl

theorem grantConverter_pra (e : Ev) : (grantConverter e).s.pra.locks = e.s.pra.locks ∧
    (grantConverter e).s.pra.releaseTmr = e.s.pra.releaseTmr := by
  unfold grantConverter
  split
  · split
    · exact ⟨rfl, rfl⟩
    · rw [enterTimed_pra]
      exact ⟨rfl, rfl⟩
  · exact ⟨rfl, rfl⟩

theorem converterEvent_locks {s : State} (h : ResourcesAgree s) : (converterEvent s).pra.locks = s.pra.locks := by
  cases hf : s.uib.conv.fault with
  | false =>
    rw [converterEvent_noFault hf, (grantConverter_pra _).1]
    exact (congrArg Pra.locks (converterStep_keeps s).2.2 :)
  | true =>
    rw [converterEvent_fault hf]
    by_cases ha : s.pra.arb = .faulted
    · rw [converterFault_faulted ha]
      rfl
    · rw [(converterFault_spec h ha).1]

theorem converterEvent_seqFrame (s : State) : SeqFrame s (converterEvent s) := by
  cases hf : s.uib.conv.fault with
  | false =>
    rw [converterEvent_noFault hf]
    exact (converterStep_frame s).trans (grantConverter_frame (.start (converterStep s)))
  | true =>
    rw [converterEvent_fault hf]
    exact converterFault_frame (.start s)

/-- Without fault, and without a change of connection that its state waits for, a CONV_STATUS moves nothing (R147, R148,
R150, R153). -/
theorem converterEvent_keeps {s : State} (h : s.uib.conv.fault = false)
    (hk : s.pra.arb = .inUse ∨ (s.pra.arb = .free ∧ s.uib.conv.connected ≠ 0) ∨
      (s.pra.arb = .releasing ∧ s.uib.conv.connected ≠ 0) ∨
      (s.pra.arb = .faulted ∧ (s.uib.conv.ready = false ∨ s.uib.conv.connected ≠ 0))) :
    (converterEvent s).seqs = s.seqs ∧ (converterEvent s).pra = s.pra := by
  have linked : s.uib.conv.connected ≠ 0 → s.uib.conv.available = false := fun k =>
    Bool.eq_false_iff.mpr fun j => k ((available_iff _).mp j).2.2
  have stays : converterStep s = s ∧ (s.pra.arb ≠ .free ∨ s.uib.conv.available = false) := by
    rcases hk with ha | ⟨ha, hn⟩ | ⟨ha, hn⟩ | ⟨ha, hn⟩
    · exact ⟨converterStep_inUse ha, .inl (by rw [ha]; decide)⟩
    · exact ⟨converterStep_free ha, .inr (linked hn)⟩
    · exact ⟨(converterStep_releasing ha).trans (if_neg hn), .inr (linked hn)⟩
    · refine ⟨(converterStep_faulted ha).trans (if_neg ?_), .inl (by rw [ha]; decide)⟩
      rintro ⟨hr, hc⟩
      exact hn.elim (fun k => by rw [hr] at k; cases k) fun k => k hc
  obtain ⟨step, idle⟩ := stays
  rw [converterEvent_noGrant h (by rw [step]; exact idle), step]
  exact ⟨rfl, rfl⟩

/-- The grant holder's connection puts the converter in use (R148). -/
theorem converterEvent_connecting {s : State} (h : s.uib.conv.fault = false) (ha : s.pra.arb = .connecting) :
    (converterEvent s).seqs = s.seqs ∧ (converterEvent s).pra = { s.pra with arb :=
      if (∃ u, s.pra.holder = some u ∧ (s.unit u).addr = s.uib.conv.connected) then .inUse else .connecting } := by
  have step := converterStep_connecting ha
  rw [if_congr (connectedToHolder_iff s) rfl rfl] at step
  by_cases hh : ∃ u, s.pra.holder = some u ∧ (s.unit u).addr = s.uib.conv.connected
  · rw [if_pos hh] at step ⊢
    rw [converterEvent_noGrant h (.inl (by rw [step]; exact fun k => nomatch k)), step]
    exact ⟨rfl, rfl⟩
  · rw [if_neg hh] at step ⊢
    rw [converterEvent_noGrant h (.inl (by rw [step, ha]; exact fun k => nomatch k)), step, ← ha]
    exact ⟨rfl, rfl⟩

/-- A free arbiter, or one that becomes free, grants the head of the start queue if the converter is ready (R150, R153,
R154). -/
theorem converterEvent_freed {s : State} (h : s.uib.conv.fault = false) (agree : ResourcesAgree s)
    (ha : s.pra.arb = .free ∨ s.pra.arb = .releasing ∨ s.pra.arb = .faulted) (hc : s.uib.conv.connected = 0) :
    (s.uib.conv.ready = false → s.pra.arb ≠ .faulted → (converterEvent s).seqs = s.seqs ∧
      (converterEvent s).pra.arb = .free ∧ (converterEvent s).pra.startQueue = s.pra.startQueue) ∧
    (s.uib.conv.ready = true → s.pra.startQueue = [] → (converterEvent s).seqs = s.seqs ∧
      (converterEvent s).pra.arb = .free ∧ (converterEvent s).pra.holder = none) ∧
    (s.uib.conv.ready = true → ∀ u rest, s.pra.startQueue = u :: rest →
      (converterEvent s).pra.arb = .connecting ∧ (converterEvent s).pra.holder = some u ∧
      (converterEvent s).pra.startQueue = rest ∧ ((converterEvent s).seq u).state = .pRunup ∧
      ((converterEvent s).seq u).stageTimer = some (s.profileOf u).tPrun ∧
      { slot := .converter, dest := s.tbs.plant.convAddr, cmd := .convConnect (s.unit u).addr } ∈
        (converterEvent s).lpu.cmds ∧
      { slot := .stage u, dest := (s.unit u).addr, cmd := .converterStart } ∈ (converterEvent s).lpu.cmds) := by
  obtain ⟨seqs, -, pra⟩ := converterStep_keeps s
  have freed := converterStep_freed ha hc
  refine ⟨fun hr hk => ?_, fun hr hq => ?_, fun hr u rest hq => ?_⟩
  · have unavailable : s.uib.conv.available = false := Bool.eq_false_iff.mpr fun k => by
      rw [((available_iff _).mp k).1] at hr
      cases hr
    rw [converterEvent_noGrant h (.inr unavailable), seqs, freed fun k => absurd k hk, pra]
    exact ⟨rfl, rfl, rfl⟩
  · have noHolder : s.pra.holder = none := agree.holder_none (by rcases ha with k | k | k <;> rw [k] <;> rfl)
    rw [converterEvent_noFault h, grantConverter_idle fun _ _ => by
      show (converterStep s).pra.startQueue = []
      rw [pra, hq]]
    refine ⟨seqs, freed fun _ => hr, ?_⟩
    show (converterStep s).pra.holder = none
    rw [pra, noHolder]
  · have available : (converterStep s).uib.conv.available = true := by
      rw [(converterStep_frame s).uib, available_iff]
      exact ⟨hr, h, hc⟩
    have queue : (converterStep s).pra.startQueue = u :: rest := by rw [pra, hq]
    obtain ⟨gpra, gstate, gtimer, gcmds⟩ :=
      grantConverter_head (e := .start (converterStep s)) (freed fun _ => hr) available queue
    have tbs : (Ev.start (converterStep s)).s.tbs = s.tbs := (converterStep_frame s).tbs
    simp only [State.unit, State.profileOf, tbs] at gtimer gcmds
    rw [converterEvent_noFault h, gpra, gstate, gtimer, gcmds]
    exact ⟨rfl, rfl, rfl, rfl, rfl, mem_placeIn_of_ne (mem_placeIn_self _ _) (fun k => nomatch k),
      mem_placeIn_self _ _⟩

-- A cell forwarded upward (R8) ----------------------------------------------------------------------------

section
variable (c : Cell) (s : State)

@[simp] theorem forwardedUp_tbs : (s.forwardedUp c).tbs = s.tbs := by unfold State.forwardedUp; split <;> rfl
@[simp] theorem forwardedUp_uib : (s.forwardedUp c).uib = s.uib := by unfold State.forwardedUp; split <;> rfl
@[simp] theorem forwardedUp_dse : (s.forwardedUp c).dse = s.dse := by unfold State.forwardedUp; split <;> rfl
@[simp] theorem forwardedUp_alc : (s.forwardedUp c).alc = s.alc := by unfold State.forwardedUp; split <;> rfl
@[simp] theorem forwardedUp_seqs : (s.forwardedUp c).seqs = s.seqs := by unfold State.forwardedUp; split <;> rfl
@[simp] theorem forwardedUp_pra : (s.forwardedUp c).pra = s.pra := by unfold State.forwardedUp; split <;> rfl
@[simp] theorem forwardedUp_rmp : (s.forwardedUp c).rmp = s.rmp := by unfold State.forwardedUp; split <;> rfl
@[simp] theorem forwardedUp_cmds : (s.forwardedUp c).lpu.cmds = s.lpu.cmds := by unfold State.forwardedUp; split <;> rfl
@[simp] theorem forwardedUp_queue : (s.forwardedUp c).rpb.queue = s.rpb.queue := by unfold State.forwardedUp; split <;> rfl
@[simp] theorem forwardedUp_alertLow : (s.forwardedUp c).rpb.alertLow = s.rpb.alertLow := by
  unfold State.forwardedUp; split <;> rfl
@[simp] theorem forwardedUp_alertDue : (s.forwardedUp c).alertDue = s.alertDue := by unfold State.forwardedUp; split <;> rfl
@[simp] theorem forwardedUp_seq (u : UnitNo) : (s.forwardedUp c).seq u = s.seq u := by
  simp only [State.seq, forwardedUp_seqs]

theorem forwardedUp_upFwd : (s.forwardedUp c).lpu.upFwd =
    if s.lpu.upFwd.length < 32 then s.lpu.upFwd ++ [c] else s.lpu.upFwd := by
  unfold State.forwardedUp
  split <;> rfl

theorem forwardedUp_getLsbD (i : Nat) (h : s.rpb.flags.getLsbD i = true) : (s.forwardedUp c).rpb.flags.getLsbD i = true := by
  unfold State.forwardedUp
  split
  · exact h
  · show (s.rpb.flags ||| 0x02).getLsbD i = true
    rw [BitVec.getLsbD_or, h, Bool.true_or]

end

-- The statement -------------------------------------------------------------------------------------------

theorem bne_zero_of_eq {x : Byte} (h : x = 0) : (x != 0) = false := by simp [h]

theorem bne_zero_of_ne {x : Byte} (h : x ≠ 0) : (x != 0) = true := bne_iff_ne.mpr h

theorem toNat_ne_zero {x : Byte} (h : x ≠ 0) : x.toNat ≠ 0 := fun k => h (BitVec.eq_of_toNat_eq k)

/-- Settles O50: the event's ending by arbiter state, with and without fault, and the cell's place in the UP-forward
queue. -/
theorem convStatusMovesArbiter : Obligations.ConvStatusMovesArbiter := by
  intro h ready fault connected pad s
  dsimp only
  intro hd
  refine ⟨arriveDn_toPart _ _ hd, fun hp hsrc => ?_, fun hp hsrc agree quiet => ?_⟩
  · refine (arriveDn_past (fun s => s) (snoopConvStatus h ready fault connected) hd hp).trans ?_
    rw [show snoopConvStatus h ready fault connected (s.withLinkUp .dn) = s.withLinkUp .dn from if_neg hsrc, ite_self]
  generalize hc : cellConvStatus h ready fault connected pad = c at hd hp ⊢
  generalize hb : (s.withLinkUp .dn).setUib { s.uib with conv := .ofFields ready fault connected } = b
  have snoops : snooped c.src s = true := by
    rw [← hc]
    exact Bool.or_eq_true_iff.mpr (.inr (beq_iff_eq.mpr hsrc.symm))
  have event : exec (.convStatus h ready fault connected pad) s = .next ((converterEvent b).forwardedUp c) := by
    rw [← hc] at hd hp snoops ⊢
    refine (arriveDn_past (fun s => s) (snoopConvStatus h ready fault connected) hd hp).trans ?_
    rw [if_pos snoops, ← hb]
    exact congrArg (fun x => Host.Outcome.next (State.forwardedUp x _)) (if_pos hsrc)
  have agreeb : ResourcesAgree b := by
    rw [← hb]
    exact ⟨agree.queueNodup, agree.queueState, agree.granted, agree.holderState, agree.waitersNodup, agree.waiterState,
      agree.lockState, agree.lockTaken, agree.awake⟩
  have conv : b.uib.conv = .ofFields ready fault connected := by rw [← hb]; rfl
  have pra : b.pra = s.pra := by rw [← hb]; rfl
  have seqs : b.seqs = s.seqs := by rw [← hb]; rfl
  have tbs : b.tbs = s.tbs := by rw [← hb]; rfl
  have unit : ∀ u, b.unit u = s.unit u := fun u => by rw [← hb]; rfl
  have prof : ∀ u, b.profileOf u = s.profileOf u := fun u => by rw [← hb]; rfl
  have frame := converterEvent_seqFrame b
  have alert : (converterEvent b).rpb.alertLow = (converterEvent b).alertDue :=
    frame.alert (by rw [← hb]; exact quiet.alert)
  have faults : fault ≠ 0 → b.uib.conv.fault = true := fun hf => by rw [conv]; exact bne_zero_of_ne hf
  have sound : fault = 0 → b.uib.conv.fault = false := fun hf => by rw [conv]; exact bne_zero_of_eq hf
  have linked : connected ≠ 0 → b.uib.conv.connected ≠ 0 := fun hn => by rw [conv]; exact toNat_ne_zero hn
  have unlinked : connected = 0 → b.uib.conv.connected = 0 := fun hn => by rw [conv, hn]; rfl
  have unready : ready = 0 → b.uib.conv.ready = false := fun hr => by rw [conv]; exact bne_zero_of_eq hr
  have keeps := fun hf => converterEvent_keeps (s := b) (sound hf)
  rw [seqs, pra] at keeps
  refine ⟨_, event, ?_, ?_, ?_, ?_, ?_, ?_, ?_, ?_, ?_, ?_, ?_, ?_, ?_, ?_, ?_, ?_, ?_⟩
  all_goals try simp only [forwardedUp_tbs, forwardedUp_uib, forwardedUp_dse, forwardedUp_alc, forwardedUp_seqs,
    forwardedUp_pra, forwardedUp_rmp, forwardedUp_cmds, forwardedUp_queue, forwardedUp_alertLow, forwardedUp_alertDue,
    forwardedUp_seq]
  · rw [frame.uib, ← hb]; rfl
  · rw [frame.tbs, tbs]
  · rw [frame.dse, ← hb]; rfl
  · rw [frame.alc, ← hb]; rfl
  · rw [frame.crossings, ← hb]; rfl
  · exact alert
  · rw [converterEvent_locks agreeb, pra]
  · rw [forwardedUp_upFwd, frame.lpu, ← hb]; rfl
  · exact fun hf ha hn => keeps hf (.inr (.inl ⟨ha, linked hn⟩))
  · intro hf ha hn
    rw [converterEvent_noFault (sound hf), (grantConverter_pra _).2]
    show (converterStep b).pra.releaseTmr = none
    rw [converterStep_releasing (pra ▸ ha), if_pos (unlinked hn)]
    rfl
  · intro hf ha
    obtain ⟨hpra, hflag, hstop⟩ := converterFault_spec agreeb (pra ▸ ha)
    rw [← converterEvent_fault (faults hf)] at hpra hflag hstop
    simp only [pra, tbs, unit] at hpra hstop
    have low : (converterEvent b).rpb.alertLow = true := by
      rw [alert, State.alertDue, frame.held, show b.held = false by rw [← hb]; exact hd.1, hpra]
      simp
    rw [hpra]
    exact ⟨rfl, rfl, rfl, forwardedUp_getLsbD _ _ _ hflag, low, fun k => if_pos k, hstop⟩
  · intro hf ha
    rw [converterEvent_fault (faults hf), converterFault_faulted (pra ▸ ha), ← hb]
    exact ⟨rfl, rfl, rfl⟩
  · intro hf ha
    have k := converterEvent_connecting (sound hf) (pra ▸ ha)
    simp only [pra, seqs, unit, conv] at k
    exact k
  · exact fun hf ha => keeps hf (.inl ha)
  · exact fun hf ha hn => keeps hf (.inr (.inr (.inl ⟨ha, linked hn⟩)))
  · exact fun hf ha hn => keeps hf (.inr (.inr (.inr ⟨ha, hn.imp unready linked⟩)))
  · intro hf ha hn
    obtain ⟨waits, empty, grants⟩ := converterEvent_freed (sound hf) agreeb (pra ▸ ha) (unlinked hn)
    simp only [pra, seqs, tbs, unit, prof] at waits empty grants
    have isReady : ready ≠ 0 → b.uib.conv.ready = true := fun hr => by rw [conv]; exact bne_zero_of_ne hr
    exact ⟨fun hr => waits (unready hr), fun hr => empty (isReady hr), fun hr => grants (isReady hr)⟩

end Sys2Proof.Machine
end

section
/-! What a sequencer's operations leave, part by part: the waiting commands by slot, the sequencers, the setpoints, what the
arbiter holds, and the Report Block, of which PLANT_ALERT_N alone follows a move (R118, R125, R149, R158 to R161, R192). -/

namespace Sys2Proof.Machine

/-- The commands waiting in a slot. -/
def slotOf (k : Slot) (s : State) : List Waiting := s.lpu.cmds.filter fun w => w.slot == k

theorem mem_cmds_iff (w : Waiting) (s : State) : w ∈ s.lpu.cmds ↔ w ∈ slotOf w.slot s := by
  simp [slotOf]

/-- A waiting command stays where its slot is left alone. -/
theorem mem_cmds_of_slotOf {w : Waiting} {a b : State} (h : slotOf w.slot b = slotOf w.slot a) (hw : w ∈ a.lpu.cmds) :
    w ∈ b.lpu.cmds := by
  rw [mem_cmds_iff, h, ← mem_cmds_iff]
  exact hw

theorem slotOf_place (k slot : Slot) (dest : Nat) (cmd : Command) (s : State) (h : k ≠ slot) :
    slotOf k (place slot dest cmd s) = slotOf k s := placeIn_filter _ _ _ h.symm

-- The Report Block ----------------------------------------------------------------------------------------

/-- Nothing was reported: of the Report Block at most PLANT_ALERT_N changed. -/
def Silent (a b : State) : Prop := b.rpb = { a.rpb with alertLow := b.rpb.alertLow }

theorem Silent.refl (s : State) : Silent s s := rfl

theorem Silent.trans {a b c : State} (h : Silent a b) (k : Silent b c) : Silent a c := by
  unfold Silent at *
  rw [k, h]

theorem Silent.of_eq {a b : State} (h : b.rpb = a.rpb) : Silent a b := by
  unfold Silent
  rw [h]

theorem moveTo_silent (u : UnitNo) (n : SeqState) (e : Ev) : Silent e.s (moveTo u n e).s := by
  unfold moveTo
  dsimp only
  split <;> rfl

theorem enterTimed_silent (u : UnitNo) (n : SeqState) (e : Ev) : Silent e.s (enterTimed u n e).s := by
  unfold enterTimed
  dsimp only
  split <;> exact moveTo_silent _ _ _

theorem endGrant_silent (u : UnitNo) (e : Ev) : Silent e.s (endGrant u e).s := by
  unfold endGrant
  split <;> rfl

-- A move of a sequencer -----------------------------------------------------------------------------------

theorem moveTo_units (u : UnitNo) (n : SeqState) (e : Ev) : (moveTo u n e).s.rmp.units =
    if (e.s.seq u).state = .gOn then e.s.rmp.units.set u .idle else e.s.rmp.units := by
  unfold moveTo
  dsimp only
  split <;> rfl

theorem enterTimed_units (u : UnitNo) (n : SeqState) (e : Ev) : (enterTimed u n e).s.rmp.units =
    if (e.s.seq u).state = .gOn then e.s.rmp.units.set u .idle else e.s.rmp.units := by
  unfold enterTimed
  dsimp only
  split <;> exact moveTo_units _ _ _

theorem enterTimed_ramp_self (u : UnitNo) (n : SeqState) (e : Ev) :
    (enterTimed u n e).s.ramp u = if (e.s.seq u).state = .gOn then .idle else e.s.ramp u := by
  rw [State.ramp, enterTimed_units]
  split
  · exact PerUnit.get_set_self _ _ _
  · rfl

theorem enterTimed_ramp_ne {u v : UnitNo} (n : SeqState) (e : Ev) (h : v ≠ u) :
    (enterTimed u n e).s.ramp v = e.s.ramp v := by
  rw [State.ramp, enterTimed_units]
  split
  · exact PerUnit.get_set_ne _ _ _ _ h
  · rfl

theorem enterTimed_seq_self (u : UnitNo) (n : SeqState) (e : Ev) :
    (enterTimed u n e).s.seq u = (e.s.seq u).timedIn n (e.s.image u).stage ((e.s.profileOf u).timeout n) := by
  rw [State.seq, enterTimed_seqs]
  exact PerUnit.get_set_self _ _ _

theorem enterTimed_seq_ne {u v : UnitNo} (n : SeqState) (e : Ev) (h : v ≠ u) :
    (enterTimed u n e).s.seq v = e.s.seq v := by
  rw [State.seq, enterTimed_seqs]
  exact PerUnit.get_set_ne _ _ _ _ h

theorem enterTimed_slotOf (u : UnitNo) (n : SeqState) (e : Ev) {k : Slot} (h : k ≠ .stage u) :
    slotOf k (enterTimed u n e).s = slotOf k e.s := by
  have moved : slotOf k (moveTo u n e).s = slotOf k e.s := by rw [slotOf, moveTo_cmds]; rfl
  unfold enterTimed
  dsimp only
  split
  · exact (slotOf_place k (.stage u) _ _ _ h).trans moved
  · exact moved

/-- The command of a timed state waits to be sent once the state is entered (R118). -/
theorem enterTimed_mem (u : UnitNo) {n : SeqState} {c : Command} (e : Ev) (hc : n.command = some c) :
    { slot := .stage u, dest := (e.s.unit u).addr, cmd := c } ∈ (enterTimed u n e).s.lpu.cmds := by
  rw [enterTimed_cmds u n c e hc]
  exact mem_placeIn_self _ _

-- A lock handed on (R159, R160) ---------------------------------------------------------------------------

/-- The state to which a sequencer in this lock wait, from this origin, goes on when it is handed its lock (R159). -/
def SeqState.grantedFrom (n : SeqState) (o : Origin) : SeqState :=
  if n = .pLockwait then .pPrime else if o = .air then .gLoad else .gRunup

def Seq.grantedState (q : Seq) : SeqState := q.state.grantedFrom q.origin

theorem grantLock_eq (u : UnitNo) (e : Ev) : grantLock u e = enterTimed u (e.s.seq u).grantedState e := by
  unfold grantLock Seq.grantedState SeqState.grantedFrom Ev.state
  split
  · next h => rw [if_pos h]
  · next k h => rw [if_neg h, if_pos k]
  · next h k => rw [if_neg h, if_neg k]

theorem grantedState_holdsLock (q : Seq) : q.grantedState.holdsLock = true := by
  unfold Seq.grantedState SeqState.grantedFrom
  split
  · rfl
  · split <;> rfl

/-- A waiting sequencer that is handed its lock, in a state that agrees with the one before on all that it reads. -/
theorem enterTimed_granted {a : State} {v : UnitNo} {e : Ev} (hq : (a.seq v).state.waitsForLock = true)
    (hs : e.s.seq v = a.seq v) (ht : e.s.tbs = a.tbs) (hi : e.s.uib = a.uib) :
    Granted a (enterTimed v (a.seq v).grantedState e).s v := by
  have unit : e.s.unit v = a.unit v := by simp only [State.unit, ht]
  have image : e.s.image v = a.image v := by simp only [State.image, hi]
  have prof : e.s.profileOf v = a.profileOf v := by simp only [State.profileOf, State.unit, ht]
  have entered : ∀ n cmd, (a.seq v).grantedState = n → n.command = some cmd →
      let b := (enterTimed v (a.seq v).grantedState e).s
      b.seq v = { a.seq v with state := n, origin := (b.seq v).origin, prior := (a.image v).stage
                               stageTimer := some ((a.profileOf v).timeout n) } ∧
        { slot := .stage v, dest := (a.unit v).addr, cmd } ∈ b.lpu.cmds := by
    intro n cmd hn hc
    rw [hn]
    refine ⟨?_, unit ▸ enterTimed_mem v e hc⟩
    rw [enterTimed_seq_self, hs, image, prof]
    have h1 : ¬((a.seq v).state = .gOn ∨ (a.seq v).state = .pOn) := by
      rintro (h | h) <;> rw [h] at hq <;> exact absurd hq (by decide)
    have h2 : ¬((a.seq v).state = .gAir ∨ (a.seq v).state = .pAir) := by
      rintro (h | h) <;> rw [h] at hq <;> exact absurd hq (by decide)
    simp only [Seq.timedIn, Seq.leaveFor, if_neg h1, if_neg h2]
  refine ⟨fun h => entered .pPrime .prime ?_ rfl, fun h o => entered .gLoad .load ?_ rfl,
    fun h o => entered .gRunup .goTurbine ?_ rfl⟩
  · rw [Seq.grantedState, SeqState.grantedFrom, if_pos h]
  · rw [Seq.grantedState, SeqState.grantedFrom, if_neg (by rw [h]; decide), if_pos o]
  · rw [Seq.grantedState, SeqState.grantedFrom, if_neg (by rw [h]; decide), if_neg o]

/-- The lock after its holder's release: the head of the waiter list holds it (R160). -/
def Lock.passedOn (l : Lock) : Lock := { holder := l.waiters.head?, waiters := l.waiters.tail }

theorem releaseLock_of_holder {u : UnitNo} {e : Ev} (h : (e.s.lockOf u).holder = some u) :
    releaseLock u e = match (e.s.lockOf u).waiters.head? with
      | none => e.map fun s => s.setLock (e.s.unit u).waterway (e.s.lockOf u).passedOn
      | some v => enterTimed v (e.s.seq v).grantedState
          (e.map fun s => s.setLock (e.s.unit u).waterway (e.s.lockOf u).passedOn) := by
  unfold releaseLock
  dsimp only
  rw [State.lockOf] at h ⊢
  rw [if_pos h]
  unfold Lock.passedOn
  cases hl : (e.s.pra.locks.get (e.s.unit u).waterway).waiters with
  | nil => rfl
  | cons v rest => exact grantLock_eq _ _

theorem releaseLock_pra (u : UnitNo) (e : Ev) : (releaseLock u e).s.pra = if (e.s.lockOf u).holder = some u then
    { e.s.pra with locks := e.s.pra.locks.set (e.s.unit u).waterway (e.s.lockOf u).passedOn } else e.s.pra := by
  by_cases h : (e.s.lockOf u).holder = some u
  · rw [releaseLock_of_holder h, if_pos h]
    cases (e.s.lockOf u).waiters.head? with
    | none => rfl
    | some v => exact enterTimed_pra _ _ _
  · rw [releaseLock_of_ne h, if_neg h]

/-- A release leaves every unit that it does not hand the lock to. -/
theorem releaseLock_others {u v : UnitNo} {e : Ev}
    (h : ¬((e.s.lockOf u).holder = some u ∧ (e.s.lockOf u).waiters.head? = some v)) :
    (releaseLock u e).s.seq v = e.s.seq v ∧ (releaseLock u e).s.ramp v = e.s.ramp v ∧
      slotOf (.stage v) (releaseLock u e).s = slotOf (.stage v) e.s := by
  by_cases hl : (e.s.lockOf u).holder = some u
  · rw [releaseLock_of_holder hl]
    cases hw : (e.s.lockOf u).waiters.head? with
    | none => exact ⟨rfl, rfl, rfl⟩
    | some x =>
      have hx : v ≠ x := fun k => h ⟨hl, by rw [hw, k]⟩
      exact ⟨enterTimed_seq_ne _ _ hx, enterTimed_ramp_ne _ _ hx, enterTimed_slotOf _ _ _ (by simpa using hx)⟩
  · rw [releaseLock_of_ne hl]
    exact ⟨rfl, rfl, rfl⟩

/-- A release leaves the setpoint slots and the converter's. -/
theorem releaseLock_slotOf (u : UnitNo) (e : Ev) {k : Slot} (h : ∀ v, k ≠ .stage v) :
    slotOf k (releaseLock u e).s = slotOf k e.s := by
  by_cases hl : (e.s.lockOf u).holder = some u
  · rw [releaseLock_of_holder hl]
    cases (e.s.lockOf u).waiters.head? with
    | none => rfl
    | some x => exact enterTimed_slotOf _ _ _ (h x)
  · rw [releaseLock_of_ne hl]

theorem releaseLock_silent (u : UnitNo) (e : Ev) : Silent e.s (releaseLock u e).s := by
  by_cases hl : (e.s.lockOf u).holder = some u
  · rw [releaseLock_of_holder hl]
    cases (e.s.lockOf u).waiters.head? with
    | none => rfl
    | some x => exact (enterTimed_silent x _ (e.map _) :)
  · rw [releaseLock_of_ne hl]
    rfl

/-- A release hands the lock to the head of the waiter list, whose setpoint stays (R159, R160). -/
theorem releaseLock_handed {u v : UnitNo} {e : Ev} {a : State} (hl : (e.s.lockOf u).holder = some u)
    (hw : (e.s.lockOf u).waiters.head? = some v) (hq : (a.seq v).state.waitsForLock = true)
    (hs : e.s.seq v = a.seq v) (ht : e.s.tbs = a.tbs) (hi : e.s.uib = a.uib) :
    Granted a (releaseLock u e).s v ∧ (releaseLock u e).s.ramp v = e.s.ramp v := by
  rw [releaseLock_of_holder hl, hw]
  dsimp only
  rw [hs]
  refine ⟨enterTimed_granted hq hs ht hi, ?_⟩
  rw [enterTimed_ramp_self, if_neg]
  · rfl
  · show ¬(e.s.seq v).state = .gOn
    rw [hs]
    intro k
    rw [k] at hq
    exact absurd hq (by decide)

-- The end of a grant (R149) -------------------------------------------------------------------------------

/-- The unit holds the converter grant. -/
def HoldsGrant (u : UnitNo) (s : State) : Prop := s.pra.holder = some u ∧ (s.pra.arb = .connecting ∨ s.pra.arb = .inUse)

theorem endGrant_of_holder {u : UnitNo} {e : Ev} (h : HoldsGrant u e.s) : endGrant u e = e.map fun s =>
    setArbiter .releasing ((placeConverter .convRelease s).setPra
      { (placeConverter .convRelease s).pra with holder := none, releaseTmr := some s.tbs.plant.releaseTime }) := if_pos h

theorem endGrant_of_not {u : UnitNo} {e : Ev} (h : ¬HoldsGrant u e.s) : endGrant u e = e := if_neg h

theorem endGrant_seqs (u : UnitNo) (e : Ev) : (endGrant u e).s.seqs = e.s.seqs := by
  unfold endGrant
  split <;> rfl

theorem endGrant_rmp (u : UnitNo) (e : Ev) : (endGrant u e).s.rmp = e.s.rmp := by
  unfold endGrant
  split <;> rfl

theorem endGrant_slotOf (u : UnitNo) (e : Ev) {k : Slot} (h : k ≠ .converter) :
    slotOf k (endGrant u e).s = slotOf k e.s := by
  unfold endGrant
  split
  · exact slotOf_place k .converter _ .convRelease _ h
  · rfl

theorem endGrant_lists (u : UnitNo) (e : Ev) : (endGrant u e).s.pra.locks = e.s.pra.locks ∧
    (endGrant u e).s.pra.startQueue = e.s.pra.startQueue := by
  unfold endGrant
  split <;> exact ⟨rfl, rfl⟩

end Sys2Proof.Machine
end

section
/-! The sequencers' turns on a plan: each operation that a turn can be made of keeps what a turn keeps (`TurnFrame`), and
what the arbiter holds goes on agreeing with the sequencers (R89, R117, R126 to R131, R149, R158 to R161). -/

namespace Sys2Proof.Machine

-- Who holds what ------------------------------------------------------------------------------------------

/-- What the arbiter holds agrees with the sequencers: the part of `ResourcesAgree` that a turn reads and keeps. -/
structure ResourcesHeld (s : State) : Prop where
  queueNodup   : s.pra.startQueue.Nodup
  queueState   : ∀ u ∈ s.pra.startQueue, (s.seq u).state = .pConvwait
  granted      : s.pra.arb.granted = s.pra.holder.isSome
  holderState  : ∀ u, s.pra.holder = some u → (s.seq u).state = .pRunup
  waitersNodup : ∀ w, (s.pra.locks.get w).waiters.Nodup
  waiterState  : ∀ w, ∀ u ∈ (s.pra.locks.get w).waiters, (s.unit u).waterway = w ∧ (s.seq u).state.waitsForLock = true
  lockState    : ∀ w u, (s.pra.locks.get w).holder = some u → (s.unit u).waterway = w ∧ (s.seq u).state.holdsLock = true
  lockTaken    : ∀ w, (s.pra.locks.get w).holder = none → (s.pra.locks.get w).waiters = []

theorem ResourcesAgree.held {s : State} (h : ResourcesAgree s) : ResourcesHeld s :=
  ⟨h.queueNodup, h.queueState, h.granted, h.holderState, h.waitersNodup, h.waiterState, h.lockState, h.lockTaken⟩

section
variable {s : State} {u : UnitNo} (h : ResourcesHeld s)
include h

theorem ResourcesHeld.not_waiter (hs : (s.seq u).state.waitsForLock = false) (w : Waterway) :
    u ∉ (s.pra.locks.get w).waiters := fun hu => by
  have := (h.waiterState w u hu).2
  rw [hs] at this
  cases this

theorem ResourcesHeld.not_lockHolder (hs : (s.seq u).state.holdsLock = false) (w : Waterway) :
    (s.pra.locks.get w).holder ≠ some u := fun hu => by
  have := (h.lockState w u hu).2
  rw [hs] at this
  cases this

theorem ResourcesHeld.not_queued (hs : (s.seq u).state ≠ .pConvwait) : u ∉ s.pra.startQueue := fun hu =>
  hs (h.queueState u hu)

theorem ResourcesHeld.not_holder (hs : (s.seq u).state ≠ .pRunup) : s.pra.holder ≠ some u := fun hu =>
  hs (h.holderState u hu)

/-- A grant that has a holder is one of CONNECTING or IN_USE (R146). -/
theorem ResourcesHeld.holdsGrant (hu : s.pra.holder = some u) : HoldsGrant u s := by
  have hg := h.granted
  rw [hu, ConvState.granted, Option.isSome_some, Bool.or_eq_true, beq_iff_eq, beq_iff_eq] at hg
  exact ⟨hu, hg⟩

end

/-- The states in which a sequencer holds nothing and waits for nothing. -/
def SeqState.holdsNothing (n : SeqState) : Bool := !n.holdsLock && !n.waitsForLock && n != .pConvwait && n != .pRunup

theorem ResourcesHeld.holdsNothing {s : State} {u : UnitNo} (h : ResourcesHeld s)
    (hs : (s.seq u).state.holdsNothing = true) : HoldsNothing u s := by
  simp only [SeqState.holdsNothing, Bool.and_eq_true, Bool.not_eq_true', bne_iff_ne, ne_eq] at hs
  obtain ⟨⟨⟨hl, hw⟩, hq⟩, hg⟩ := hs
  exact ⟨⟨h.not_waiter hw, h.not_queued hq⟩, h.not_lockHolder hl _, h.not_holder hg⟩

theorem holdsNothing_of_stable {n : SeqState} (h : n.stable = true) : n.holdsNothing = true := by
  cases n <;> first | rfl | cases h

-- What a turn leaves --------------------------------------------------------------------------------------

/-- What every operation of a sequencer leaves, as a turn's frame spells it. -/
theorem SeqFrame.turnRest {a b : State} (h : SeqFrame a b) : b = { a with
    lpu := { a.lpu with cmds := b.lpu.cmds }
    seqs := b.seqs
    pra := b.pra
    rmp := { a.rmp with units := b.rmp.units }
    rpb := b.rpb } := by
  obtain ⟨pending, held, lpu, tbs, uib, dse, alc, timer, crossings, -, -, -, -, -, -⟩ := h
  obtain ⟨_, _, bl, _, _, _, _, _, _, ⟨_, _, _⟩, _⟩ := b
  dsimp only at pending held lpu tbs uib dse alc timer crossings ⊢
  subst pending held tbs uib dse alc timer crossings
  rw [← lpu]

/-- A lock after a turn of a unit of its waterway, beside what `TurnFrame` says of it. -/
structure LockSound (l : Lock) (u : UnitNo) (n : SeqState) : Prop where
  nodup : l.waiters.Nodup
  holds : l.holder = some u → n.holdsLock = true
  taken : l.holder = none → l.waiters = []

/-- A waiter that was handed its lock holds it (R159). -/
theorem Granted.holdsLock {a b : State} {v : UnitNo} (g : Granted a b v) (h : (a.seq v).state.waitsForLock = true) :
    (b.seq v).state.holdsLock = true := by
  obtain ⟨pump, air, still⟩ := g
  rw [SeqState.waitsForLock, Bool.or_eq_true, beq_iff_eq, beq_iff_eq] at h
  rcases h with h | h
  · by_cases o : (a.seq v).origin = .air
    · rw [(air h o).1]; rfl
    · rw [(still h o).1]; rfl
  · rw [(pump h).1]; rfl

section
variable {a b : State} {u v : UnitNo} (t : TurnFrame a b u)
include t

/-- A turn leaves the state of another unit to which no lock is passed on. -/
theorem TurnFrame.other (hv : v ≠ u)
    (hn : (a.lockOf u).holder = some u → (b.seq u).state = .stopping → (a.lockOf u).waiters.head? ≠ some v) :
    b.seq v = a.seq v :=
  ((t.others v hv).2.2 fun k => hn k.1 k.2.1 k.2.2).1

theorem TurnFrame.notWaiting (h : ResourcesHeld a) (hv : v ≠ u) (hw : (a.seq v).state.waitsForLock = false) :
    b.seq v = a.seq v :=
  t.other hv fun _ _ hd => by
    have := (h.waiterState _ v (List.mem_of_mem_head? hd)).2
    rw [hw] at this
    cases this

theorem TurnFrame.waterway (x : UnitNo) : (b.unit x).waterway = (a.unit x).waterway := by
  rw [t.rest]
  rfl

end

section
variable {a b : State} {u : UnitNo} (h : ResourcesHeld a) (t : TurnFrame a b u)
include h t

/-- The start queue after a turn of a unit that, if it waited for the converter, goes on waiting or stops. -/
theorem TurnFrame.queueKept (hk : (a.seq u).state = .pConvwait →
      (b.seq u).state = (a.seq u).state ∨ (b.seq u).state = .stopping) :
    b.pra.startQueue.Nodup ∧ ∀ v ∈ b.pra.startQueue, (b.seq v).state = .pConvwait := by
  rw [t.queue]
  refine ⟨?_, fun v hv => ?_⟩
  · split
    · exact h.queueNodup.filter _
    · exact h.queueNodup
  · by_cases hu : v = u
    · subst hu
      split at hv
      · simp at hv
      · next hs =>
        have hc := h.queueState v hv
        exact (hk hc).elim (·.trans hc) fun k => absurd k hs
    · have hc : (a.seq v).state = .pConvwait := by
        split at hv
        · exact h.queueState v (List.mem_filter.mp hv).1
        · exact h.queueState v hv
      rw [t.notWaiting h hu (by rw [hc]; rfl), hc]

/-- The converter grant after a turn of a unit that, if it held the grant, runs up still or stops. -/
theorem TurnFrame.grantKept (hk : (a.seq u).state = .pRunup →
      (b.seq u).state = (a.seq u).state ∨ (b.seq u).state = .stopping) :
    b.pra.arb.granted = b.pra.holder.isSome ∧ ∀ v, b.pra.holder = some v → (b.seq v).state = .pRunup := by
  by_cases hg : a.pra.holder = some u ∧ (b.seq u).state = .stopping
  · obtain ⟨arb, holder, -, -⟩ := t.released hg.1 hg.2
    rw [arb, holder]
    exact ⟨rfl, fun v hv => nomatch hv⟩
  · obtain ⟨arb, holder, -, -⟩ := t.converter (Decidable.not_and_iff_or_not.mp hg)
    rw [arb, holder]
    refine ⟨h.granted, fun v hv => ?_⟩
    have hr := h.holderState v hv
    by_cases hu : v = u
    · subst hu
      exact (hk hr).elim (·.trans hr) fun k => absurd ⟨hv, k⟩ hg
    · rw [t.notWaiting h hu (by rw [hr]; rfl), hr]

omit h in
/-- No unit but the acting one joins the waiter list of its lock. -/
theorem TurnFrame.waiter_of {v : UnitNo} (hv : v ≠ u) (hm : v ∈ (b.pra.locks.get (a.unit u).waterway).waiters) :
    v ∈ (a.lockOf u).waiters := by
  obtain ⟨passed, kept, other, -⟩ := t.lock
  by_cases hu : (a.lockOf u).holder = some u
  · by_cases hs : (b.seq u).state = .stopping
    · rw [passed hu hs] at hm
      exact List.mem_of_mem_tail hm
    · rw [kept hu hs] at hm
      exact hm
  · have : v ∈ ((a.lockOf u).waiters.filter fun v => v != u) := by
      rw [State.lockOf, ← (other hu).2]
      exact List.mem_filter.mpr ⟨hm, by simpa using hv⟩
    exact (List.mem_filter.mp this).1

/-- Who waits after a turn for the lock of the acting unit's waterway is in a lock wait there. -/
theorem TurnFrame.ownWaiters (v : UnitNo) (hv : v ∈ (b.pra.locks.get (a.unit u).waterway).waiters) :
    (a.unit v).waterway = (a.unit u).waterway ∧ (b.seq v).state.waitsForLock = true := by
  obtain ⟨passed, -, -, left⟩ := t.lock
  by_cases hu : v = u
  · subst hu
    refine ⟨rfl, ?_⟩
    by_contra hn
    exact left (Bool.not_eq_true _ ▸ hn) hv
  · have ha := h.waiterState _ v (t.waiter_of hu hv)
    refine ⟨ha.1, ?_⟩
    rw [t.other hu fun hh hs hd => ?_]
    · exact ha.2
    · rw [passed hh hs] at hv
      obtain ⟨rest, hr⟩ := List.head?_eq_some_iff.mp hd
      have hn := h.waitersNodup (a.unit u).waterway
      rw [← State.lockOf, hr] at hn hv
      exact (List.nodup_cons.mp hn).1 hv

/-- Who holds after a turn the lock of the acting unit's waterway is in a state that holds it. -/
theorem TurnFrame.ownHolder (hl : LockSound (b.pra.locks.get (a.unit u).waterway) u (b.seq u).state) (v : UnitNo)
    (hv : (b.pra.locks.get (a.unit u).waterway).holder = some v) :
    (a.unit v).waterway = (a.unit u).waterway ∧ (b.seq v).state.holdsLock = true := by
  obtain ⟨passed, kept, other, -⟩ := t.lock
  by_cases hu : v = u
  · subst hu
    exact ⟨rfl, hl.holds hv⟩
  by_cases hh : (a.lockOf u).holder = some u
  · by_cases hs : (b.seq u).state = .stopping
    · rw [passed hh hs] at hv
      have ha := h.waiterState _ v (List.mem_of_mem_head? hv)
      exact ⟨ha.1, ((t.others v hu).2.1 ⟨hh, hs, hv⟩).holdsLock ha.2⟩
    · rw [kept hh hs, ← State.lockOf, hh] at hv
      exact absurd (Option.some.inj hv).symm hu
  · rcases (other hh).1 with k | ⟨-, k⟩
    · have ha := h.lockState _ v (k ▸ hv)
      exact ⟨ha.1, by rw [t.other hu fun x => absurd x hh]; exact ha.2⟩
    · exact absurd (Option.some.inj (k.symm.trans hv)).symm hu

/-- A turn leaves the units of another waterway, who hold that waterway's lock or wait for it. -/
theorem TurnFrame.elsewhere {v : UnitNo} (hv : (a.unit v).waterway ≠ (a.unit u).waterway) : b.seq v = a.seq v := by
  refine t.other (fun k => hv (by rw [k])) fun _ _ hd => hv ?_
  exact (h.waiterState _ v (List.mem_of_mem_head? hd)).1

end

/-- A turn keeps the agreement of resources and sequencers when its own lock is sound after it, and when a unit on a start
path goes on as it was or stops. -/
theorem ResourcesHeld.turn {a b : State} {u : UnitNo} (h : ResourcesHeld a) (t : TurnFrame a b u)
    (hl : LockSound (b.pra.locks.get (a.unit u).waterway) u (b.seq u).state)
    (hk : (a.seq u).state = .pConvwait ∨ (a.seq u).state = .pRunup →
      (b.seq u).state = (a.seq u).state ∨ (b.seq u).state = .stopping) : ResourcesHeld b := by
  obtain ⟨queueNodup, queueState⟩ := t.queueKept h (hk ∘ .inl)
  obtain ⟨granted, holderState⟩ := t.grantKept h (hk ∘ .inr)
  refine ⟨queueNodup, queueState, granted, holderState, fun w => ?_, fun w v hv => ?_, fun w v hv => ?_, fun w hw => ?_⟩
  all_goals by_cases hu : w = (a.unit u).waterway
  · rw [hu]
    exact hl.nodup
  · rw [t.otherLock w hu]
    exact h.waitersNodup w
  · subst hu
    rw [t.waterway]
    exact t.ownWaiters h v hv
  · rw [t.otherLock w hu] at hv
    obtain ⟨way, state⟩ := h.waiterState w v hv
    rw [t.waterway, t.elsewhere h (by rw [way]; exact hu)]
    exact ⟨way, state⟩
  · subst hu
    rw [t.waterway]
    exact t.ownHolder h hl v hv
  · rw [t.otherLock w hu] at hv
    obtain ⟨way, state⟩ := h.lockState w v hv
    rw [t.waterway, t.elsewhere h (by rw [way]; exact hu)]
    exact ⟨way, state⟩
  · subst hu
    exact hl.taken hw
  · rw [t.otherLock w hu] at hw ⊢
    exact h.lockTaken w hw

end Sys2Proof.Machine
end

section
/-! The operations that a sequencer's turn is made of, each as a turn: staying, lingering, a timed entry, a request for the
lock, a stop, and a return from a lock wait (R117, R118, R125 to R131, R158). -/

namespace Sys2Proof.Machine

theorem SeqFrame.image_eq {a b : State} (h : SeqFrame a b) (u : UnitNo) : b.image u = a.image u := by
  simp only [State.image, h.uib]

theorem SeqFrame.unit_eq {a b : State} (h : SeqFrame a b) (u : UnitNo) : b.unit u = a.unit u := by
  simp only [State.unit, h.tbs]

theorem SeqFrame.profileOf_eq {a b : State} (h : SeqFrame a b) (u : UnitNo) : b.profileOf u = a.profileOf u := by
  simp only [State.profileOf, State.unit, h.tbs]

theorem SeqFrame.entry_eq {a b : State} (h : SeqFrame a b) (u : UnitNo) : b.entry u = a.entry u := by
  simp only [State.entry, h.alc]

/-- An operation of one sequencer as a turn: its frame, the agreement of resources and sequencers, and what the event owes. -/
structure Turned (e f : Ev) (u : UnitNo) : Prop where
  frame  : TurnFrame e.s f.s u
  held   : ResourcesHeld f.s
  trig   : f.trig = e.trig
  due    : f.due = e.due
  settle : f.settle = e.settle

-- Staying and lingering -----------------------------------------------------------------------------------

/-- A turn that at most sets the linger timer. -/
theorem TurnFrame.linger {a : State} (u : UnitNo) (x : Timer) (h : ResourcesHeld a) :
    TurnFrame a (a.setSeq u { a.seq u with linger := x }) u := by
  have own : (a.setSeq u { a.seq u with linger := x }).seq u = { a.seq u with linger := x } := State.setSeq_seq_self _ _ _
  have noLock : (a.seq u).state = .stopping → (a.lockOf u).holder ≠ some u := fun hs =>
    h.not_lockHolder (by rw [hs]; rfl) _
  have noGrant : (a.seq u).state = .stopping → a.pra.holder ≠ some u := fun hs => h.not_holder (by rw [hs]; decide)
  refine ⟨rfl, ?_, fun _ => ?_, ?_, fun v hv => ⟨rfl, ?_, fun _ => ⟨State.setSeq_seq_ne _ _ _ _ hv, rfl⟩⟩, fun _ => rfl, ?_,
    fun _ _ => rfl, ?_, ?_, fun _ => ⟨rfl, rfl, rfl, rfl⟩⟩
  all_goals rw [own]
  · exact ⟨rfl, rfl⟩
  · rfl
  · rw [if_neg fun k => k.2 k.1]
    rfl
  · exact fun k => absurd k.1 (noLock k.2.1)
  · exact ⟨fun k hs => absurd k (noLock hs), fun _ _ => rfl, fun _ => ⟨.inl rfl, rfl⟩, fun hw => h.not_waiter hw _⟩
  · split
    · next hs => exact (filter_ne_of_not_mem (h.not_queued (by rw [hs]; decide))).symm
    · rfl
  · exact fun k hs => absurd k (noGrant hs)

theorem ResourcesHeld.ownLock {a : State} (h : ResourcesHeld a) (u : UnitNo) : LockSound (a.lockOf u) u (a.seq u).state :=
  ⟨h.waitersNodup _, fun k => (h.lockState _ u k).2, h.lockTaken _⟩

theorem Turned.linger (u : UnitNo) (x : Timer) (e : Ev) (h : ResourcesHeld e.s) :
    Turned e (e.setSeq u fun q => { q with linger := x }) u := by
  have state : ((e.setSeq u fun q => { q with linger := x }).s.seq u).state = (e.s.seq u).state :=
    by show ((e.s.setSeq u _).seq u).state = _; rw [State.setSeq_seq_self]
  refine ⟨.linger u x h, h.turn (.linger u x h) ?_ fun _ => .inl state, rfl, rfl, rfl⟩
  rw [state]
  exact h.ownLock u

theorem Turned.refl (u : UnitNo) (e : Ev) (h : ResourcesHeld e.s) : Turned e e u := by
  have k := Turned.linger u (e.s.seq u).linger e h
  have same : e.setSeq u (fun q => { q with linger := (e.s.seq u).linger }) = e := by
    show ({ e with s := { e.s with seqs := e.s.seqs.set u (e.s.seqs.get u) } } : Ev) = e
    rw [PerUnit.set_get]
  rwa [same] at k

-- A timed entry -------------------------------------------------------------------------------------------

theorem enterTimed_entered (u : UnitNo) {n : SeqState} {c : Command} (e : Ev) (hc : n.command = some c) :
    Entered (enterTimed u n e).s u n c ((e.s.profileOf u).timeout n) := by
  have f := enterTimed_frame u n e
  refine ⟨?_, ?_, ?_, ?_⟩
  · rw [enterTimed_seq_self]; rfl
  · rw [enterTimed_seq_self]; rfl
  · rw [enterTimed_seq_self, f.image_eq]; rfl
  · rw [f.unit_eq]
    exact enterTimed_mem u e hc

/-- Entry into a state other than a stable one changes nothing of what the event owes. -/
theorem enterTimed_owes (u : UnitNo) {n : SeqState} (e : Ev) (hn : n.stable = false) : (enterTimed u n e).trig = e.trig ∧
    (enterTimed u n e).due = e.due ∧ (enterTimed u n e).settle = e.settle := by
  have settle : (moveTo u n e).settle = e.settle := by
    show (e.settle || n.stable) = _
    rw [hn, Bool.or_false]
  unfold enterTimed
  dsimp only
  split <;> exact ⟨rfl, rfl, settle⟩

/-- The timed states entered by a unit that holds nothing, and that hold nothing themselves. -/
structure SeqState.TimedFree (n : SeqState) : Prop where
  holds  : n.holdsNothing = true
  runs   : n.stable = false
  stop   : n ≠ .stopping

/-- The setpoint of a unit that has left its state for one other than G_ON (R168). -/
theorem enterTimed_turnRamp (u : UnitNo) {n : SeqState} (e : Ev) (hn : n ≠ .gOn) : (enterTimed u n e).s.ramp u =
    if (e.s.seq u).state = .gOn ∧ ((enterTimed u n e).s.seq u).state ≠ .gOn
      then { setpoint := none, refresh := none, rate := none } else e.s.ramp u := by
  rw [enterTimed_ramp_self]
  refine if_congr ⟨fun h => ⟨h, ?_⟩, And.left⟩ rfl rfl
  rw [enterTimed_seq_self]
  exact hn

theorem TurnFrame.timed {u : UnitNo} {n : SeqState} {e : Ev} (hs : HoldsNothing u e.s) (hn : n.TimedFree)
    (hne : n ≠ (e.s.seq u).state) : TurnFrame e.s (enterTimed u n e).s u := by
  have state : ((enterTimed u n e).s.seq u).state = n := by rw [enterTimed_seq_self]; rfl
  have pra := enterTimed_pra u n e
  refine ⟨(enterTimed_frame u n e).turnRest, ?_, fun k => absurd (state.symm.trans k) hne,
    enterTimed_turnRamp u e fun k => (by rw [k] at hn; exact absurd hn.runs (by decide)),
    fun v hv => ⟨enterTimed_ramp_ne _ _ hv, fun k => absurd k.1 hs.lock,
      fun _ => ⟨enterTimed_seq_ne _ _ hv, enterTimed_slotOf _ _ _ (by simpa using hv)⟩⟩,
    fun v => enterTimed_slotOf _ _ _ (fun k => nomatch k), ?_, fun w _ => by rw [pra], ?_, fun k => absurd k hs.grant,
    fun _ => ⟨by rw [pra], by rw [pra], by rw [pra], enterTimed_slotOf _ _ _ (fun k => nomatch k)⟩⟩
  · rw [enterTimed_seq_self]
    exact ⟨rfl, rfl⟩
  · rw [pra]
    exact ⟨fun k => absurd k hs.lock, fun k => absurd k hs.lock, fun _ => ⟨.inl rfl, rfl⟩, fun _ => hs.waits.1 _⟩
  · rw [pra, state, if_neg hn.stop]

theorem Turned.timed {u : UnitNo} {n : SeqState} {e : Ev} (h : ResourcesHeld e.s) (hn : n.TimedFree)
    (hne : n ≠ (e.s.seq u).state) (hx : (e.s.seq u).state.holdsNothing = true) : Turned e (enterTimed u n e) u := by
  have hs := h.holdsNothing hx
  have t := TurnFrame.timed hs hn hne
  obtain ⟨trig, due, settle⟩ := enterTimed_owes u e hn.runs
  refine ⟨t, h.turn t ?_ fun k => ?_, trig, due, settle⟩
  · rw [enterTimed_pra]
    exact ⟨h.waitersNodup _, fun k => absurd k hs.lock, h.lockTaken _⟩
  · rcases k with k | k <;> rw [k] at hx <;> exact absurd hx (by decide)

-- Asking for the lock (R119, R121, R124, R158) --------------------------------------------------------------

theorem timeout_of_wait (p : Profile) {n : SeqState} (h : n.waitsForLock = true) : p.timeout n = p.tLockwait := by
  cases n <;> first | rfl | cases h

theorem stable_of_wait {n : SeqState} (h : n.waitsForLock = true) : n.stable = false := by
  cases n <;> first | rfl | cases h

theorem stable_of_holdsLock {n : SeqState} (h : n.holdsLock = true) : n.stable = false := by
  cases n <;> first | rfl | cases h

theorem wait_of_holdsLock {n : SeqState} (h : n.holdsLock = true) : n.waitsForLock = false := by
  cases n <;> first | rfl | cases h

/-- A free lock taken. -/
def Lock.takenBy (l : Lock) (u : UnitNo) : Lock := { l with holder := some u }

/-- A lock with a unit at the tail of its waiter list. -/
def Lock.joinedBy (l : Lock) (u : UnitNo) : Lock := { l with waiters := l.waiters ++ [u] }

/-- The event in which the sequencer has entered its lock wait, the lock not yet asked for. -/
def Ev.waiting (u : UnitNo) (n : SeqState) (o : Origin) (e : Ev) : Ev :=
  (enterTimed u n e).setSeq u fun q => { q with origin := o }

section
variable {u : UnitNo} {n : SeqState} {e : Ev} (o : Origin)

theorem waiting_frame : SeqFrame e.s (e.waiting u n o).s := (enterTimed_frame u n e).trans (evSetSeq_frame u _ _ rfl)

theorem waiting_pra : (e.waiting u n o).s.pra = e.s.pra := enterTimed_pra u n e

theorem waiting_seq_self : (e.waiting u n o).s.seq u =
    { (e.s.seq u).timedIn n (e.s.image u).stage ((e.s.profileOf u).timeout n) with origin := o } := by
  show ((enterTimed u n e).s.setSeq u _).seq u = _
  rw [State.setSeq_seq_self, enterTimed_seq_self]

theorem waiting_seq_ne {v : UnitNo} (hv : v ≠ u) : (e.waiting u n o).s.seq v = e.s.seq v := by
  show ((enterTimed u n e).s.setSeq u _).seq v = _
  rw [State.setSeq_seq_ne _ _ _ _ hv, enterTimed_seq_ne _ _ hv]

theorem waiting_lock : (e.waiting u n o).s.pra.locks.get ((e.waiting u n o).s.unit u).waterway = e.s.lockOf u := by
  rw [waiting_pra, (waiting_frame o).unit_eq]
  rfl

/-- The lock is free: the sequencer goes on at once, the lock its own. -/
theorem enterLockwait_free (hl : (e.s.lockOf u).holder = none) : enterLockwait u n o e =
    enterTimed u ((e.waiting u n o).s.seq u).grantedState ((e.waiting u n o).map fun s =>
      s.setLock (e.s.unit u).waterway ((e.s.lockOf u).takenBy u)) := by
  show requestLock u (e.waiting u n o) = _
  unfold requestLock
  dsimp only
  rw [waiting_lock, hl, (waiting_frame o).unit_eq]
  exact grantLock_eq _ _

/-- The lock is held: the unit joins the waiter list. -/
theorem enterLockwait_held (hl : (e.s.lockOf u).holder ≠ none) : enterLockwait u n o e =
    (e.waiting u n o).map fun s =>
      s.setLock (e.s.unit u).waterway ((e.s.lockOf u).joinedBy u) := by
  show requestLock u (e.waiting u n o) = _
  unfold requestLock
  dsimp only
  rw [waiting_lock, (waiting_frame o).unit_eq]
  split
  · next h => exact absurd h hl
  · rfl

end

theorem grantedFrom_holdsLock (n : SeqState) (o : Origin) : (n.grantedFrom o).holdsLock = true := by
  unfold SeqState.grantedFrom
  split
  · rfl
  · split <;> rfl

section
variable {u : UnitNo} {n : SeqState} {e : Ev} (o : Origin)

theorem enterLockwait_free_pra (hl : (e.s.lockOf u).holder = none) : (enterLockwait u n o e).s.pra =
    { e.s.pra with locks := e.s.pra.locks.set (e.s.unit u).waterway ((e.s.lockOf u).takenBy u) } := by
  rw [enterLockwait_free o hl, enterTimed_pra]
  show ({ (e.waiting u n o).s.pra with locks := (e.waiting u n o).s.pra.locks.set _ _ } : Pra) = _
  rw [waiting_pra]

theorem enterLockwait_held_pra (hl : (e.s.lockOf u).holder ≠ none) : (enterLockwait u n o e).s.pra =
    { e.s.pra with locks := e.s.pra.locks.set (e.s.unit u).waterway ((e.s.lockOf u).joinedBy u) } := by
  rw [enterLockwait_held o hl]
  show ({ (e.waiting u n o).s.pra with locks := (e.waiting u n o).s.pra.locks.set _ _ } : Pra) = _
  rw [waiting_pra]

theorem waiting_granted : ((e.waiting u n o).s.seq u).grantedState = n.grantedFrom o := by
  rw [waiting_seq_self]
  rfl

/-- A free lock's request ends in the state to which its grant leads (R159). -/
theorem enterLockwait_entered {c : Command} (hl : (e.s.lockOf u).holder = none) (hc : (n.grantedFrom o).command = some c) :
    Entered (enterLockwait u n o e).s u (n.grantedFrom o) c ((e.s.profileOf u).timeout (n.grantedFrom o)) := by
  have k := enterTimed_entered u ((e.waiting u n o).map fun s =>
    s.setLock (e.s.unit u).waterway ((e.s.lockOf u).takenBy u)) hc
  rw [enterLockwait_free o hl, waiting_granted]
  have prof : ((e.waiting u n o).map fun s =>
      s.setLock (e.s.unit u).waterway ((e.s.lockOf u).takenBy u)).s.profileOf u = e.s.profileOf u :=
    (waiting_frame o).profileOf_eq u
  rwa [prof] at k

/-- What a request for the lock comes to (R119, R121, R124, R158). -/
theorem enterLockwait_asked {c : Command} {next : SeqState} {time : Nat} (hn : n.waitsForLock = true)
    (hs : HoldsNothing u e.s) (hg : n.grantedFrom o = next) (hc : next.command = some c)
    (ht : (e.s.profileOf u).timeout next = time) : AskedLock e.s (enterLockwait u n o e).s u n next o c time := by
  subst hg ht
  refine ⟨fun hl => ⟨enterLockwait_entered o hl hc, ?_⟩, fun hl => ?_⟩
  · rw [enterLockwait_free_pra o hl]
    exact congrArg Lock.holder (PerWaterway.get_set_self _ _ _)
  · rw [enterLockwait_held_pra o hl, PerWaterway.get_set_self, filter_ne_of_not_mem (hs.waits.1 _)]
    have seq : (enterLockwait u n o e).s.seq u = (e.waiting u n o).s.seq u := by rw [enterLockwait_held o hl]; rfl
    rw [seq, waiting_seq_self]
    exact ⟨rfl, congrArg some (timeout_of_wait _ hn), rfl, rfl⟩

/-- The state in which a request ends. -/
theorem enterLockwait_seq_self : ∃ q : Seq, (enterLockwait u n o e).s.seq u = q ∧
    q.minStill = (e.s.seq u).minStill ∧ q.pendLockout = (e.s.seq u).pendLockout ∧
    q.state = if (e.s.lockOf u).holder = none then n.grantedFrom o else n := by
  by_cases hl : (e.s.lockOf u).holder = none
  · have seq : ((e.waiting u n o).map fun s =>
        s.setLock (e.s.unit u).waterway ((e.s.lockOf u).takenBy u)).s.seq u = (e.waiting u n o).s.seq u := rfl
    refine ⟨_, rfl, ?_⟩
    rw [enterLockwait_free o hl, enterTimed_seq_self, seq, waiting_seq_self, if_pos hl]
    exact ⟨rfl, rfl, rfl⟩
  · refine ⟨_, rfl, ?_⟩
    have seq : (enterLockwait u n o e).s.seq u = (e.waiting u n o).s.seq u := by rw [enterLockwait_held o hl]; rfl
    rw [seq, waiting_seq_self, if_neg hl]
    exact ⟨rfl, rfl, rfl⟩

theorem waiting_slotOf {k : Slot} (hk : k ≠ .stage u) : slotOf k (e.waiting u n o).s = slotOf k e.s :=
  enterTimed_slotOf u n e hk

/-- A request leaves the other units, the setpoint slots and the converter's; its own setpoint as the entry does. -/
theorem enterLockwait_others (hn : n ≠ .gOn) :
    (∀ v, v ≠ u → (enterLockwait u n o e).s.seq v = e.s.seq v ∧ (enterLockwait u n o e).s.ramp v = e.s.ramp v) ∧
      (enterLockwait u n o e).s.ramp u = (if (e.s.seq u).state = .gOn then .idle else e.s.ramp u) ∧
      ∀ k, k ≠ .stage u → slotOf k (enterLockwait u n o e).s = slotOf k e.s := by
  by_cases hl : (e.s.lockOf u).holder = none
  · rw [enterLockwait_free o hl]
    refine ⟨fun v hv => ⟨?_, ?_⟩, ?_, fun k hk => ?_⟩
    · exact (enterTimed_seq_ne _ _ hv).trans (waiting_seq_ne o hv)
    · exact (enterTimed_ramp_ne _ _ hv).trans (enterTimed_ramp_ne _ _ hv)
    · rw [enterTimed_ramp_self, if_neg]
      · exact enterTimed_ramp_self _ _ _
      · show ¬((e.waiting u n o).s.seq u).state = .gOn
        rw [waiting_seq_self]
        exact hn
    · exact (enterTimed_slotOf _ _ _ hk).trans (waiting_slotOf o hk)
  · rw [enterLockwait_held o hl]
    exact ⟨fun v hv => ⟨waiting_seq_ne o hv, enterTimed_ramp_ne _ _ hv⟩, enterTimed_ramp_self _ _ _,
      fun k hk => waiting_slotOf o hk⟩

theorem enterLockwait_owes (hn : n.waitsForLock = true) : (enterLockwait u n o e).trig = e.trig ∧
    (enterLockwait u n o e).due = e.due ∧ (enterLockwait u n o e).settle = e.settle := by
  obtain ⟨trig, due, settle⟩ := enterTimed_owes u e (stable_of_wait hn)
  by_cases hl : (e.s.lockOf u).holder = none
  · rw [enterLockwait_free o hl]
    obtain ⟨trig', due', settle'⟩ := enterTimed_owes u ((e.waiting u n o).map fun s =>
      s.setLock (e.s.unit u).waterway ((e.s.lockOf u).takenBy u))
      (stable_of_holdsLock (grantedFrom_holdsLock n o))
    rw [waiting_granted]
    exact ⟨trig'.trans trig, due'.trans due, settle'.trans settle⟩
  · rw [enterLockwait_held o hl]
    exact ⟨trig, due, settle⟩

theorem enterLockwait_silent : Silent e.s (enterLockwait u n o e).s := by
  by_cases hl : (e.s.lockOf u).holder = none
  · rw [enterLockwait_free o hl]
    exact (enterTimed_silent u n e).trans (enterTimed_silent u _ ((e.waiting u n o).map _) :)
  · rw [enterLockwait_held o hl]
    exact enterTimed_silent u n e

/-- Asking for the lock is a turn of a sequencer in a stable state. -/
theorem Turned.ask (h : ResourcesHeld e.s) (hx : (e.s.seq u).state.stable = true) (hn : n.waitsForLock = true) :
    Turned e (enterLockwait u n o e) u := by
  have hs := h.holdsNothing (holdsNothing_of_stable hx)
  obtain ⟨others, ramp, slots⟩ := enterLockwait_others (u := u) (e := e) o (n := n) (by rintro rfl; cases hn)
  obtain ⟨q, hq, still, lockout, state⟩ := enterLockwait_seq_self (u := u) (e := e) o (n := n)
  have stays : q.state.stable = false := by
    rw [state]
    split
    · exact stable_of_holdsLock (grantedFrom_holdsLock n o)
    · exact stable_of_wait hn
  have stop : q.state ≠ .stopping := by
    rw [state]
    split
    · unfold SeqState.grantedFrom
      split
      · decide
      · split <;> decide
    · rintro rfl; cases hn
  have queue : (enterLockwait u n o e).s.pra = { e.s.pra with locks := (enterLockwait u n o e).s.pra.locks } := by
    by_cases hl : (e.s.lockOf u).holder = none
    · rw [enterLockwait_free_pra o hl]
    · rw [enterLockwait_held_pra o hl]
  have t : TurnFrame e.s (enterLockwait u n o e).s u := by
    refine ⟨(enterLockwait_frame u n o e).turnRest, by rw [hq]; exact ⟨still, lockout⟩, fun k => ?_, ?_, fun v hv =>
      ⟨(others v hv).2, fun k => absurd k.1 hs.lock, fun _ => ⟨(others v hv).1, slots _ (by simpa using hv)⟩⟩,
      fun v => slots _ (fun k => nomatch k), ?_, fun w hw => ?_, ?_, fun k => absurd k hs.grant,
      fun _ => ⟨by rw [queue], by rw [queue], by rw [queue], slots _ (fun k => nomatch k)⟩⟩
    · rw [hq] at k
      rw [← k, stays] at hx
      cases hx
    · rw [ramp, hq]
      refine if_congr ⟨fun k => ⟨k, fun j => ?_⟩, And.left⟩ rfl rfl
      rw [j] at stays
      cases stays
    · refine ⟨fun k => absurd k hs.lock, fun k => absurd k hs.lock, fun _ => ?_, fun hw => ?_⟩
      all_goals by_cases hl : (e.s.lockOf u).holder = none
      · rw [enterLockwait_free_pra o hl, PerWaterway.get_set_self]
        exact ⟨.inr ⟨hl, rfl⟩, rfl⟩
      · rw [enterLockwait_held_pra o hl, PerWaterway.get_set_self]
        exact ⟨.inl rfl, by simp [State.lockOf, Lock.joinedBy]⟩
      · rw [enterLockwait_free_pra o hl, PerWaterway.get_set_self]
        exact hs.waits.1 _
      · rw [hq, state, if_neg hl, hn] at hw
        cases hw
    · by_cases hl : (e.s.lockOf u).holder = none
      · rw [enterLockwait_free_pra o hl]
        exact PerWaterway.get_set_ne _ _ _ _ hw
      · rw [enterLockwait_held_pra o hl]
        exact PerWaterway.get_set_ne _ _ _ _ hw
    · rw [hq, if_neg stop, queue]
  obtain ⟨trig, due, settle⟩ := enterLockwait_owes (u := u) (e := e) o hn
  refine ⟨t, h.turn t ?_ fun k => ?_, trig, due, settle⟩
  · rw [hq]
    by_cases hl : (e.s.lockOf u).holder = none
    · rw [enterLockwait_free_pra o hl, PerWaterway.get_set_self, state, if_pos hl]
      exact ⟨h.waitersNodup _, fun _ => grantedFrom_holdsLock n o, fun k => nomatch k⟩
    · rw [enterLockwait_held_pra o hl, PerWaterway.get_set_self]
      exact ⟨List.nodup_append.mpr ⟨h.waitersNodup _, List.nodup_singleton u, fun a ha b hb => by
        rw [List.mem_singleton.mp hb]; rintro rfl; exact hs.waits.1 _ ha⟩, fun k => absurd k hs.lock, fun k => absurd k hl⟩
  · rcases k with k | k <;> rw [k] at hx <;> cases hx

end

end Sys2Proof.Machine
end

section
/-! A stop of any unit as a turn: STOPPING entered, waits left, the lock passed on, the converter grant released (R125, R149,
R156, R160, R161). -/

namespace Sys2Proof.Machine

/-- The event in which the sequencer has entered STOPPING, with nothing given up yet. -/
def Ev.stopping (u : UnitNo) (e : Ev) : Ev :=
  (enterTimed u .stopping e).setSeq u fun q => { q with minRun := none, linger := none }

/-- The record of a sequencer that has entered STOPPING. -/
def Seq.stopped (q : Seq) (stage : Option Stage) (time : Nat) : Seq :=
  { q.timedIn .stopping stage time with minRun := none, linger := none }

/-- A lock whose waiter list the unit has left. -/
def Lock.leftBy (l : Lock) (u : UnitNo) : Lock := { l with waiters := l.waiters.filter fun v => v != u }

section
variable (u : UnitNo) (e : Ev)

theorem stopping_frame : SeqFrame e.s (e.stopping u).s := (enterTimed_frame _ _ _).trans (evSetSeq_frame u _ _ rfl)

theorem stopping_pra : (e.stopping u).s.pra = e.s.pra := enterTimed_pra _ _ _

theorem stopping_seq_self :
    (e.stopping u).s.seq u = (e.s.seq u).stopped (e.s.image u).stage (e.s.profileOf u).tStop := by
  show ((enterTimed u .stopping e).s.setSeq u _).seq u = _
  rw [State.setSeq_seq_self, enterTimed_seq_self]
  rfl

theorem stopping_seq_ne {v : UnitNo} (hv : v ≠ u) : (e.stopping u).s.seq v = e.s.seq v := by
  show ((enterTimed u .stopping e).s.setSeq u _).seq v = _
  rw [State.setSeq_seq_ne _ _ _ _ hv, enterTimed_seq_ne _ _ hv]

theorem stopping_slotOf {k : Slot} (hk : k ≠ .stage u) : slotOf k (e.stopping u).s = slotOf k e.s :=
  enterTimed_slotOf u .stopping e hk

theorem stopping_mem : { slot := .stage u, dest := (e.s.unit u).addr, cmd := .stop } ∈ (e.stopping u).s.lpu.cmds :=
  enterTimed_mem u e rfl

/-- The waits left: the arbiter's lists change and nothing else (R156, R161). -/
theorem leaveWaits_s : (leaveWaits u e).s = e.s.setPra { e.s.pra with
    locks := e.s.pra.locks.set (e.s.unit u).waterway ((e.s.lockOf u).leftBy u)
    startQueue := e.s.pra.startQueue.filter fun v => v != u } := rfl

end

theorem leaveWaits_seq (u v : UnitNo) (e : Ev) : (leaveWaits u e).s.seq v = e.s.seq v := rfl

theorem leaveWaits_ramp (u v : UnitNo) (e : Ev) : (leaveWaits u e).s.ramp v = e.s.ramp v := rfl

theorem leaveWaits_slotOf (u : UnitNo) (e : Ev) (k : Slot) : slotOf k (leaveWaits u e).s = slotOf k e.s := rfl

section
variable {u : UnitNo} {e : Ev} (h : ResourcesHeld e.s)
include h

/-- A lock's holder does not wait for it, and leaves its waiter list as it was. -/
theorem ResourcesHeld.leftBy_holder (hl : (e.s.lockOf u).holder = some u) : (e.s.lockOf u).leftBy u = e.s.lockOf u := by
  have hn : u ∉ (e.s.lockOf u).waiters := h.not_waiter (wait_of_holdsLock (h.lockState _ u hl).2) _
  show ({ e.s.lockOf u with waiters := _ } : Lock) = _
  rw [filter_ne_of_not_mem hn]

end

/-- The lock of a unit's waterway once the unit has stopped. -/
def Lock.givenUpBy (l : Lock) (u : UnitNo) : Lock := if l.holder = some u then l.passedOn else l.leftBy u

section
variable (u : UnitNo) (e : Ev)

/-- The event of a stop at which the lock is released. -/
def Ev.leaving : Ev := leaveWaits u (e.stopping u)

theorem leaving_frame : SeqFrame e.s (e.leaving u).s := (stopping_frame u e).trans (leaveWaits_frame u _)

theorem leaving_lockOf : ((e.leaving u).s.lockOf u) = (e.s.lockOf u).leftBy u := by
  show (e.leaving u).s.pra.locks.get ((e.leaving u).s.unit u).waterway = _
  rw [(leaving_frame u e).unit_eq]
  show (PerWaterway.set _ ((e.stopping u).s.unit u).waterway _).get _ = _
  rw [(stopping_frame u e).unit_eq, PerWaterway.get_set_self]
  rw [stopping_pra]
  rfl

theorem leaving_seq (v : UnitNo) : (e.leaving u).s.seq v = (e.stopping u).s.seq v := by
  unfold Ev.leaving
  exact leaveWaits_seq _ _ _

theorem leaving_ramp (v : UnitNo) : (e.leaving u).s.ramp v = (enterTimed u .stopping e).s.ramp v := by
  unfold Ev.leaving
  rw [leaveWaits_ramp]
  rfl

theorem leaving_slotOf (k : Slot) : slotOf k (e.leaving u).s = slotOf k (e.stopping u).s := by
  unfold Ev.leaving
  exact leaveWaits_slotOf _ _ _

theorem enterStopping_eq : enterStopping u e = endGrant u (releaseLock u (e.leaving u)) := rfl

theorem leaving_pra : (e.leaving u).s.pra = { e.s.pra with
    locks := e.s.pra.locks.set (e.s.unit u).waterway ((e.s.lockOf u).leftBy u)
    startQueue := e.s.pra.startQueue.filter fun v => v != u } := by
  show (leaveWaits u (e.stopping u)).s.pra = _
  rw [leaveWaits_s, State.setPra_pra, State.lockOf, (stopping_frame u e).unit_eq, stopping_pra]
  rfl

theorem enterStopping_startQueue :
    (enterStopping u e).s.pra.startQueue = e.s.pra.startQueue.filter fun v => v != u := by
  rw [enterStopping_eq, (endGrant_lists u _).2, releaseLock_pra, leaving_pra]
  split <;> rfl

theorem PerWaterway.set_set {α : Type} (t : PerWaterway α) (w : Waterway) (a b : α) :
    (t.set w a).set w b = t.set w b := by
  cases w <;> rfl

theorem enterStopping_locks (h : ResourcesHeld e.s) :
    (enterStopping u e).s.pra.locks = e.s.pra.locks.set (e.s.unit u).waterway ((e.s.lockOf u).givenUpBy u) := by
  rw [enterStopping_eq, (endGrant_lists u _).1, releaseLock_pra, leaving_lockOf, (leaving_frame u e).unit_eq,
    leaving_pra, Lock.givenUpBy]
  by_cases hl : (e.s.lockOf u).holder = some u
  · rw [h.leftBy_holder hl, if_pos hl, if_pos hl]
    exact PerWaterway.set_set _ _ _ _
  · rw [if_neg hl, if_neg (show ¬((e.s.lockOf u).leftBy u).holder = some u from hl)]

/-- The unit to which the stop passes the lock on is the head of the waiter list, if the unit held it. -/
theorem leaving_handed (h : ResourcesHeld e.s) (v : UnitNo) :
    ((e.leaving u).s.lockOf u).holder = some u ∧ ((e.leaving u).s.lockOf u).waiters.head? = some v ↔
      (e.s.lockOf u).holder = some u ∧ (e.s.lockOf u).waiters.head? = some v := by
  rw [leaving_lockOf]
  by_cases hl : (e.s.lockOf u).holder = some u
  · rw [h.leftBy_holder hl]
  · exact ⟨fun k => absurd k.1 hl, fun k => absurd k.1 hl⟩

theorem not_handed_self (h : ResourcesHeld e.s) :
    ¬((e.s.lockOf u).holder = some u ∧ (e.s.lockOf u).waiters.head? = some u) := fun ⟨hl, hd⟩ =>
  h.not_waiter (wait_of_holdsLock (h.lockState _ u hl).2) _ (List.mem_of_mem_head? hd)

theorem endGrant_seq (v : UnitNo) : (endGrant u e).s.seq v = e.s.seq v := by
  simp only [State.seq, endGrant_seqs]

theorem endGrant_ramp (v : UnitNo) : (endGrant u e).s.ramp v = e.s.ramp v := by
  simp only [State.ramp, endGrant_rmp]

/-- A stopped unit's record (R118, R125). -/
theorem enterStopping_seq_self (h : ResourcesHeld e.s) :
    (enterStopping u e).s.seq u = (e.s.seq u).stopped (e.s.image u).stage (e.s.profileOf u).tStop := by
  rw [enterStopping_eq, endGrant_seq]
  rw [(releaseLock_others ((leaving_handed u e h u).not.mpr (not_handed_self u e h))).1, leaving_seq]
  exact stopping_seq_self u e

theorem enterStopping_ramp_self (h : ResourcesHeld e.s) :
    (enterStopping u e).s.ramp u = if (e.s.seq u).state = .gOn then .idle else e.s.ramp u := by
  rw [enterStopping_eq, endGrant_ramp]
  rw [(releaseLock_others ((leaving_handed u e h u).not.mpr (not_handed_self u e h))).2.1, leaving_ramp]
  exact enterTimed_ramp_self u .stopping e

theorem enterStopping_slotOf {k : Slot} (hk : ∀ v, k ≠ .stage v) (hc : k ≠ .converter) :
    slotOf k (enterStopping u e).s = slotOf k e.s := by
  rw [enterStopping_eq, endGrant_slotOf u _ hc, releaseLock_slotOf u _ hk, leaving_slotOf]
  exact stopping_slotOf u e (hk u)

/-- STOP waits to be sent. -/
theorem enterStopping_mem (h : ResourcesHeld e.s) :
    { slot := .stage u, dest := (e.s.unit u).addr, cmd := .stop } ∈ (enterStopping u e).s.lpu.cmds := by
  rw [enterStopping_eq]
  refine mem_cmds_of_slotOf (endGrant_slotOf u _ (fun k => nomatch k)) (mem_cmds_of_slotOf ?_ (stopping_mem u e))
  exact (releaseLock_others ((leaving_handed u e h u).not.mpr (not_handed_self u e h))).2.2.trans
    (leaving_slotOf u e _)

/-- What a stop leaves of another unit: all, unless it is passed the lock, and then its setpoint (R160). -/
theorem enterStopping_others (h : ResourcesHeld e.s) {v : UnitNo} (hv : v ≠ u) :
    (enterStopping u e).s.ramp v = e.s.ramp v ∧
      ((e.s.lockOf u).holder = some u ∧ (e.s.lockOf u).waiters.head? = some v → Granted e.s (enterStopping u e).s v) ∧
      (¬((e.s.lockOf u).holder = some u ∧ (e.s.lockOf u).waiters.head? = some v) →
        (enterStopping u e).s.seq v = e.s.seq v ∧ slotOf (.stage v) (enterStopping u e).s = slotOf (.stage v) e.s) := by
  have ramp : (e.leaving u).s.ramp v = e.s.ramp v := by rw [leaving_ramp, enterTimed_ramp_ne _ _ hv]
  have seq : (e.leaving u).s.seq v = e.s.seq v := by rw [leaving_seq, stopping_seq_ne u e hv]
  have apart : Slot.stage v ≠ .stage u := fun k => hv (Slot.stage.inj k)
  have slot : slotOf (.stage v) (e.leaving u).s = slotOf (.stage v) e.s := by
    rw [leaving_slotOf]
    exact stopping_slotOf u e apart
  have frame := leaving_frame u e
  rw [enterStopping_eq, endGrant_ramp, endGrant_seq, endGrant_slotOf u _ (k := .stage v) (fun k => nomatch k)]
  by_cases hd : (e.s.lockOf u).holder = some u ∧ (e.s.lockOf u).waiters.head? = some v
  · obtain ⟨holder, head⟩ := (leaving_handed u e h v).mpr hd
    have waits := (h.waiterState _ v (List.mem_of_mem_head? hd.2)).2
    obtain ⟨g, r⟩ := releaseLock_handed (e := e.leaving u) (a := e.s) holder head waits seq frame.tbs frame.uib
    refine ⟨r.trans ramp, fun _ => ?_, fun k => absurd hd k⟩
    obtain ⟨pump, air, still⟩ := g
    have keep : ∀ w : Waiting, w.slot = .stage v → w ∈ (releaseLock u (e.leaving u)).s.lpu.cmds →
        w ∈ (endGrant u (releaseLock u (e.leaving u))).s.lpu.cmds := fun w hw hm =>
      mem_cmds_of_slotOf (endGrant_slotOf u _ (by rw [hw]; exact fun k => nomatch k)) hm
    refine ⟨fun x => ?_, fun x y => ?_, fun x y => ?_⟩ <;> rw [endGrant_seq]
    · exact ⟨(pump x).1, keep _ rfl (pump x).2⟩
    · exact ⟨(air x y).1, keep _ rfl (air x y).2⟩
    · exact ⟨(still x y).1, keep _ rfl (still x y).2⟩
  · obtain ⟨a, b, c⟩ := releaseLock_others ((leaving_handed u e h v).not.mpr hd)
    exact ⟨b.trans ramp, fun k => absurd k hd, fun _ => ⟨a.trans seq, c.trans slot⟩⟩

/-- The arbiter at the release of the lock is the one before the stop. -/
theorem released_arbiter : (releaseLock u (e.leaving u)).s.pra.arb = e.s.pra.arb ∧
    (releaseLock u (e.leaving u)).s.pra.holder = e.s.pra.holder ∧
    (releaseLock u (e.leaving u)).s.pra.releaseTmr = e.s.pra.releaseTmr := by
  rw [releaseLock_pra, leaving_pra]
  split <;> exact ⟨rfl, rfl, rfl⟩

/-- A stopped grant holder's grant is released (R149). -/
theorem enterStopping_released (h : ResourcesHeld e.s) (hg : e.s.pra.holder = some u) :
    (enterStopping u e).s.pra.arb = .releasing ∧ (enterStopping u e).s.pra.holder = none ∧
      (enterStopping u e).s.pra.releaseTmr = some e.s.tbs.plant.releaseTime ∧
      { slot := .converter, dest := e.s.tbs.plant.convAddr, cmd := .convRelease } ∈ (enterStopping u e).s.lpu.cmds := by
  obtain ⟨arb, holder, -⟩ := released_arbiter u e
  have grant : HoldsGrant u (releaseLock u (e.leaving u)).s := by
    unfold HoldsGrant
    rw [arb, holder]
    exact h.holdsGrant hg
  have tbs : (releaseLock u (e.leaving u)).s.tbs = e.s.tbs :=
    (releaseLock_frame u (e.leaving u)).tbs.trans (leaving_frame u e).tbs
  rw [enterStopping_eq, endGrant_of_holder grant, ← tbs]
  exact ⟨rfl, rfl, rfl, mem_placeIn_self _ _⟩

theorem enterStopping_kept (hg : e.s.pra.holder ≠ some u) :
    (enterStopping u e).s.pra.arb = e.s.pra.arb ∧ (enterStopping u e).s.pra.holder = e.s.pra.holder ∧
      (enterStopping u e).s.pra.releaseTmr = e.s.pra.releaseTmr ∧
      slotOf .converter (enterStopping u e).s = slotOf .converter e.s := by
  obtain ⟨arb, holder, time⟩ := released_arbiter u e
  have grant : ¬HoldsGrant u (releaseLock u (e.leaving u)).s := fun k => hg (holder ▸ k.1)
  rw [enterStopping_eq, endGrant_of_not grant]
  exact ⟨arb, holder, time, ((releaseLock_slotOf u _ (k := .converter) (fun _ k => nomatch k)).trans
    (leaving_slotOf u e _)).trans (stopping_slotOf u e (fun k => nomatch k))⟩

theorem enterStopping_silent : Silent e.s (enterStopping u e).s := by
  rw [enterStopping_eq]
  have left : Silent e.s (e.leaving u).s := (enterTimed_silent u .stopping e).trans (.of_eq rfl)
  exact (left.trans (releaseLock_silent u (e.leaving u))).trans (endGrant_silent u _)

end

theorem releaseLock_owes (u : UnitNo) (e : Ev) : (releaseLock u e).trig = e.trig ∧ (releaseLock u e).due = e.due ∧
    (releaseLock u e).settle = e.settle := by
  by_cases hl : (e.s.lockOf u).holder = some u
  · rw [releaseLock_of_holder hl]
    cases (e.s.lockOf u).waiters.head? with
    | none => exact ⟨rfl, rfl, rfl⟩
    | some v => exact enterTimed_owes v _ (stable_of_holdsLock (grantedState_holdsLock _))
  · rw [releaseLock_of_ne hl]
    exact ⟨rfl, rfl, rfl⟩

theorem endGrant_owes (u : UnitNo) (e : Ev) : (endGrant u e).trig = e.trig ∧ (endGrant u e).due = e.due ∧
    (endGrant u e).settle = e.settle := by
  unfold endGrant
  split <;> exact ⟨rfl, rfl, rfl⟩

theorem enterStopping_owes (u : UnitNo) (e : Ev) : (enterStopping u e).trig = e.trig ∧ (enterStopping u e).due = e.due ∧
    (enterStopping u e).settle = e.settle := by
  obtain ⟨t1, d1, s1⟩ := enterTimed_owes u e (n := .stopping) rfl
  obtain ⟨t2, d2, s2⟩ := releaseLock_owes u (e.leaving u)
  obtain ⟨t3, d3, s3⟩ := endGrant_owes u (releaseLock u (e.leaving u))
  exact ⟨(t3.trans t2).trans t1, (d3.trans d2).trans d1, (s3.trans s2).trans s1⟩

/-- A stop is a turn of any sequencer that is not STOPPING already. -/
theorem TurnFrame.stop {u : UnitNo} {e : Ev} (h : ResourcesHeld e.s) (hx : (e.s.seq u).state ≠ .stopping) :
    TurnFrame e.s (enterStopping u e).s u := by
  have seq := enterStopping_seq_self u e h
  have state : ((enterStopping u e).s.seq u).state = .stopping := by rw [seq]; rfl
  have locks := enterStopping_locks u e h
  refine ⟨(enterStopping_frame u e).turnRest, by rw [seq]; exact ⟨rfl, rfl⟩, fun k => absurd (k.symm.trans state) hx, ?_,
    fun v hv => ?_, fun v => enterStopping_slotOf u e (fun _ k => nomatch k) (fun k => nomatch k), ?_, fun w hw => ?_, ?_,
    fun k _ => enterStopping_released u e h k, fun k => enterStopping_kept u e (k.resolve_right (not_not.mpr state))⟩
  · rw [enterStopping_ramp_self u e h, state]
    exact if_congr ⟨fun k => ⟨k, by decide⟩, And.left⟩ rfl rfl
  · obtain ⟨ramp, handed, kept⟩ := enterStopping_others u e h hv
    exact ⟨ramp, fun k => handed ⟨k.1, k.2.2⟩, fun k => kept fun j => k ⟨j.1, state, j.2⟩⟩
  · rw [locks, PerWaterway.get_set_self, Lock.givenUpBy]
    refine ⟨fun k _ => if_pos k, fun _ k => absurd state k, fun k => ?_, fun _ => ?_⟩
    · rw [if_neg (show ¬(e.s.lockOf u).holder = some u from k)]
      exact ⟨.inl rfl, by rw [Lock.leftBy, List.filter_filter]; simp [State.lockOf]⟩
    · split
      · next k =>
        exact fun m => h.not_waiter (wait_of_holdsLock (h.lockState _ u k).2) _ (List.mem_of_mem_tail m)
      · simp [Lock.leftBy]
  · rw [locks]
    exact PerWaterway.get_set_ne _ _ _ _ hw
  · rw [state, if_pos rfl]
    exact enterStopping_startQueue u e

theorem Turned.stop {u : UnitNo} {e : Ev} (h : ResourcesHeld e.s) (hx : (e.s.seq u).state ≠ .stopping) :
    Turned e (enterStopping u e) u := by
  have t := TurnFrame.stop h hx
  obtain ⟨trig, due, settle⟩ := enterStopping_owes u e
  have seq := enterStopping_seq_self u e h
  refine ⟨t, h.turn t ?_ fun _ => .inr (by rw [seq]; rfl), trig, due, settle⟩
  rw [enterStopping_locks u e h, PerWaterway.get_set_self, Lock.givenUpBy]
  split
  · next k =>
    have hn := h.not_waiter (wait_of_holdsLock (h.lockState _ u k).2) (e.s.unit u).waterway
    refine ⟨(h.waitersNodup _).tail, fun k => absurd (List.mem_of_mem_head? k) hn, fun k => ?_⟩
    show (e.s.lockOf u).waiters.tail = []
    rw [List.head?_eq_none_iff.mp k]
    rfl
  · next k =>
    refine ⟨(h.waitersNodup _).filter _, fun j => absurd j k, fun j => ?_⟩
    show (e.s.lockOf u).waiters.filter _ = []
    rw [State.lockOf, h.lockTaken _ j]
    rfl

/-- A stop ends in STOPPING with everything given up (R125). -/
theorem enterStopping_stopped {u : UnitNo} {e : Ev} (h : ResourcesHeld e.s) : Stopped (enterStopping u e).s u := by
  have f := enterStopping_frame u e
  have seq := enterStopping_seq_self u e h
  refine ⟨⟨by rw [seq]; rfl, by rw [seq, f.profileOf_eq]; rfl, by rw [seq, f.image_eq]; rfl, ?_⟩, by rw [seq]; rfl,
    by rw [seq]; rfl,
    ?_, ?_, fun w => ?_⟩
  · rw [f.unit_eq]
    exact enterStopping_mem u e h
  · by_cases hg : e.s.pra.holder = some u
    · rw [(enterStopping_released u e h hg).2.1]
      exact fun k => nomatch k
    · rw [(enterStopping_kept u e hg).2.1]
      exact hg
  · rw [enterStopping_startQueue]
    simp
  · rw [enterStopping_locks u e h]
    by_cases hw : w = (e.s.unit u).waterway
    · subst hw
      rw [PerWaterway.get_set_self, Lock.givenUpBy]
      split
      · next k =>
        have hn := h.not_waiter (wait_of_holdsLock (h.lockState _ u k).2) (e.s.unit u).waterway
        exact ⟨fun k => hn (List.mem_of_mem_head? k), fun k => hn (List.mem_of_mem_tail k)⟩
      · next k => exact ⟨k, by simp [Lock.leftBy]⟩
    · rw [PerWaterway.get_set_ne _ _ _ _ hw]
      exact ⟨fun k => hw (h.lockState w u k).1.symm, fun k => hw (h.waiterState w u k).1.symm⟩

end Sys2Proof.Machine
end

section
/-! Acting on the planned mode: from a stable state by its table, from a start path by going on, returning or abandoning; and
the sequencers' turns on a plan, one after another (R89, R117, R126 to R131). -/

namespace Sys2Proof.Machine

-- From a stable state (R128 to R131) ----------------------------------------------------------------------

/-- The planned modes on which a sequencer in a stable state asks for its waterway's lock (R128, R130). -/
def SeqState.asks : SeqState → PlanMode → Bool
  | .still, .gen => true
  | .still, .genAir => true
  | .gAir, .gen => true
  | .pAir, .pump => true
  | _, _ => false

/-- What a sequencer in a stable state may do on its planned mode. -/
inductive StableAct (u : UnitNo) (e : Ev) : Ev → Prop
  | stay : StableAct u e e
  | linger (x : Timer) : StableAct u e (e.setSeq u fun q => { q with linger := x })
  | timed (n : SeqState) : n.TimedFree → StableAct u e (enterTimed u n e)
  | ask (n : SeqState) (o : Origin) : n.waitsForLock = true → (e.s.seq u).state.asks (e.s.entry u).mode = true →
      StableAct u e (enterLockwait u n o e)
  | stop : StableAct u e (enterStopping u e)

theorem timedFree_gUnload : SeqState.TimedFree .gUnload := ⟨rfl, rfl, by decide⟩

theorem timedFree_pUnload : SeqState.TimedFree .pUnload := ⟨rfl, rfl, by decide⟩

theorem timedFree_pDewater : SeqState.TimedFree .pDewater := ⟨rfl, rfl, by decide⟩

section
variable (u : UnitNo) (e : Ev)

/-- One of two acts is one of the acts. -/
theorem StableAct.ite {c : Bool} {f g : Ev} (hf : StableAct u e f) (hg : StableAct u e g) :
    StableAct u e (if c then f else g) := by
  cases c
  · exact hg
  · exact hf

theorem lingerOrStop_stableAct : StableAct u e (lingerOrStop u e) := .ite u e (.linger _) .stop

theorem actStable_stableAct : StableAct u e (actStable u e) := by
  have turbine (ha : (e.s.seq u).state.asks (e.s.entry u).mode = true) :
      StableAct u e (if freeToStart u e.s then enterLockwait u .gLockwait .still e else e) :=
    .ite u e (.ask _ _ rfl ha) .stay
  have pump : StableAct u e (if freeToStart u e.s then enterTimed u .pDewater e else e) :=
    .ite u e (.timed _ timedFree_pDewater) .stay
  have gUnload : StableAct u e (if mayLinger u e.s then enterTimed u .gUnload e else enterStopping u e) :=
    .ite u e (.timed _ timedFree_gUnload) .stop
  have pUnload : StableAct u e (if mayLinger u e.s then enterTimed u .pUnload e else enterStopping u e) :=
    .ite u e (.timed _ timedFree_pUnload) .stop
  have air := lingerOrStop_stableAct u e
  unfold actStable Ev.state
  split
  all_goals first
    | assumption
    | exact .stay
    | exact .stop
    | exact .linger none
    | exact .timed _ timedFree_gUnload
    | exact .timed _ timedFree_pUnload
    | exact turbine (by simp only [SeqState.asks, *])
    | exact .ask _ _ rfl (by simp only [SeqState.asks, *])

end

section
variable {u : UnitNo} {e f : Ev}

theorem StableAct.turned (k : StableAct u e f) (h : ResourcesHeld e.s) (hx : (e.s.seq u).state.stable = true) :
    Turned e f u := by
  cases k with
  | stay => exact .refl u e h
  | linger x => exact .linger u x e h
  | timed n hn => exact .timed h hn (fun k => by rw [← k, hn.runs] at hx; cases hx) (holdsNothing_of_stable hx)
  | ask n o hn _ => exact .ask o h hx hn
  | stop => exact .stop h fun k => by rw [k] at hx; cases hx

theorem StableAct.silent (k : StableAct u e f) : Silent e.s f.s := by
  cases k with
  | stay => exact .refl _
  | linger x => exact .of_eq rfl
  | timed n hn => exact enterTimed_silent _ _ _
  | ask n o hn _ => exact enterLockwait_silent o
  | stop => exact enterStopping_silent u e

end

/-- A STILL sequencer is free to start, as R128 says it. -/
theorem freeToStart_iff (u : UnitNo) (s : State) : freeToStart u s = true ↔
    (∀ k, (s.seq u).minStill = some k → k = 0) ∧ (s.image u).perm.lockout.val = false ∧ (s.seq u).pendLockout = false := by
  unfold freeToStart
  cases h : (s.seq u).minStill <;> simp [Timer.running, and_assoc, Nat.pos_iff_ne_zero]

/-- A unit may be kept spinning in air, as R129 and R131 say it. -/
theorem mayLinger_iff (u : UnitNo) (s : State) : mayLinger u s = true ↔
    0 < (s.unit u).linger ∧ (s.image u).perm.air.val = true ∧ (s.image u).perm.lockout.val = false ∧
      (s.seq u).pendLockout = false ∧ (s.entry u).forcedOut = false := by
  unfold mayLinger
  simp [and_assoc]

/-- What acting from the stable state `x` comes to, in the state `t` (R128 to R131). -/
def ActsFrom (u : UnitNo) (e : Ev) (x : SeqState) (t : State) : Prop :=
  ActedFrom e.s t u x (e.s.entry u) (e.s.image u) (e.s.seq u).minStill (e.s.seq u).pendLockout

section
variable {u : UnitNo} {e : Ev} (h : ResourcesHeld e.s)
include h

/-- A start of a STILL turbine, if it is free to start (R128). -/
theorem start_turbine (hs : (e.s.seq u).state = .still) :
    let t := (if freeToStart u e.s then enterLockwait u .gLockwait .still e else e).s
    let free := (∀ k, (e.s.seq u).minStill = some k → k = 0) ∧ (e.s.image u).perm.lockout.val = false ∧
      (e.s.seq u).pendLockout = false
    (free → AskedLock e.s t u .gLockwait .gRunup .still .goTurbine (e.s.profileOf u).tRunup) ∧
      (¬free → (t.seq u).state = .still) := by
  dsimp only
  have nothing := h.holdsNothing (u := u) (by rw [hs]; rfl)
  rw [← freeToStart_iff]
  exact ⟨fun k => by rw [if_pos k]; exact enterLockwait_asked .still rfl nothing rfl rfl rfl,
    fun k => by rw [if_neg k]; exact hs⟩

omit h in
/-- A start of a STILL pump, if it is free to start (R128). -/
theorem start_pump (hs : (e.s.seq u).state = .still) :
    let t := (if freeToStart u e.s then enterTimed u .pDewater e else e).s
    let free := (∀ k, (e.s.seq u).minStill = some k → k = 0) ∧ (e.s.image u).perm.lockout.val = false ∧
      (e.s.seq u).pendLockout = false
    (free → Entered t u .pDewater .dewater (e.s.profileOf u).tDewater) ∧ (¬free → (t.seq u).state = .still) := by
  dsimp only
  rw [← freeToStart_iff]
  exact ⟨fun k => by rw [if_pos k]; exact enterTimed_entered u e rfl, fun k => by rw [if_neg k]; exact hs⟩

/-- An unloading into air where the unit may linger there, a stop where it may not (R129). -/
theorem unload_or_stop {n : SeqState} {c : Command} (hc : n.command = some c) :
    let t := (if mayLinger u e.s then enterTimed u n e else enterStopping u e).s
    let lingers := 0 < (e.s.unit u).linger ∧ (e.s.image u).perm.air.val = true ∧ (e.s.image u).perm.lockout.val = false ∧
      (e.s.seq u).pendLockout = false ∧ (e.s.entry u).forcedOut = false
    (lingers → Entered t u n c ((e.s.profileOf u).timeout n)) ∧ (¬lingers → Stopped t u) := by
  dsimp only
  rw [← mayLinger_iff]
  exact ⟨fun k => by rw [if_pos k]; exact enterTimed_entered u e hc,
    fun k => by rw [if_neg k]; exact enterStopping_stopped h⟩

/-- Lingering in air where the unit may, a stop where it may not (R131). -/
theorem lingerOrStop_acted {x : SeqState} (hs : (e.s.seq u).state = x) :
    let t := (lingerOrStop u e).s
    let lingers := 0 < (e.s.unit u).linger ∧ (e.s.image u).perm.air.val = true ∧ (e.s.image u).perm.lockout.val = false ∧
      (e.s.seq u).pendLockout = false ∧ (e.s.entry u).forcedOut = false
    (lingers → (t.seq u).state = x ∧ (t.seq u).linger = some (e.s.unit u).linger) ∧ (¬lingers → Stopped t u) := by
  dsimp only
  rw [← mayLinger_iff]
  unfold lingerOrStop
  refine ⟨fun k => ?_, fun k => by rw [if_neg k]; exact enterStopping_stopped h⟩
  rw [if_pos k]
  have seq : (e.setSeq u fun q => { q with linger := some (e.s.unit u).linger }).s.seq u =
      { e.s.seq u with linger := some (e.s.unit u).linger } := State.setSeq_seq_self _ _ _
  rw [seq]
  exact ⟨hs, rfl⟩

omit h in
theorem stopLinger_acted {x : SeqState} (hs : (e.s.seq u).state = x) :
    ((stopLinger u e).s.seq u).state = x ∧ ((stopLinger u e).s.seq u).linger = none := by
  have seq : (stopLinger u e).s.seq u = { e.s.seq u with linger := none } := State.setSeq_seq_self _ _ _
  rw [seq]
  exact ⟨hs, rfl⟩

theorem actStable_still (hs : (e.s.seq u).state = .still) : ActsFrom u e .still (actStable u e).s := by
  unfold ActsFrom ActedFrom actStable Ev.state
  rw [hs]
  cases (e.s.entry u).mode with
  | still => exact hs
  | gen => exact start_turbine h hs
  | genAir => exact start_turbine h hs
  | pump => exact start_pump hs
  | pumpAir => exact start_pump hs

theorem actStable_gOn (hs : (e.s.seq u).state = .gOn) : ActsFrom u e .gOn (actStable u e).s := by
  unfold ActsFrom ActedFrom actStable Ev.state
  rw [hs]
  cases (e.s.entry u).mode with
  | still => exact unload_or_stop h rfl
  | gen => exact hs
  | genAir => exact enterTimed_entered u e rfl
  | pump => exact enterStopping_stopped h
  | pumpAir => exact enterStopping_stopped h

theorem actStable_pOn (hs : (e.s.seq u).state = .pOn) : ActsFrom u e .pOn (actStable u e).s := by
  unfold ActsFrom ActedFrom actStable Ev.state
  rw [hs]
  cases (e.s.entry u).mode with
  | still => exact unload_or_stop h rfl
  | gen => exact enterStopping_stopped h
  | genAir => exact enterStopping_stopped h
  | pump => exact hs
  | pumpAir => exact enterTimed_entered u e rfl

theorem actStable_gAir (hs : (e.s.seq u).state = .gAir) : ActsFrom u e .gAir (actStable u e).s := by
  unfold ActsFrom ActedFrom actStable Ev.state
  rw [hs]
  cases (e.s.entry u).mode with
  | still => exact lingerOrStop_acted h hs
  | gen => exact enterLockwait_asked .air rfl (h.holdsNothing (by rw [hs]; rfl)) rfl rfl rfl
  | genAir => exact stopLinger_acted hs
  | pump => exact enterStopping_stopped h
  | pumpAir => exact enterStopping_stopped h

theorem actStable_pAir (hs : (e.s.seq u).state = .pAir) : ActsFrom u e .pAir (actStable u e).s := by
  unfold ActsFrom ActedFrom actStable Ev.state
  rw [hs]
  cases (e.s.entry u).mode with
  | still => exact lingerOrStop_acted h hs
  | gen => exact enterStopping_stopped h
  | genAir => exact enterStopping_stopped h
  | pump => exact enterLockwait_asked .air rfl (h.holdsNothing (by rw [hs]; rfl)) rfl rfl rfl
  | pumpAir => exact stopLinger_acted hs

/-- A sequencer in a stable state acts as its table says (R128 to R131). -/
theorem actStable_acts (hx : (e.s.seq u).state.stable = true) : ActsFrom u e (e.s.seq u).state (actStable u e).s := by
  cases hs : (e.s.seq u).state with
  | still => exact actStable_still h hs
  | gOn => exact actStable_gOn h hs
  | gAir => exact actStable_gAir h hs
  | pAir => exact actStable_pAir h hs
  | pOn => exact actStable_pOn h hs
  | _ => rw [hs] at hx; cases hx

end

end Sys2Proof.Machine
end

section
/-! A sequencer acting in a turn: reports made, a lock wait that returns to its origin and acts there, a start abandoned; then
the turns on a plan in ascending unit number and the settling check (R89, R117, R126, R127, R131). -/

namespace Sys2Proof.Machine

-- Reports of a turn ---------------------------------------------------------------------------------------

/-- Of the Report Block these reports were made, and at most PLANT_ALERT_N changed beside them. -/
def Reports (l : List Report) (a b : State) : Prop :=
  b.rpb = { (l.foldl State.reported a).rpb with alertLow := b.rpb.alertLow }

theorem Silent.reports {a b : State} (h : Silent a b) : Reports [] a b := h

theorem Reports.silent {l : List Report} {a b c : State} (h : Reports l a b) (k : Silent b c) : Reports l a c := by
  unfold Reports Silent at *
  rw [k, h]

/-- A report made after a silent change is the report made before it. -/
theorem Silent.pushReport {a x : State} (h : Silent a x) (hu : x.lpu.upTx = a.lpu.upTx) (r : Report) :
    Reports [r] a (pushReport r x) := by
  unfold Silent at h
  rw [pushReport_eq_reported]
  show (x.reported r).rpb = { (a.reported r).rpb with alertLow := (x.reported r).rpb.alertLow }
  unfold State.reported
  rw [show x.rpb.queue = a.rpb.queue by rw [h]]
  split
  · show ({ x.rpb with queue := _ } : Rpb) = _
    rw [h]
  · show ({ x.rpb with flags := _, again := _ } : Rpb) = _
    simp only [State.withFlag]
    rw [hu, h]

/-- The reports of a state change, of a unit whose image the change has left. -/
theorem Silent.pushUnitState {a x : State} (h : Silent a x) (f : SeqFrame a x) (u : UnitNo) (n m : SeqState) (c : Cause) :
    Reports [.unitState u n m c (a.image u).stage (a.image u).fault] a (pushUnitState u n m c x) := by
  have k := h.pushReport (by rw [f.lpu]) (.unitState u n m c (a.image u).stage (a.image u).fault)
  unfold Machine.pushUnitState
  rw [f.image_eq]
  exact k

/-- A turn that changed its sequencer's state may add to the Report Block. -/
theorem TurnFrame.withReport {a b : State} {u : UnitNo} (t : TurnFrame a b u) (h : (b.seq u).state ≠ (a.seq u).state)
    (r : Report) : TurnFrame a (pushReport r b) u := by
  have same : pushReport r b = { b with rpb := (pushReport r b).rpb } := by
    unfold pushReport
    split <;> rfl
  rw [same]
  generalize (pushReport r b).rpb = x
  have rest := t.rest
  refine ⟨?_, t.own, fun k => absurd k h, t.ramp, fun v hv => ?_, t.setpoints, t.lock, t.otherLock, t.queue, t.released,
    t.converter⟩
  · rw [rest]
  · exact t.others v hv

theorem ResourcesHeld.withReport {b : State} (h : ResourcesHeld b) (r : Report) : ResourcesHeld (pushReport r b) := by
  have same : pushReport r b = { b with rpb := (pushReport r b).rpb } := by
    unfold pushReport
    split <;> rfl
  rw [same]
  exact ⟨h.queueNodup, h.queueState, h.granted, h.holderState, h.waitersNodup, h.waiterState, h.lockState, h.lockTaken⟩

theorem pushReport_seq (r : Report) (s : State) (u : UnitNo) : (pushReport r s).seq u = s.seq u := by
  simp only [State.seq, pushReport_seqs]

theorem Stopped.withReport {t : State} {u : UnitNo} (h : Stopped t u) (r : Report) : Stopped (pushReport r t) u := by
  have same : pushReport r t = { t with rpb := (pushReport r t).rpb } := by
    unfold pushReport
    split <;> rfl
  rw [same]
  exact h

-- A start abandoned (R126) --------------------------------------------------------------------------------

theorem Turned.stopWithReport {u : UnitNo} {e : Ev} (c : Cause) (h : ResourcesHeld e.s)
    (hx : (e.s.seq u).state ≠ .stopping) : Turned e (stopWithReport u c e) u := by
  have k := Turned.stop h hx
  have state : ((enterStopping u e).s.seq u).state ≠ (e.s.seq u).state := by
    rw [enterStopping_seq_self u e h]
    exact fun j => hx j.symm
  exact ⟨k.frame.withReport state _, k.held.withReport _, k.trig, k.due, k.settle⟩

section
variable {s : State} {u : UnitNo} (h : ResourcesHeld s) (hw : (s.seq u).state.waitsForLock = true)
include h hw

theorem ResourcesHeld.wait_lock : (s.lockOf u).holder ≠ some u :=
  h.not_lockHolder (by cases hs : (s.seq u).state <;> first | rfl | (rw [hs] at hw; cases hw)) _

theorem ResourcesHeld.wait_grant : s.pra.holder ≠ some u := h.not_holder fun k => by rw [k] at hw; cases hw

theorem ResourcesHeld.wait_queue : (s.pra.startQueue.filter fun v => v != u) = s.pra.startQueue :=
  filter_ne_of_not_mem (h.not_queued fun k => by rw [k] at hw; cases hw)

end

-- A return to the origin (R127) ---------------------------------------------------------------------------

/-- The event of a return before its report: the waits left, the origin entered. -/
def Ev.returned (u : UnitNo) (e : Ev) : Ev :=
  moveTo u (returnState (e.s.seq u).state (e.s.seq u).origin) (leaveWaits u e)

theorem returnToOrigin_eq (u : UnitNo) (c : Cause) (e : Ev) : returnToOrigin u c e = (e.returned u).map
    (pushUnitState u (e.s.seq u).state (returnState (e.s.seq u).state (e.s.seq u).origin) c) := rfl

/-- The states to which a lock wait returns (R127). -/
theorem returnState_cases (n : SeqState) (o : Origin) :
    returnState n o = .still ∨ returnState n o = .gAir ∨ returnState n o = .pAir := by
  unfold returnState
  split
  · exact .inr (.inr rfl)
  · exact .inr (.inl rfl)
  · exact .inl rfl

theorem returnState_stable (n : SeqState) (o : Origin) : (returnState n o).stable = true := by
  rcases returnState_cases n o with h | h | h <;> rw [h] <;> rfl

theorem wait_of_stable {n : SeqState} (h : n.stable = true) : n.waitsForLock = false := by
  cases n <;> first | rfl | cases h

theorem rotating_of_stable {n : SeqState} (h : n.stable = true) : n.rotating = false := by
  cases n <;> first | rfl | cases h

/-- The origin as the statements write it. -/
theorem returnState_eq (n : SeqState) (o : Origin) :
    returnState n o = if n = .pLockwait then .pAir else if o = .air then .gAir else .still := by
  unfold returnState
  split
  · rw [if_pos rfl]
  · next h => rw [if_neg h, if_pos rfl]
  · next h k => rw [if_neg h, if_neg k]

/-- A wait that does not go on would not ask for the lock again from its origin (R127, R128). -/
theorem asks_returnState {n : SeqState} {o : Origin} {m : PlanMode} (hn : n.waitsForLock = true)
    (hc : continues n o m = false) : (returnState n o).asks m = false := by
  cases n with
  | gLockwait => cases o <;> cases m <;> first | rfl | cases hc
  | pLockwait => cases m <;> first | rfl | cases hc
  | _ => cases hn

section
variable {u : UnitNo} {e : Ev}

theorem returned_frame : SeqFrame e.s (e.returned u).s := (leaveWaits_frame u e).trans (moveTo_frame u _ _)

theorem returned_silent : Silent e.s (e.returned u).s :=
  (Silent.of_eq (a := e.s) (b := (leaveWaits u e).s) rfl).trans (moveTo_silent u _ _)

theorem returned_pra : (e.returned u).s.pra = { e.s.pra with
    locks := e.s.pra.locks.set (e.s.unit u).waterway ((e.s.lockOf u).leftBy u)
    startQueue := e.s.pra.startQueue.filter fun v => v != u } := moveTo_pra _ _ _

theorem returned_seqs : (e.returned u).s.seqs =
    e.s.seqs.set u ((e.s.seq u).leaveFor (returnState (e.s.seq u).state (e.s.seq u).origin)) := moveTo_seqs _ _ _

theorem returned_seq_self : (e.returned u).s.seq u =
    (e.s.seq u).leaveFor (returnState (e.s.seq u).state (e.s.seq u).origin) := by
  rw [State.seq, returned_seqs]
  exact PerUnit.get_set_self _ _ _

theorem returned_seq_ne {v : UnitNo} (hv : v ≠ u) : (e.returned u).s.seq v = e.s.seq v := by
  rw [State.seq, returned_seqs]
  exact PerUnit.get_set_ne _ _ _ _ hv

theorem returned_cmds : (e.returned u).s.lpu.cmds = e.s.lpu.cmds := moveTo_cmds _ _ _

variable (h : ResourcesHeld e.s) (hw : (e.s.seq u).state.waitsForLock = true)
include hw

theorem returned_units : (e.returned u).s.rmp.units = e.s.rmp.units := by
  have hn : (e.s.seq u).state ≠ .gOn := fun k => by rw [k] at hw; cases hw
  exact (moveTo_units u _ _).trans (if_neg hn)

include h

/-- A return is a turn (R127). -/
theorem TurnFrame.returned : TurnFrame e.s (e.returned u).s u := by
  have stable := returnState_stable (e.s.seq u).state (e.s.seq u).origin
  have seq := returned_seq_self (u := u) (e := e)
  have state : ((e.returned u).s.seq u).state = returnState (e.s.seq u).state (e.s.seq u).origin := by rw [seq]; rfl
  have hl := h.wait_lock hw
  have slots : ∀ k, slotOf k (e.returned u).s = slotOf k e.s := fun k => by
    unfold slotOf
    rw [returned_cmds]
  have units := returned_units hw
  refine ⟨returned_frame.turnRest, by rw [seq]; exact ⟨rfl, rfl⟩, fun k => ?_, ?_, fun v hv => ⟨?_, fun k => absurd k.1 hl,
    fun _ => ⟨returned_seq_ne hv, slots _⟩⟩, fun v => slots _, ?_, fun w hw' => ?_, ?_,
    fun k => absurd k (h.wait_grant hw), fun _ => ⟨by rw [returned_pra], by rw [returned_pra], by rw [returned_pra],
      slots _⟩⟩
  · rw [← k, state, wait_of_stable stable] at hw
    cases hw
  · rw [if_neg fun k => by rw [k.1] at hw; cases hw]
    simp only [State.ramp, units]
  · simp only [State.ramp, units]
  · rw [returned_pra, PerWaterway.get_set_self]
    exact ⟨fun k => absurd k hl, fun k => absurd k hl, fun _ => ⟨.inl rfl, by simp [Lock.leftBy, State.lockOf]⟩,
      fun _ => by simp [Lock.leftBy]⟩
  · rw [returned_pra]
    exact PerWaterway.get_set_ne _ _ _ _ hw'
  · rw [returned_pra, if_neg fun k => by rw [← state, k] at stable; cases stable]
    exact h.wait_queue hw

theorem ResourcesHeld.returned : ResourcesHeld (e.returned u).s := by
  refine h.turn (TurnFrame.returned h hw) ?_ fun k => ?_
  · rw [returned_pra, PerWaterway.get_set_self]
    refine ⟨(h.waitersNodup _).filter _, fun k => absurd k (h.wait_lock hw), fun k => ?_⟩
    show (e.s.lockOf u).waiters.filter _ = []
    rw [State.lockOf, h.lockTaken _ k]
    rfl
  · rcases k with k | k <;> rw [k] at hw <;> cases hw

end

/-- A return and the act that follows it make one turn, when the act does not end in a lock wait again. -/
theorem TurnFrame.afterReturn {a x b : State} {u : UnitNo} (h : ResourcesHeld a) (hw : (a.seq u).state.waitsForLock = true)
    (k : ResourcesHeld x) (hx : (x.seq u).state.stable = true) (hon : (x.seq u).state ≠ .gOn) (t : TurnFrame a x u)
    (r : TurnFrame x b u) (f : SeqFrame a b) (hb : (b.seq u).state ≠ (a.seq u).state) : TurnFrame a b u := by
  have holds := k.holdsNothing (holdsNothing_of_stable hx)
  have unit : x.unit u = a.unit u := by rw [t.rest]; rfl
  have off : (a.seq u).state ≠ .gOn := fun j => by rw [j] at hw; cases hw
  have running : (x.seq u).state ≠ .stopping := fun j => by rw [j] at hx; cases hx
  have hl := h.wait_lock hw
  have hxl : (x.pra.locks.get (a.unit u).waterway).holder ≠ some u := unit ▸ holds.lock
  obtain ⟨-, -, lock1, -⟩ := t.lock
  obtain ⟨-, -, lock2, left⟩ := r.lock
  rw [unit] at lock2 left
  refine ⟨f.turnRest, ⟨r.own.1.trans t.own.1, r.own.2.trans t.own.2⟩, fun j => absurd j hb, ?_, fun v hv => ?_,
    fun v => (r.setpoints v).trans (t.setpoints v), ⟨fun j => absurd j hl, fun j => absurd j hl, fun _ => ?_, left⟩,
    fun w hw' => (r.otherLock w (unit ▸ hw')).trans (t.otherLock w hw'), ?_, fun j => absurd j (h.wait_grant hw),
      fun _ => ?_⟩
  · have later : b.ramp u = x.ramp u := r.ramp.trans (if_neg fun j => hon j.1)
    have first : x.ramp u = a.ramp u := t.ramp.trans (if_neg fun j => off j.1)
    exact (later.trans first).trans (if_neg fun j => off j.1).symm
  · obtain ⟨ramp1, -, keep1⟩ := t.others v hv
    obtain ⟨ramp2, -, keep2⟩ := r.others v hv
    obtain ⟨seq1, slot1⟩ := keep1 fun j => hl j.1
    obtain ⟨seq2, slot2⟩ := keep2 fun j => holds.lock j.1
    exact ⟨ramp2.trans ramp1, fun j => absurd j.1 hl, fun _ => ⟨seq2.trans seq1, slot2.trans slot1⟩⟩
  · obtain ⟨holder1, list1⟩ := lock1 hl
    obtain ⟨holder2, list2⟩ := lock2 hxl
    refine ⟨?_, list2.trans list1⟩
    have same := holder1.resolve_right fun j => hxl j.2
    rw [same] at holder2
    exact holder2
  · rw [r.queue, t.queue.trans (if_neg running)]
  · obtain ⟨arb1, holder1, time1, slot1⟩ := t.converter (.inl (h.wait_grant hw))
    obtain ⟨arb2, holder2, time2, slot2⟩ := r.converter (.inl holds.grant)
    exact ⟨arb2.trans arb1, holder2.trans holder1, time2.trans time1, slot2.trans slot1⟩

/-- The table of acts reads a state's tables, and the lock of the unit's waterway without the unit's own wait. -/
theorem ActedFrom.congr {a x t : State} {u : UnitNo} {n : SeqState} {e : Entry} {i : Image} {m : Timer} {p : Bool}
    (h : ActedFrom x t u n e i m p) (ht : x.tbs = a.tbs) (hh : (x.lockOf u).holder = (a.lockOf u).holder)
    (hf : ((x.lockOf u).waiters.filter fun v => v != u) = (a.lockOf u).waiters.filter fun v => v != u) :
    ActedFrom a t u n e i m p := by
  have unit : x.unit u = a.unit u := by simp only [State.unit, ht]
  have prof : x.profileOf u = a.profileOf u := by simp only [State.profileOf, State.unit, ht]
  have asked : ∀ wait next o cmd time, AskedLock x t u wait next o cmd time = AskedLock a t u wait next o cmd time := by
    intro wait next o cmd time
    unfold AskedLock
    simp only [State.lockOf] at hh hf
    rw [unit] at hh hf
    simp only [unit, hh, hf, prof]
  unfold ActedFrom at h ⊢
  simp only [asked, unit, prof] at h
  exact h

-- Acting (R117, R126, R127) -------------------------------------------------------------------------------

theorem rotating_iff (n : SeqState) : n.rotating = true ↔ Starting n := by
  cases n <;> simp [SeqState.rotating, Starting]

theorem waitsForLock_iff (n : SeqState) : n.waitsForLock = true ↔ n = .gLockwait ∨ n = .pLockwait := by
  simp [SeqState.waitsForLock]

/-- A sequencer's act as a turn: what it comes to, the agreement of resources, and what the event owes. -/
structure ActTurn (e f : Ev) (u : UnitNo) : Prop where
  turn   : SequencerTurn e.s f.s u
  held   : ResourcesHeld f.s
  due    : f.due = e.due
  settle : f.settle = true ↔ e.settle = true ∨ Returns (e.s.seq u) (e.s.entry u).mode

section
variable {u : UnitNo} {e : Ev} (h : ResourcesHeld e.s)
include h

theorem act_of_stable (hx : (e.s.seq u).state.stable = true) : ActTurn e (act u e) u := by
  have eq : act u e = actStable u e := if_pos hx
  have shape := actStable_stableAct u e
  have turned := shape.turned h hx
  have waits : ¬Returns (e.s.seq u) (e.s.entry u).mode := fun k => by
    have := (waitsForLock_iff _).mpr k.1
    rw [wait_of_stable hx] at this
    cases this
  rw [eq]
  refine ⟨⟨turned.frame, fun _ => ⟨actStable_acts h hx, shape.silent.reports⟩, fun k => absurd k waits, fun k => ?_,
    fun k => ?_⟩,
    turned.held, turned.due, ?_⟩
  · rw [← rotating_iff] at k
    rw [rotating_of_stable hx] at k
    cases k
  · rw [hx] at k
    cases k
  · rw [turned.settle]
    exact ⟨.inl, fun k => k.resolve_right waits⟩

/-- A sequencer that goes on, or is neither waiting nor starting, does nothing (R117, R126). -/
theorem act_of_idle (hx : (e.s.seq u).state.stable = false) (hr : ¬Returns (e.s.seq u) (e.s.entry u).mode)
    (hs : ¬(Starting (e.s.seq u).state ∧ ¬GoesOn (e.s.seq u) (e.s.entry u).mode)) : ActTurn e (act u e) u := by
  have eq : act u e = e := by
    unfold act Ev.state
    dsimp only
    rw [if_neg (by rw [hx]; decide)]
    by_cases hc : continues (e.s.seq u).state (e.s.seq u).origin (e.s.entry u).mode = true
    · rw [if_pos hc]
    · have go : ¬GoesOn (e.s.seq u) (e.s.entry u).mode := fun k => hc ((continues_iff _ _).mpr k)
      rw [if_neg hc, if_neg fun k => hr ⟨k, go⟩, if_neg fun k => hs ⟨(rotating_iff _).mp k, go⟩]
  rw [eq]
  refine ⟨⟨(Turned.refl u e h).frame, fun k => ?_, fun k => absurd k hr, fun k j => absurd ⟨k, j⟩ hs,
    fun _ _ _ => rfl⟩, h, rfl,
    ⟨.inl, fun k => k.resolve_right hr⟩⟩
  rw [hx] at k
  cases k

/-- A start that the planned mode does not ask for is abandoned through STOPPING, with its report (R126). -/
theorem act_of_starting (hs : Starting (e.s.seq u).state) (hg : ¬GoesOn (e.s.seq u) (e.s.entry u).mode) :
    ActTurn e (act u e) u := by
  have hrot := (rotating_iff _).mpr hs
  have hx : (e.s.seq u).state.stable = false := by
    by_contra k
    rw [Bool.not_eq_false] at k
    rw [rotating_of_stable k] at hrot
    cases hrot
  have hw : ¬((e.s.seq u).state = .gLockwait ∨ (e.s.seq u).state = .pLockwait) := by
    rintro (k | k) <;> rw [k] at hrot <;> cases hrot
  have hc : ¬continues (e.s.seq u).state (e.s.seq u).origin (e.s.entry u).mode = true := fun k =>
    hg ((continues_iff _ _).mp k)
  have eq : act u e = stopWithReport u .abandoned e := by
    unfold act Ev.state
    dsimp only
    rw [if_neg (by rw [hx]; decide), if_neg hc, if_neg hw, if_pos hrot]
  have turned := Turned.stopWithReport .abandoned h fun k : (e.s.seq u).state = .stopping => by rw [k] at hrot; cases hrot
  rw [eq]
  refine ⟨⟨turned.frame, fun k => ?_, fun k => absurd k.1 hw, fun _ _ => ⟨(enterStopping_stopped h).withReport _, ?_⟩,
    fun _ _ k => absurd ⟨hs, hg⟩ k⟩, turned.held, turned.due, ?_⟩
  · rw [hx] at k
    cases k
  · exact (enterStopping_silent u e).pushUnitState (enterStopping_frame u e) u _ _ _
  · rw [turned.settle]
    exact ⟨.inl, fun k => k.resolve_right fun j => hw j.1⟩

end

/-- A unit's act from a stable state ends in a lock wait only where it asks for the lock. -/
theorem StableAct.notWaiting {u : UnitNo} {e f : Ev} (k : StableAct u e f) (h : ResourcesHeld e.s)
    (hx : (e.s.seq u).state.stable = true) (ha : (e.s.seq u).state.asks (e.s.entry u).mode = false) :
    (f.s.seq u).state.waitsForLock = false := by
  cases k with
  | stay => exact wait_of_stable hx
  | linger x =>
    have state : ((e.setSeq u fun q => { q with linger := x }).s.seq u).state = (e.s.seq u).state := by
      show ((e.s.setSeq u _).seq u).state = _
      rw [State.setSeq_seq_self]
    rw [state]
    exact wait_of_stable hx
  | timed n hn =>
    rw [enterTimed_seq_self]
    have := hn.holds
    simp only [SeqState.holdsNothing, Bool.and_eq_true, Bool.not_eq_true'] at this
    exact this.1.1.2
  | ask n o _ hask => rw [ha] at hask; cases hask
  | stop =>
    rw [enterStopping_seq_self u e h]
    rfl

section
variable {u : UnitNo} {e : Ev} (h : ResourcesHeld e.s)
include h

/-- A lock wait that the planned mode does not ask for returns to its origin, with its report, and acts there (R127). -/
theorem act_of_returns (hr : Returns (e.s.seq u) (e.s.entry u).mode) : ActTurn e (act u e) u := by
  obtain ⟨hn, hc⟩ := (returns_iff _ _).mp hr
  have hw := (waitsForLock_iff _).mpr hn
  have hx := stable_of_wait hw
  generalize hback : returnState (e.s.seq u).state (e.s.seq u).origin = back
  have stable : back.stable = true := hback ▸ returnState_stable _ _
  have on : back ≠ .gOn := by
    rw [← hback]
    rcases returnState_cases (e.s.seq u).state (e.s.seq u).origin with k | k | k <;> rw [k] <;> decide
  generalize hf : returnToOrigin u .returned e = f
  have eq : act u e = actStable u f := by
    unfold act Ev.state
    dsimp only
    rw [if_neg (by rw [hx]; decide), if_neg (by rw [hc]; decide), if_pos hn, hf]
  rw [returnToOrigin_eq, hback] at hf
  have moved : ((e.returned u).s.seq u).state = back := by rw [returned_seq_self, hback]; rfl
  have leaves : ((e.returned u).s.seq u).state ≠ (e.s.seq u).state := fun k => by
    rw [← k, moved, wait_of_stable stable] at hw
    cases hw
  have back' : TurnFrame e.s f.s u := hf ▸ (TurnFrame.returned h hw).withReport leaves _
  have held : ResourcesHeld f.s := hf ▸ (h.returned hw).withReport _
  have frame : SeqFrame e.s f.s := hf ▸ returned_frame.trans (pushUnitState_frame _ _ _ _ _)
  have state : (f.s.seq u).state = back := by
    rw [← hf]
    exact (congrArg Seq.state (pushReport_seq _ _ _)).trans moved
  have report : Reports [.unitState u (e.s.seq u).state back .returned (e.s.image u).stage (e.s.image u).fault] e.s f.s :=
    hf ▸ returned_silent.pushUnitState returned_frame u _ _ _
  have fstable : (f.s.seq u).state.stable = true := state ▸ stable
  have shape := actStable_stableAct u f
  have turned := shape.turned held fstable
  have asks : (f.s.seq u).state.asks (f.s.entry u).mode = false := by
    rw [state, frame.entry_eq, ← hback]
    exact asks_returnState hw hc
  have off := shape.notWaiting held fstable asks
  have acts := actStable_acts held fstable
  have lock : f.s.lockOf u = (e.s.lockOf u).leftBy u := by
    have pra : f.s.pra = (e.returned u).s.pra := by rw [← hf]; exact pushReport_pra _ _
    rw [State.lockOf, frame.unit_eq, pra, returned_pra]
    exact PerWaterway.get_set_self _ _ _
  have waits : (e.s.seq u).state ≠ ((actStable u f).s.seq u).state := fun k => by
    rw [k, off] at hw
    cases hw
  rw [eq]
  refine ⟨⟨.afterReturn h hw held fstable (state ▸ on) back' turned.frame (frame.trans (actStable_frame u f)) waits.symm,
    fun k => ?_, fun _ => ?_, fun k => ?_, fun _ k => absurd hr k⟩, turned.held, ?_, ?_⟩
  · rw [hx] at k
    cases k
  · rw [← returnState_eq, hback]
    refine ⟨?_, report.silent shape.silent⟩
    unfold ActsFrom at acts
    rw [state, frame.entry_eq, frame.image_eq, back'.own.1, back'.own.2] at acts
    exact acts.congr frame.tbs (by rw [lock]; rfl) (by rw [lock]; simp [Lock.leftBy])
  · rw [← rotating_iff] at k
    rcases hn with j | j <;> rw [j] at k <;> cases k
  · rw [turned.due, ← hf]
    rfl
  · rw [turned.settle, ← hf]
    show (e.settle || SeqState.stable _) = true ↔ _
    rw [hback, stable, Bool.or_true]
    exact ⟨fun _ => .inr hr, fun _ => rfl⟩

/-- A sequencer acts on its planned mode (R117, R126 to R131). -/
theorem act_turn (u : UnitNo) : ActTurn e (act u e) u := by
  by_cases hx : (e.s.seq u).state.stable = true
  · exact act_of_stable h hx
  by_cases hr : Returns (e.s.seq u) (e.s.entry u).mode
  · exact act_of_returns h hr
  by_cases hs : Starting (e.s.seq u).state ∧ ¬GoesOn (e.s.seq u) (e.s.entry u).mode
  · exact act_of_starting h hs.1 hs.2
  · exact act_of_idle h (Bool.not_eq_true _ ▸ hx) hr hs

end

-- Turns on a plan (R89, R117, R131) -----------------------------------------------------------------------

/-- One sequencer's turn on a plan just written, with what it leaves for those that follow (R89, R117, R131). -/
theorem actTurn_planTurn (old : PerUnit Entry) {e : Ev} (h : ResourcesHeld e.s) (u : UnitNo) :
    PlanTurn old e.due e.s (actTurn old e u).s u ∧ ResourcesHeld (actTurn old e u).s ∧ (actTurn old e u).due = e.due ∧
      ((actTurn old e u).settle = true ↔
        e.settle = true ∨ ToAct old e.due e.s u ∧ Returns (e.s.seq u) (e.s.entry u).mode) := by
  by_cases ha : ToAct old e.due e.s u
  · have eq : actTurn old e u = act u e := if_pos ha
    obtain ⟨turn, held, due, settle⟩ := act_turn h u
    rw [eq]
    refine ⟨⟨fun _ => turn, fun k => absurd ha k, fun k => absurd ha k⟩, held, due, settle.trans ?_⟩
    exact or_congr_right ⟨fun k => ⟨ha, k⟩, And.right⟩
  by_cases hm : (e.s.entry u).mode = .still ∧ (e.s.entry u).forcedOut = true ∧ (old.get u).forcedOut = false ∧
      (e.s.seq u).linger.isSome = true ∧ ((e.s.seq u).state = .gAir ∨ (e.s.seq u).state = .pAir)
  · have eq : actTurn old e u = enterStopping u e := by
      unfold ToAct at ha
      unfold actTurn Ev.state
      dsimp only
      obtain ⟨m1, m2, m3, m4, m5⟩ := hm
      rw [if_neg ha, if_pos ⟨m1, m2, by rw [m3]; rfl, m4, m5⟩]
    have moving : (e.s.seq u).state ≠ .stopping := by
      obtain ⟨-, -, -, -, k | k⟩ := hm <;> rw [k] <;> decide
    have turned := Turned.stop h moving
    rw [eq]
    refine ⟨⟨fun k => absurd k ha, fun _ _ => ⟨turned.frame, enterStopping_stopped h, enterStopping_silent u e⟩,
      fun _ k => absurd hm k⟩, turned.held, turned.due, ?_⟩
    rw [turned.settle]
    exact ⟨.inl, fun k => k.resolve_right fun j => ha j.1⟩
  · have eq : actTurn old e u = e := by
      unfold ToAct at ha
      unfold actTurn Ev.state
      dsimp only
      rw [if_neg ha, if_neg]
      rintro ⟨m1, m2, m3, m4, m5⟩
      exact hm ⟨m1, m2, by rw [Bool.not_eq_true'] at m3; exact m3, m4, m5⟩
    rw [eq]
    exact ⟨⟨fun k => absurd k ha, fun _ k => absurd k hm, fun _ _ => rfl⟩, h, rfl, .inl,
      fun k => k.resolve_right fun j => ha j.1⟩

/-- The turns of these units, one after another, and the settling check (R82, R89). -/
theorem foldl_inTurn (old : PerUnit Entry) (us : List UnitNo) {e : Ev} (h : ResourcesHeld e.s) {entered : Prop}
    (hs : e.settle = true ↔ entered) :
    InTurn old e.due us entered e.s (closeSettling (us.foldl (actTurn old) e)) := by
  induction us generalizing e entered with
  | nil =>
    have k := closeSettling_settlesIf e
    rw [propext hs] at k
    exact k
  | cons u us ih =>
    obtain ⟨turn, held, due, settle⟩ := actTurn_planTurn old h u
    refine ⟨(actTurn old e u).s, turn, ?_⟩
    have k := ih held (settle.trans (or_congr_left hs))
    rw [due] at k
    exact k

/-- The sequencers' turns on a plan in ascending unit number, and the settling check that ends the event (R89, R117). -/
theorem actAll_planActed (old : PerUnit Entry) {e : Ev} (h : ResourcesHeld e.s) {entered : Prop}
    (hs : e.settle = true ↔ entered) : PlanActed old e.due entered e.s (closeSettling (actAll old e)) :=
  foldl_inTurn old UnitNo.all h hs

/-- An allocation run leaves what the arbiter holds, and the sequencers. -/
theorem ResourcesHeld.replan {s : State} (h : ResourcesHeld s) : ResourcesHeld (replan s) :=
  ResourcesHeld.withReport (b := setOrderState .active (allocate s))
    ⟨h.queueNodup, h.queueState, h.granted, h.holderState, h.waitersNodup, h.waiterState, h.lockState, h.lockTaken⟩ _

/-- An event that raised a trigger under a standing order ends with a run from the state it has reached (R84, R85, R89). -/
theorem closeEvent_ranFrom {e : Ev} (h : ResourcesHeld e.s) (ht : (e.trig && e.s.orderStands) = true) {entered : Prop}
    (hs : e.settle = true ↔ entered) : RanFrom e.s e.due entered (closeEvent e) := by
  unfold closeEvent RanFrom
  rw [if_pos ht, ← replan_eq_afterRun]
  exact actAll_planActed e.s.alc.entries (e := e.map Machine.replan) h.replan hs

end Sys2Proof.Machine
end

section
/-! UNIT_IDENT: the exchange concluded, the adoption that VERIFIED brings in RUNNING, and the adopting sequencer's act, with
and without a standing order (R56, R57, R114 to R117, R167). -/

namespace Sys2Proof.Machine

-- The exchange concluded (R56, R57) -----------------------------------------------------------------------

/-- The image of a unit whose exchange has come to an identity state. -/
def Image.concluded (i : Image) (n : Identity) : Image := { i with identity := n, identTimer := none, verifyEvent := true }

/-- VERIFY_CHANGE set: of the state only the unit's image and the Report Block change. -/
theorem raiseEvents_verify_eq (u : UnitNo) (s : State) : raiseEvents u 0 true s = { s with
    uib := { s.uib with images := s.uib.images.set u { s.image u with verifyEvent := true } }
    rpb := (raiseEvents u 0 true s).rpb } := by
  unfold raiseEvents
  dsimp only
  split
  · next h =>
    obtain ⟨-, hv⟩ := h
    have set : (s.image u).verifyEvent = true := by simpa using hv
    have same : ({ s.image u with verifyEvent := true } : Image) = s.uib.images.get u := by rw [← set]; rfl
    rw [same, PerUnit.set_get]
  · have image : ({ s.image u with
          events := (s.image u).events ||| 0
          verifyEvent := (s.image u).verifyEvent || true } : Image) =
        { s.image u with verifyEvent := true } := by simp
    rw [image]
    split
    · rfl
    · unfold pushReport
      split <;> rfl

theorem raiseEvents_rpb (u : UnitNo) (s : State) : (raiseEvents u 0 true s).rpb.carried = s.rpb.carried ∧
    (raiseEvents u 0 true s).rpb.snapshot = s.rpb.snapshot := by
  unfold raiseEvents
  dsimp only
  split
  · exact ⟨rfl, rfl⟩
  · split
    · exact ⟨rfl, rfl⟩
    · exact ⟨(pushReport_frame _ _).carried, (pushReport_frame _ _).snapshot⟩

section
variable (u : UnitNo) (n : Identity) (s : State)

theorem concludeExchange_eq : concludeExchange u n s = { s with
    uib := { s.uib with images := s.uib.images.set u ((s.image u).concluded n) }
    rpb := (concludeExchange u n s).rpb } := by
  have k := raiseEvents_verify_eq u (s.setImage u { s.image u with identity := n, identTimer := none })
  rw [State.setImage_image_self] at k
  refine k.trans ?_
  show ({ s with uib := { s.uib with images := (s.uib.images.set u _).set u _ }, rpb := _ } : State) = _
  rw [PerUnit.set_set]
  rfl

theorem concludeExchange_image_self : (concludeExchange u n s).image u = (s.image u).concluded n := by
  rw [concludeExchange_eq]
  exact PerUnit.get_set_self _ _ _

theorem concludeExchange_image_ne {v : UnitNo} (hv : v ≠ u) : (concludeExchange u n s).image v = s.image v := by
  rw [concludeExchange_eq]
  exact PerUnit.get_set_ne _ _ _ _ hv

theorem concludeExchange_seqs : (concludeExchange u n s).seqs = s.seqs := by rw [concludeExchange_eq]
theorem concludeExchange_pra : (concludeExchange u n s).pra = s.pra := by rw [concludeExchange_eq]
theorem concludeExchange_rmp : (concludeExchange u n s).rmp = s.rmp := by rw [concludeExchange_eq]
theorem concludeExchange_alc : (concludeExchange u n s).alc = s.alc := by rw [concludeExchange_eq]
theorem concludeExchange_dse : (concludeExchange u n s).dse = s.dse := by rw [concludeExchange_eq]
theorem concludeExchange_tbs : (concludeExchange u n s).tbs = s.tbs := by rw [concludeExchange_eq]
theorem concludeExchange_lpu : (concludeExchange u n s).lpu = s.lpu := by rw [concludeExchange_eq]

theorem concludeExchange_leaves : LeavesSetting s (concludeExchange u n s) := by
  have k := raiseEvents_rpb u (s.setImage u { s.image u with identity := n, identTimer := none })
  refine ⟨?_, ?_, ?_, ?_, ?_, ?_, k.1, k.2, ?_⟩
  all_goals rw [concludeExchange_eq]

/-- The UNIT_EVENT of a unit that has none waiting, nor VERIFY_CHANGE pending, is queued (R52, R57). -/
theorem concludeExchange_queue (hr : s.rpb.queue.length < 16) (hf : (s.image u).verifyEvent = false)
    (hq : ∀ r ∈ s.rpb.queue, r.isEventOf u = false) :
    (concludeExchange u n s).rpb.queue = s.rpb.queue ++ [.unitEvent u (s.image u).events true] := by
  have waiting : eventWaiting u (s.setImage u { s.image u with identity := n, identTimer := none }) = false :=
    List.any_eq_false.mpr fun r hm => by rw [hq r hm]; decide
  unfold concludeExchange
  rw [raiseEvents_verify _ _ (by rw [State.setImage_image_self]; exact hf) waiting]
  refine (congrArg (fun x : State => x.rpb.queue) (pushReport_room _ _ ?_)).trans ?_
  · exact hr
  rw [State.setImage_image_self]
  rfl

end

theorem LeavesSetting.trans {a b c : State} (h : LeavesSetting a b) (k : LeavesSetting b c) : LeavesSetting a c :=
  ⟨k.pending.trans h.pending, k.held.trans h.held, by rw [k.lpu, h.lpu], k.tbs.trans h.tbs, k.conv.trans h.conv,
    k.crossings.trans h.crossings, k.carried.trans h.carried, k.snapshot.trans h.snapshot, k.trace.trans h.trace⟩

theorem EventFrame.leavesSetting {s t : State} (h : EventFrame s t) : LeavesSetting s t :=
  ⟨h.pending, h.held, by rw [h.lpu], h.tbs, by rw [h.uib], h.crossings, h.carried, h.snapshot, by rw [h.dse]⟩

-- Adoption (R114, R115) -----------------------------------------------------------------------------------

/-- The record of a sequencer that has adopted its unit in this state (R115). -/
def Seq.adopting (n : SeqState) (lockout : Bool) : Seq :=
  { state := n, origin := .none, prior := none, stageTimer := none, minRun := none, minStill := none, linger := none,
    pendLockout := lockout && n != .still }

/-- The state adopted, as R115's table reads. -/
theorem adoptedState_eq (i : Image) : adoptedState i =
    if i.perm.remote.val = false then .localCmd
    else if i.stage = some .trip ∨ i.fault ≠ 0 then .tripped
    else if i.stage = some .still then .still
    else if i.stage = some .turbOn then .gOn
    else if i.stage = some .turbAir then .gAir
    else if i.stage = some .pumpAir then .pAir
    else if i.stage = some .pumpOn then .pOn
    else .unsettled := by
  unfold adoptedState
  refine if_congr (by rw [Bool.not_eq_true']) rfl (if_congr Iff.rfl rfl ?_)
  cases i.stage with
  | none => simp
  | some st => cases st <;> simp

theorem adoptedState_holdsNothing (i : Image) : (adoptedState i).holdsNothing = true := by
  rw [adoptedState_eq]
  repeat' split
  all_goals rfl

section
variable (u : UnitNo) (s : State)

theorem initSetpoint_seqs : (initSetpoint u s).seqs = s.seqs := by
  unfold initSetpoint
  split <;> rfl

theorem initSetpoint_pra : (initSetpoint u s).pra = s.pra := by
  unfold initSetpoint
  split <;> rfl

theorem initSetpoint_ramp_ne {v : UnitNo} (hv : v ≠ u) : (initSetpoint u s).ramp v = s.ramp v := by
  unfold initSetpoint
  split
  · exact (State.setRamp_ramp_ne _ _ _ _ hv).trans (State.setRamp_ramp_ne _ _ _ _ hv)
  · rfl

/-- The setpoint set at entry into G_ON, in a band that allows turbine (R167). -/
theorem initSetpoint_setpoint {b : Band} (hb : s.bandOf u = some b) (ht : b.turb = true) :
    ((initSetpoint u s).ramp u).setpoint = some (b.clamp (s.image u).power) := by
  have band : s.turbineBand u = some b := by rw [State.turbineBand, hb, Option.filter_some, if_pos ht]
  unfold initSetpoint
  rw [band]
  show ((State.setRamp _ u _).ramp u).setpoint = _
  rw [State.setRamp_ramp_self]
  show ((place _ _ _ (s.setRamp u _)).ramp u).setpoint = _
  show ((s.setRamp u _).ramp u).setpoint = _
  rw [State.setRamp_ramp_self]

theorem initSetpoint_none (hb : ∀ b, s.bandOf u = some b → b.turb = false) : initSetpoint u s = s := by
  have band : s.turbineBand u = none := by
    rw [State.turbineBand]
    cases h : s.bandOf u with
    | none => rfl
    | some b => rw [Option.filter_some, if_neg (by rw [hb b h]; decide)]
  unfold initSetpoint
  rw [band]

end

/-- The event of an adoption when the adopting sequencer has entered its state, before reports and setpoint. -/
def Ev.adopting (u : UnitNo) (e : Ev) : Ev :=
  let n := adoptedState (e.s.image u)
  let e0 := (moveTo u n e).setSeq u fun q =>
    { q.stopTimers with pendLockout := (e.s.image u).perm.lockout.val && n != .still }
  if n = .localCmd then e0.map (withdrawStage u) else e0

/-- The event of an adoption before its setpoint. -/
def Ev.adoptReported (u : UnitNo) (e : Ev) : Ev :=
  let n := adoptedState (e.s.image u)
  if n = e.state u then e.adopting u
  else (e.adopting u).map (pushUnitState u (e.state u) n (if n = .localCmd then .remoteLoss else .adopted))

section
variable (u : UnitNo) (e : Ev)

theorem adopt_s : (adopt u e).s =
    if adoptedState (e.s.image u) = .gOn then initSetpoint u (e.adoptReported u).s else (e.adoptReported u).s := by
  show (if adoptedState (e.s.image u) = .gOn then (e.adoptReported u).map (initSetpoint u) else e.adoptReported u).s = _
  split <;> rfl

theorem adopting_seqs : (e.adopting u).s.seqs = e.s.seqs.set u
    (.adopting (adoptedState (e.s.image u)) (e.s.image u).perm.lockout.val) := by
  have k : ((moveTo u (adoptedState (e.s.image u)) e).setSeq u fun q =>
      { q.stopTimers with pendLockout := (e.s.image u).perm.lockout.val && adoptedState (e.s.image u) != .still }).s.seqs =
      e.s.seqs.set u (.adopting (adoptedState (e.s.image u)) (e.s.image u).perm.lockout.val) := by
    simp only [Ev.setSeq, Ev.map, State.setSeq_seqs, State.seq, moveTo_seqs, PerUnit.get_set_self]
    exact PerUnit.set_set _ _ _ _
  unfold Ev.adopting
  dsimp only
  split
  · exact k
  · exact k

theorem adoptReported_seqs : (e.adoptReported u).s.seqs = e.s.seqs.set u
    (.adopting (adoptedState (e.s.image u)) (e.s.image u).perm.lockout.val) := by
  unfold Ev.adoptReported
  dsimp only
  split
  · exact adopting_seqs u e
  · exact (pushReport_seqs _ _).trans (adopting_seqs u e)

theorem adoptReported_pra : (e.adoptReported u).s.pra = e.s.pra := by
  have k : (e.adopting u).s.pra = e.s.pra := by
    unfold Ev.adopting
    dsimp only
    split <;> exact moveTo_pra _ _ _
  unfold Ev.adoptReported
  dsimp only
  split
  · exact k
  · exact (pushReport_pra _ _).trans k

theorem pushReport_rmp (r : Report) (s : State) : (pushReport r s).rmp = s.rmp := by
  unfold pushReport
  split <;> rfl

/-- Adoption by a sequencer that was not in G_ON leaves the setpoints but for the one that its entry into G_ON sets. -/
theorem adoptReported_units (hs : (e.s.seq u).state ≠ .gOn) : (e.adoptReported u).s.rmp.units = e.s.rmp.units := by
  have k : (e.adopting u).s.rmp.units = e.s.rmp.units := by
    unfold Ev.adopting
    dsimp only
    split <;> exact (moveTo_units _ _ _).trans (if_neg hs)
  unfold Ev.adoptReported
  dsimp only
  split
  · exact k
  · exact (congrArg Rmp.units (pushReport_rmp _ _)).trans k

/-- The adopting sequencer's record (R115). -/
theorem adopt_seqs : (adopt u e).s.seqs = e.s.seqs.set u
    (.adopting (adoptedState (e.s.image u)) (e.s.image u).perm.lockout.val) := by
  rw [adopt_s]
  split
  · rw [initSetpoint_seqs]
    exact adoptReported_seqs u e
  · exact adoptReported_seqs u e

theorem adopt_pra : (adopt u e).s.pra = e.s.pra := by
  rw [adopt_s]
  split
  · rw [initSetpoint_pra]
    exact adoptReported_pra u e
  · exact adoptReported_pra u e

theorem adopt_ramp_ne (hs : (e.s.seq u).state ≠ .gOn) {v : UnitNo} (hv : v ≠ u) : (adopt u e).s.ramp v = e.s.ramp v := by
  have k : (e.adoptReported u).s.ramp v = e.s.ramp v := by simp only [State.ramp, adoptReported_units u e hs]
  rw [adopt_s]
  split
  · rw [initSetpoint_ramp_ne _ _ hv, k]
  · exact k

theorem adopting_frame : SeqFrame e.s (e.adopting u).s := by
  have k := (moveTo_frame u (adoptedState (e.s.image u)) e).trans (evSetSeq_frame u
    (fun q => { q.stopTimers with
      pendLockout := (e.s.image u).perm.lockout.val && adoptedState (e.s.image u) != .still }) _ rfl)
  unfold Ev.adopting
  dsimp only
  split
  · exact k.trans (withdrawStage_frame _ _)
  · exact k

theorem adoptReported_frame : SeqFrame e.s (e.adoptReported u).s := by
  unfold Ev.adoptReported
  dsimp only
  split
  · exact adopting_frame u e
  · exact (adopting_frame u e).trans (pushUnitState_frame _ _ _ _ _)

theorem SeqFrame.bandOf_eq {a b : State} (h : SeqFrame a b) (v : UnitNo) : b.bandOf v = a.bandOf v := by
  simp only [State.bandOf, State.image, State.unit, h.uib, h.tbs]

/-- Adoption outside G_ON, or in a band that allows no turbine, sets no setpoint (R167). -/
theorem adopt_ramp_kept (hs : (e.s.seq u).state ≠ .gOn)
    (hn : adoptedState (e.s.image u) ≠ .gOn ∨ ∀ b, e.s.bandOf u = some b → b.turb = false) :
    (adopt u e).s.ramp u = e.s.ramp u := by
  have k : (e.adoptReported u).s.ramp u = e.s.ramp u := by simp only [State.ramp, adoptReported_units u e hs]
  rw [adopt_s]
  split
  · next h =>
    rw [initSetpoint_none _ _ fun b hb => hn.resolve_left (not_not.mpr h) b ((adoptReported_frame u e).bandOf_eq u ▸ hb)]
    exact k
  · exact k

/-- Adoption in G_ON sets the setpoint from the measured power, in a band that allows turbine (R115, R167). -/
theorem adopt_setpoint (hn : adoptedState (e.s.image u) = .gOn) {b : Band} (hb : e.s.bandOf u = some b)
    (ht : b.turb = true) : ((adopt u e).s.ramp u).setpoint = some (b.clamp (e.s.image u).power) := by
  rw [adopt_s, if_pos hn, initSetpoint_setpoint _ _ (((adoptReported_frame u e).bandOf_eq u).trans hb) ht,
    (adoptReported_frame u e).image_eq]

/-- What an adoption owes: the sequencer's act, and the settling check if its state is stable (R82, R116). -/
theorem adopt_owes : (adopt u e).due = u :: e.due ∧
    (adopt u e).settle = (e.settle || (adoptedState (e.s.image u)).stable) := by
  have k : (e.adopting u).due = e.due ∧ (e.adopting u).settle = (e.settle || (adoptedState (e.s.image u)).stable) := by
    unfold Ev.adopting
    dsimp only
    split <;> exact ⟨rfl, rfl⟩
  have r : (e.adoptReported u).due = e.due ∧
      (e.adoptReported u).settle = (e.settle || (adoptedState (e.s.image u)).stable) := by
    unfold Ev.adoptReported
    dsimp only
    split <;> exact k
  have a : ∃ f : Ev, adopt u e = f.addDue u ∧ f.due = (e.adoptReported u).due ∧ f.settle = (e.adoptReported u).settle := by
    refine ⟨_, rfl, ?_⟩
    show (if adoptedState (e.s.image u) = .gOn then (e.adoptReported u).map (initSetpoint u) else e.adoptReported u).due = _ ∧
      (if adoptedState (e.s.image u) = .gOn then (e.adoptReported u).map (initSetpoint u) else e.adoptReported u).settle = _
    split <;> exact ⟨rfl, rfl⟩
  obtain ⟨f, hf, due, settle⟩ := a
  rw [hf]
  exact ⟨congrArg (u :: ·) (due.trans r.1), settle.trans r.2⟩

end

/-- A sequencer rewritten into a state that holds nothing, where it held nothing and waited for nothing, leaves the agreement
of resources and sequencers. -/
theorem ResourcesHeld.setOwn {a b : State} {u : UnitNo} {q : Seq} (h : ResourcesHeld a) (hs : HoldsNothing u a)
    (hl : ∀ w, (a.pra.locks.get w).holder ≠ some u) (hp : b.pra = a.pra) (ht : b.tbs = a.tbs)
    (hq : b.seqs = a.seqs.set u q) : ResourcesHeld b := by
  have other : ∀ v, v ≠ u → b.seq v = a.seq v := fun v hv => by
    rw [State.seq, hq]
    exact PerUnit.get_set_ne _ _ _ _ hv
  have unit : ∀ v, b.unit v = a.unit v := fun v => by simp only [State.unit, ht]
  refine ⟨hp ▸ h.queueNodup, fun v hv => ?_, hp ▸ h.granted, fun v hv => ?_, hp ▸ h.waitersNodup, fun w v hv => ?_,
    fun w v hv => ?_, hp ▸ h.lockTaken⟩
  all_goals rw [hp] at hv
  · rw [other v fun k => hs.waits.2 (k ▸ hv)]
    exact h.queueState v hv
  · rw [other v fun k => hs.grant (k ▸ hv)]
    exact h.holderState v hv
  · rw [other v fun k => hs.waits.1 w (k ▸ hv), unit]
    exact h.waiterState w v hv
  · rw [other v fun k => hl w (k ▸ hv), unit]
    exact h.lockState w v hv

-- An event without a run, which owes one sequencer an action (R116) ---------------------------------------

theorem actTurn_of_notDue {e : Ev} {u : UnitNo} (h : u ∉ e.due) : actTurn e.s.alc.entries e u = e := by
  unfold actTurn
  dsimp only
  rw [if_neg (by rintro (k | k); exacts [k rfl, h k]), if_neg]
  rintro ⟨-, h1, h2, -⟩
  rw [State.entry] at h1
  rw [h1] at h2
  cases h2

theorem foldl_actTurn_of_notDue {e : Ev} (us : List UnitNo) (h : ∀ u ∈ us, u ∉ e.due) :
    us.foldl (actTurn e.s.alc.entries) e = e := by
  induction us with
  | nil => rfl
  | cons u us ih =>
    rw [List.foldl_cons, actTurn_of_notDue (h u List.mem_cons_self)]
    exact ih fun v hv => h v (List.mem_cons_of_mem _ hv)

/-- Where the plan is as it was, the pass over the sequencers is the act of the one that the event owes an action. -/
theorem actAll_single {e : Ev} {u : UnitNo} (h : ResourcesHeld e.s) (hd : e.due = [u]) :
    actAll e.s.alc.entries e = act u e := by
  have turn : actTurn e.s.alc.entries e u = act u e := if_pos (.inr (by rw [hd]; exact List.mem_singleton_self u))
  have due : (act u e).due = [u] := (act_turn h u).due.trans hd
  have alc : (act u e).s.alc = e.s.alc := (act_frame u e).alc
  obtain ⟨before, after, split⟩ := List.append_of_mem (UnitNo.mem_all u)
  have distinct : (before ++ u :: after).Nodup := split ▸ (by decide : UnitNo.all.Nodup)
  have first : ∀ v ∈ before, v ∉ e.due := fun v hv => by
    rw [hd, List.mem_singleton]
    rintro rfl
    exact (List.nodup_append.mp distinct).2.2 v hv v List.mem_cons_self rfl
  have rest : ∀ v ∈ after, v ∉ (act u e).due := fun v hv => by
    rw [due, List.mem_singleton]
    rintro rfl
    exact (List.nodup_cons.mp (List.nodup_append.mp distinct).2.1).1 hv
  unfold actAll
  rw [split, List.foldl_append, foldl_actTurn_of_notDue before first, List.foldl_cons, turn, ← alc]
  exact foldl_actTurn_of_notDue after rest

theorem closeSettling_seqs (e : Ev) : (closeSettling e).seqs = e.s.seqs ∧ (closeSettling e).rmp = e.s.rmp := by
  unfold closeSettling settleCheck
  split
  · split
    · exact ⟨pushReport_seqs _ _, pushReport_rmp _ _⟩
    · exact ⟨rfl, rfl⟩
  · exact ⟨rfl, rfl⟩

end Sys2Proof.Machine
end

section
/-! UNIT_IDENT, the statement: an exchange concluded without adoption, and the event of an adoption in RUNNING (R56, R57, R84,
R85, R114 to R117). -/

namespace Sys2Proof.Machine

/-- A sequencer in the state that its planned mode asks for, not lingering, stays as it is (R117, R128 to R131). -/
theorem act_asked {u : UnitNo} {e : Ev} (hl : (e.s.seq u).linger = none)
    (h : let n := (e.s.seq u).state
      let m := (e.s.entry u).mode
      (n = .still ∧ m = .still) ∨ (n = .gOn ∧ m = .gen) ∨ (n = .gAir ∧ m = .genAir) ∨ (n = .pAir ∧ m = .pumpAir) ∨
        (n = .pOn ∧ m = .pump)) :
    (act u e).s.seq u = e.s.seq u := by
  have stays : (stopLinger u e).s.seq u = e.s.seq u := by
    show (e.s.setSeq u { e.s.seq u with linger := none }).seq u = _
    rw [State.setSeq_seq_self, ← hl]
  have acts : (e.s.seq u).state.stable = true → act u e = actStable u e := fun k => if_pos k
  rcases h with ⟨hn, hm⟩ | ⟨hn, hm⟩ | ⟨hn, hm⟩ | ⟨hn, hm⟩ | ⟨hn, hm⟩
  all_goals rw [acts (by rw [hn]; rfl)]; unfold actStable Ev.state; rw [hn, hm]
  · exact stays
  · exact stays

/-- A sequencer in G_ON with GEN planned does nothing (R117). -/
theorem act_generating {u : UnitNo} {e : Ev} (hn : (e.s.seq u).state = .gOn) (hm : (e.s.entry u).mode = .gen) :
    act u e = e := by
  have acts : act u e = actStable u e := if_pos (by rw [Ev.state, hn]; rfl)
  rw [acts]
  unfold actStable Ev.state
  rw [hn, hm]

-- The identification (R56, R57) ---------------------------------------------------------------------------

theorem orderStands_running {s : State} (h : s.orderStands = true) : s.dse.engine = .running := by
  rw [State.orderStands, Bool.and_eq_true, beq_iff_eq] at h
  exact h.1

/-- The event of a unit identified as its entry says, in RUNNING, before its run (R57, R114). -/
def Ev.verified (u : UnitNo) (s : State) : Ev := (adopt u (.start (concludeExchange u .verified s))).trigger true

theorem verifiedEvent_running (u : UnitNo) {s : State} (h : s.dse.engine = .running) :
    verifiedEvent u s = closeEvent (.verified u s) := by
  unfold verifiedEvent
  dsimp only
  rw [if_pos h]
  rfl

theorem verifiedEvent_other (u : UnitNo) {s : State} (h : s.dse.engine ≠ .running) :
    verifiedEvent u s = concludeExchange u .verified s := by
  unfold verifiedEvent
  dsimp only
  rw [if_neg h]
  refine closeEvent_idle _ rfl ?_ rfl
  have stands : (concludeExchange u .verified s).orderStands = false := by
    by_contra k
    have := orderStands_running (Bool.not_eq_false _ ▸ k)
    rw [concludeExchange_dse] at this
    exact h this
  show (_ && (concludeExchange u .verified s).orderStands) = false
  rw [stands, Bool.and_false]

theorem verified_frame (u : UnitNo) (s : State) : SeqFrame (concludeExchange u .verified s) (Ev.verified u s).s :=
  adopt_frame u (.start (concludeExchange u .verified s))

section
variable {h : Hdr} {k : Byte} {r : Half} {u : UnitNo} {s : State} (hu : unitAt h.src s = some u)
  (hi : (s.image u).identity = .identWait)
include hu hi

theorem takeUnitIdent_same (hs : k.toNat = (s.unit u).classCode ∧ r.toNat = (s.unit u).rated) :
    takeUnitIdent h k r s = verifiedEvent u s := by
  unfold takeUnitIdent
  rw [hu]
  dsimp only
  rw [if_pos hi, if_pos hs]

theorem takeUnitIdent_other (hs : ¬(k.toNat = (s.unit u).classCode ∧ r.toNat = (s.unit u).rated)) :
    takeUnitIdent h k r s = concludeExchange u .mismatch s := by
  unfold takeUnitIdent
  rw [hu]
  dsimp only
  rw [if_pos hi, if_neg hs]

/-- What follows the conclusion of the exchange keeps what the end of an event keeps. -/
theorem takeUnitIdent_frame : EventFrame (concludeExchange u (if k.toNat = (s.unit u).classCode ∧ r.toNat = (s.unit u).rated
    then .verified else .mismatch) s) (takeUnitIdent h k r s) := by
  by_cases hs : k.toNat = (s.unit u).classCode ∧ r.toNat = (s.unit u).rated
  · rw [if_pos hs, takeUnitIdent_same hu hi hs]
    by_cases hr : s.dse.engine = .running
    · rw [verifiedEvent_running u hr]
      exact (verified_frame u s).event.trans (closeEvent_frame _)
    · rw [verifiedEvent_other u hr]
      exact .refl _
  · rw [if_neg hs, takeUnitIdent_other hu hi hs]
    exact .refl _

/-- Without an adoption only the exchange is concluded (R57). -/
theorem takeUnitIdent_plain (hs : ¬(k.toNat = (s.unit u).classCode ∧ r.toNat = (s.unit u).rated) ∨ s.dse.engine ≠ .running) :
    ∃ n, takeUnitIdent h k r s = concludeExchange u n s := by
  by_cases hk : k.toNat = (s.unit u).classCode ∧ r.toNat = (s.unit u).rated
  · exact ⟨_, (takeUnitIdent_same hu hi hk).trans (verifiedEvent_other u (hs.resolve_left (not_not.mpr hk)))⟩
  · exact ⟨_, takeUnitIdent_other hu hi hk⟩

end

-- The adoption (R114, R115) -------------------------------------------------------------------------------

section
variable {u : UnitNo} {s : State} (agree : ResourcesAgree s) (hi : (s.image u).identity = .identWait)
include agree hi

/-- The sequencer of a unit that is not VERIFIED is DORMANT (R114). -/
theorem ResourcesAgree.dormant : (s.seq u).state = .dormant := by
  by_contra k
  have := (agree.awake u k).2.2
  rw [hi] at this
  cases this

theorem concluded_off (n : Identity) : ((concludeExchange u n s).seq u).state ≠ .gOn := by
  rw [State.seq, concludeExchange_seqs, ← State.seq, agree.dormant hi]
  decide

end

theorem adoptedState_concluded (u : UnitNo) (n : Identity) (s : State) :
    adoptedState ((concludeExchange u n s).image u) = adoptedState (s.image u) := by
  rw [concludeExchange_image_self]
  rfl

section
variable (u : UnitNo) (s : State)

theorem verified_seqs : (Ev.verified u s).s.seqs = s.seqs.set u
    (.adopting (adoptedState (s.image u)) (s.image u).perm.lockout.val) := by
  refine (adopt_seqs u _).trans ?_
  show (concludeExchange u .verified s).seqs.set u (.adopting (adoptedState ((concludeExchange u .verified s).image u))
    ((concludeExchange u .verified s).image u).perm.lockout.val) = _
  rw [concludeExchange_seqs, adoptedState_concluded, concludeExchange_image_self]
  rfl

theorem verified_seq_self : (Ev.verified u s).s.seq u = .adopting (adoptedState (s.image u)) (s.image u).perm.lockout.val := by
  rw [State.seq, verified_seqs]
  exact PerUnit.get_set_self _ _ _

theorem verified_pra : (Ev.verified u s).s.pra = s.pra := (adopt_pra u _).trans (concludeExchange_pra _ _ _)

theorem verified_alc : (Ev.verified u s).s.alc = s.alc := (verified_frame u s).alc.trans (concludeExchange_alc _ _ _)

theorem verified_dse : (Ev.verified u s).s.dse = s.dse := (verified_frame u s).dse.trans (concludeExchange_dse _ _ _)

theorem verified_tbs : (Ev.verified u s).s.tbs = s.tbs := (verified_frame u s).tbs.trans (concludeExchange_tbs _ _ _)

theorem verified_entry : (Ev.verified u s).s.entry u = s.entry u := by simp only [State.entry, verified_alc]

theorem verified_orderStands : (Ev.verified u s).s.orderStands = s.orderStands := by
  simp only [State.orderStands, verified_dse]

theorem verified_owes : (Ev.verified u s).due = [u] ∧ (Ev.verified u s).trig = true ∧
    ((Ev.verified u s).settle = true ↔ (adoptedState (s.image u)).stable = true) := by
  obtain ⟨due, settle⟩ := adopt_owes u (.start (concludeExchange u .verified s))
  refine ⟨due, Bool.or_true _, ?_⟩
  show (adopt u (.start (concludeExchange u .verified s))).settle = true ↔ _
  rw [settle]
  show (false || (adoptedState ((concludeExchange u .verified s).image u)).stable) = true ↔ _
  rw [adoptedState_concluded, Bool.false_or]

theorem concluded_ramp (n : Identity) (v : UnitNo) : (concludeExchange u n s).ramp v = s.ramp v := by
  simp only [State.ramp, concludeExchange_rmp]

theorem concluded_bandOf (n : Identity) : (concludeExchange u n s).bandOf u = s.bandOf u := by
  simp only [State.bandOf, State.unit, concludeExchange_tbs, concludeExchange_image_self]
  rfl

/-- The setpoint that an adoption in G_ON sets (R115, R167). -/
theorem verified_setpoint (hn : adoptedState (s.image u) = .gOn) {b : Band} (hb : s.bandOf u = some b)
    (ht : b.turb = true) : ((Ev.verified u s).s.ramp u).setpoint = some (b.clamp (s.image u).power) := by
  have k := adopt_setpoint u (.start (concludeExchange u .verified s)) ((adoptedState_concluded u _ s).trans hn)
    ((concluded_bandOf u s _).trans hb) ht
  have power : ((concludeExchange u .verified s).image u).power = (s.image u).power := by
    rw [concludeExchange_image_self]; rfl
  exact k.trans (by rw [← power]; rfl)

end

/-- After an adoption resources and sequencers agree. -/
theorem verified_held {u : UnitNo} {s : State} (agree : ResourcesAgree s) (hi : (s.image u).identity = .identWait) :
    ResourcesHeld (Ev.verified u s).s := by
  have dormant := agree.dormant hi
  exact agree.held.setOwn (agree.held.holdsNothing (by rw [dormant]; rfl)) (agree.held.not_lockHolder (by rw [dormant]; rfl))
    (verified_pra u s) (verified_tbs u s) (verified_seqs u s)

/-- With no order standing, the event ends with the adopting sequencer's act and the settling check (R116, R117). -/
theorem verifiedEvent_noOrder {u : UnitNo} {s : State} (agree : ResourcesAgree s) (hi : (s.image u).identity = .identWait)
    (hr : s.dse.engine = .running) (ho : s.orderStands = false) :
    verifiedEvent u s = closeSettling (act u (.verified u s)) := by
  rw [verifiedEvent_running u hr]
  unfold closeEvent
  rw [if_neg (by rw [verified_orderStands, ho, Bool.and_false]; decide),
    actAll_single (verified_held agree hi) (verified_owes u s).1]

/-- A state in which an adopted sequencer does not act (R117). -/
theorem passive_of_adopted {n : SeqState} (h : n = .unsettled ∨ n = .tripped ∨ n = .localCmd) : n.passive = true := by
  rcases h with rfl | rfl | rfl <;> rfl

/-- The adopted record stays where its state takes no action, and, with no order standing, where the planned mode asks for
the state adopted (R116, R117). -/
theorem verifiedEvent_record {u : UnitNo} {s : State} (agree : ResourcesAgree s) (hi : (s.image u).identity = .identWait)
    (hr : s.dse.engine = .running)
    (h : let n := adoptedState (s.image u)
      let m := (s.entry u).mode
      n = .unsettled ∨ n = .tripped ∨ n = .localCmd ∨
        (((n = .still ∧ m = .still) ∨ (n = .gOn ∧ m = .gen) ∨ (n = .gAir ∧ m = .genAir) ∨ (n = .pAir ∧ m = .pumpAir) ∨
          (n = .pOn ∧ m = .pump)) ∧ s.orderStands = false)) :
    (verifiedEvent u s).seq u = .adopting (adoptedState (s.image u)) (s.image u).perm.lockout.val := by
  have held := verified_held agree hi
  have seq := verified_seq_self u s
  have state : ((Ev.verified u s).s.seq u).state = adoptedState (s.image u) := by rw [seq]; rfl
  have passive : (adoptedState (s.image u) = .unsettled ∨ adoptedState (s.image u) = .tripped ∨
      adoptedState (s.image u) = .localCmd) →
      (verifiedEvent u s).seq u = .adopting (adoptedState (s.image u)) (s.image u).perm.lockout.val := fun k => by
    rw [verifiedEvent_running u hr]
    have waits := (held.holdsNothing (u := u) (by rw [state]; exact adoptedState_holdsNothing _)).waits
    exact (closeEvent_apart _ (by rw [state]; exact passive_of_adopted k) waits).2.1.trans seq
  rcases h with k | k | k | ⟨k, ho⟩
  · exact passive (.inl k)
  · exact passive (.inr (.inl k))
  · exact passive (.inr (.inr k))
  · rw [verifiedEvent_noOrder agree hi hr ho, State.seq, (closeSettling_seqs _).1]
    refine (act_asked (by rw [seq]; rfl) ?_).trans seq
    rw [state, verified_entry]
    exact k

/-- With no order standing, the setpoint that an adoption in G_ON sets stays where GEN is planned (R115, R167). -/
theorem verifiedEvent_setpoint {u : UnitNo} {s : State} (agree : ResourcesAgree s) (hi : (s.image u).identity = .identWait)
    (hr : s.dse.engine = .running) (ho : s.orderStands = false) (hn : adoptedState (s.image u) = .gOn)
    (hm : (s.entry u).mode = .gen) {b : Band} (hb : s.bandOf u = some b) (ht : b.turb = true) :
    ((verifiedEvent u s).ramp u).setpoint = some (b.clamp (s.image u).power) := by
  have gen : ((Ev.verified u s).s.seq u).state = .gOn := by
    rw [verified_seq_self]
    exact hn
  rw [verifiedEvent_noOrder agree hi hr ho, State.ramp, (closeSettling_seqs _).2,
    act_generating gen (by rw [verified_entry]; exact hm), ← State.ramp]
  exact verified_setpoint u s hn hb ht

/-- Under a standing order a run follows on the state with the adopted record, and the sequencer acts then (R84, R85, R89,
R116). -/
theorem verifiedEvent_ran {u : UnitNo} {s : State} (agree : ResourcesAgree s) (hi : (s.image u).identity = .identWait)
    (ho : s.orderStands = true) :
    let n := adoptedState (s.image u)
    ∃ e : State, e.alc = s.alc ∧ e.dse = s.dse ∧ e.uib = (verifiedEvent u s).uib ∧ e.tbs = s.tbs ∧ e.pra = s.pra ∧
      e.seqs = s.seqs.set u (.adopting n (s.image u).perm.lockout.val) ∧ (∀ v, v ≠ u → e.ramp v = s.ramp v) ∧
      (n ≠ .gOn ∨ (∀ b, s.bandOf u = some b → b.turb = false) → e.ramp u = s.ramp u) ∧
      (n = .gOn → ∀ b, s.bandOf u = some b → b.turb = true →
        (e.ramp u).setpoint = some (b.clamp (s.image u).power)) ∧
      RanFrom e [u] (n.stable = true) (verifiedEvent u s) := by
  obtain ⟨due, trig, settle⟩ := verified_owes u s
  have off := concluded_off agree hi .verified
  have ran := closeEvent_ranFrom (verified_held agree hi) (by rw [trig, verified_orderStands, ho]; rfl) settle
  have event := verifiedEvent_running u (orderStands_running ho)
  rw [due, ← event] at ran
  refine ⟨(Ev.verified u s).s, verified_alc u s, verified_dse u s, ?_, verified_tbs u s, verified_pra u s,
    verified_seqs u s, fun v hv => ?_, fun hn => ?_, fun hn b hb ht => verified_setpoint u s hn hb ht, ran⟩
  · rw [event, (closeEvent_frame _).uib]
  · exact (adopt_ramp_ne u (.start (concludeExchange u .verified s)) off hv).trans (concluded_ramp u s _ v)
  · refine (adopt_ramp_kept u (.start (concludeExchange u .verified s)) off ?_).trans (concluded_ramp u s _ u)
    refine hn.imp (fun k j => k ((adoptedState_concluded u _ s).symm.trans j)) fun k b hb => k b ?_
    exact (concluded_bandOf u s _).symm.trans hb

/-- What leaves the tables, the images, the plan, the sequencers and the arbiter leaves the agreement of resources. -/
theorem ResourcesAgree.withLinkUp {s : State} (h : ResourcesAgree s) (p : Port) : ResourcesAgree (s.withLinkUp p) :=
  ⟨h.queueNodup, h.queueState, h.granted, h.holderState, h.waitersNodup, h.waiterState, h.lockState, h.lockTaken, h.awake⟩

/-- Settles O48: the exchange concludes, and the adoption's event ends with a run under a standing order and with the
adopting sequencer's act alone without one. -/
theorem unitIdentVerifies : Obligations.UnitIdentVerifies := by
  intro h classCode rated pad s
  dsimp only
  intro hd
  refine ⟨fun hp => ?_, fun hp hu => ?_, fun u hp hu => ⟨fun hi => ?_, fun hi => ?_⟩⟩
  · refine (arriveDn_past (takeUnitIdent h classCode rated) (fun s => s) hd hp).trans ?_
    rw [ite_self]
  · refine (arriveDn_toPart (takeUnitIdent h classCode rated) (fun s => s) hd hp).trans ?_
    rw [takeUnitIdent, show unitAt h.src (s.withLinkUp .dn) = none from hu]
  · refine (arriveDn_toPart (takeUnitIdent h classCode rated) (fun s => s) hd hp).trans ?_
    rw [takeUnitIdent, show unitAt h.src (s.withLinkUp .dn) = some u from hu]
    exact congrArg Host.Outcome.next (if_neg hi)
  have hu' : unitAt h.src (s.withLinkUp .dn) = some u := hu
  have hi' : ((s.withLinkUp .dn).image u).identity = .identWait := hi
  have frame := takeUnitIdent_frame (k := classCode) (r := rated) hu' hi'
  have leaves := (concludeExchange_leaves u _ (s.withLinkUp .dn)).trans frame.leavesSetting
  refine ⟨takeUnitIdent h classCode rated (s.withLinkUp .dn),
    arriveDn_toPart (takeUnitIdent h classCode rated) (fun s => s) hd hp, ?_, fun v hv => ?_, leaves, fun hn => ?_,
    fun same hr agree => ?_, fun room hf hq => ?_⟩
  · rw [State.image, frame.uib, ← State.image, concludeExchange_image_self]
    rfl
  · rw [State.image, frame.uib, ← State.image, concludeExchange_image_ne _ _ _ hv]
    rfl
  · obtain ⟨n, hn⟩ := takeUnitIdent_plain (k := classCode) (r := rated) hu' hi' hn
    rw [hn, concludeExchange_seqs, concludeExchange_pra, concludeExchange_rmp, concludeExchange_alc, concludeExchange_dse,
      concludeExchange_lpu]
    exact ⟨rfl, rfl, rfl, rfl, rfl, rfl⟩
  · have event : takeUnitIdent h classCode rated (s.withLinkUp .dn) = verifiedEvent u (s.withLinkUp .dn) :=
      takeUnitIdent_same hu' hi' same
    have agree' := agree.withLinkUp .dn
    have record := verifiedEvent_record agree' hi' hr
    have setpoint := verifiedEvent_setpoint agree' hi' hr
    have ran := verifiedEvent_ran agree' hi'
    rw [← adoptedState_eq (s.image u), event]
    generalize verifiedEvent u (s.withLinkUp .dn) = t at record setpoint ran ⊢
    exact ⟨record, fun hn hm ho b hb ht => setpoint ho hn hm hb ht, ran⟩
  · obtain ⟨rs, hrs⟩ := frame.queue
    have queue := fun n => concludeExchange_queue u n (s.withLinkUp .dn) room hf hq
    rw [queue, List.append_assoc] at hrs
    exact ⟨rs, hrs⟩

end Sys2Proof.Machine
end

section
/-! The ranges of the table fields: what a write stores of each field lies in the field's range, which field a write is
answered CLAMPED with, and that a step leaves no table entry outside its ranges (R18, R22 to R24, R26, R30, R32 to
R34). -/

namespace Sys2Proof.Machine

-- One field (R22) -----------------------------------------------------------------------------------------

theorem le_intoRange {lo hi : Nat} (h : lo ≤ hi) (v : Nat) : lo ≤ intoRange lo hi v := by
  unfold intoRange
  split
  · exact le_rfl
  · split <;> omega

theorem intoRange_le {lo hi : Nat} (h : lo ≤ hi) (v : Nat) : intoRange lo hi v ≤ hi := by
  unfold intoRange
  split
  · exact h
  · split <;> omega

theorem powerIntoRange_le {lo hi : Nat} (h : lo ≤ hi) (v : Half) : powerIntoRange lo hi v ≤ hi := intoRange_le h _

theorem le_powerIntoRange {lo hi : Nat} (h : lo ≤ hi) (v : Half) : lo ≤ powerIntoRange lo hi v := le_intoRange h _

/-- The range rule over the signed value of a field. -/
def signedIntoRange (lo hi : Nat) (v : Int) : Nat := if v < lo then lo else if (hi : Int) < v then hi else v.toNat

theorem intoRange_eq_signed (lo hi v : Nat) : intoRange lo hi v = signedIntoRange lo hi v := by
  simp only [intoRange, signedIntoRange, Nat.cast_lt, Int.toNat_natCast]

theorem powerIntoRange_eq_signed (lo hi : Nat) (v : Half) : powerIntoRange lo hi v = signedIntoRange lo hi v.toInt := by
  unfold powerIntoRange intoRange signedIntoRange
  have below : v.toInt.toNat < lo ∨ ¬v.toInt.toNat < lo ∧ ¬v.toInt < lo ∨ lo = 0 ∧ v.toInt < 0 := by omega
  obtain h | ⟨h, h'⟩ | ⟨rfl, h⟩ := below
  · rw [if_pos h, if_pos (by omega)]
  · rw [if_neg h, if_neg h']
    exact if_congr (by omega) rfl rfl
  · rw [if_neg (by omega), if_neg (by omega), if_pos (by omega)]
    omega

/-- A stored power is at most 5000, so that its carried form is the signed value given exactly when it is the unsigned
one. -/
theorem power_toNat_eq_iff (v : Half) {p : Nat} (h : p ≤ 5000) : v.toNat = p ↔ v.toInt = (p : Int) := by
  rw [BitVec.toInt_eq_toNat_cond]
  have := v.isLt
  split <;> omega

theorem ofNat_eq_iff {w v : Nat} (h : v < 2 ^ w) (x : BitVec w) : BitVec.ofNat w v = x ↔ x.toNat = v := by
  rw [← BitVec.toNat_inj, BitVec.toNat_ofNat, Nat.mod_eq_of_lt h, eq_comm]

theorem flag_eq_decide (b : Byte) : (b != 0) = decide (1 ≤ b.toNat) := by
  rw [Bool.eq_iff_iff, bne_iff_ne, decide_eq_true_iff, ne_eq, ← BitVec.toNat_inj, show (0 : Byte).toNat = 0 from rfl]
  omega

theorem bit_lt_width {w : Nat} (h : 0 < w) (b : Bool) : b.toNat < 2 ^ w :=
  (Bool.toNat_lt b).trans_le (by simpa using Nat.pow_le_pow_right (n := 2) (by decide) h)

-- The field a write is answered CLAMPED with (R23) --------------------------------------------------------

/-- The number, from 1, of the first pair that differs; 0 when none does. -/
def firstChanged (l : List (Int × Int)) : Nat :=
  if ∃ x ∈ l, x.1 ≠ x.2 then l.findIdx (fun x => x.1 != x.2) + 1 else 0

/-- Two lists of fields, the first numbered from a number on, differ at the same fields. -/
inductive SameChanges : Nat → List (Nat × Nat × Nat) → List (Int × Int) → Prop
  | nil (k : Nat) : SameChanges k [] []
  | cons {k given stored : Nat} {a b : Int} {l : List (Nat × Nat × Nat)} {m : List (Int × Int)}
      (h : given = stored ↔ a = b) (rest : SameChanges (k + 1) l m) :
      SameChanges k ((k, given, stored) :: l) ((a, b) :: m)

theorem SameChanges.firstClamped_eq {k : Nat} {l : List (Nat × Nat × Nat)} {m : List (Int × Int)} (h : SameChanges k l m) :
    firstClamped l = if ∃ x ∈ m, x.1 ≠ x.2 then m.findIdx (fun x => x.1 != x.2) + k else 0 := by
  induction h with
  | nil k => simp [firstClamped]
  | @cons k given stored a b l m hf rest ih =>
    by_cases hab : a = b
    · have same : ((a, b).1 != (a, b).2) = false := by simp [hab]
      have later : (∃ x ∈ (a, b) :: m, x.1 ≠ x.2) ↔ ∃ x ∈ m, x.1 ≠ x.2 := by simp [hab]
      rw [firstClamped, if_pos (hf.mpr hab), ih, List.findIdx_cons, same, if_congr later rfl rfl, cond_false,
        Nat.add_right_comm, Nat.add_assoc]
    · have differ : ((a, b).1 != (a, b).2) = true := by simp [hab]
      rw [firstClamped, if_neg (mt hf.mp hab), if_pos ⟨_, List.mem_cons_self, hab⟩, List.findIdx_cons, differ]
      simp

theorem SameChanges.firstChanged_eq {l : List (Nat × Nat × Nat)} {m : List (Int × Int)} (h : SameChanges 1 l m) :
    firstClamped l = firstChanged m := h.firstClamped_eq

theorem SameChanges.cons_nat {k given stored : Nat} {l : List (Nat × Nat × Nat)} {m : List (Int × Int)}
    (rest : SameChanges (k + 1) l m) : SameChanges k ((k, given, stored) :: l) (((given : Int), (stored : Int)) :: m) :=
  .cons Int.natCast_inj.symm rest

theorem SameChanges.cons_power {k : Nat} {v : Half} {p : Nat} {l : List (Nat × Nat × Nat)} {m : List (Int × Int)}
    (h : p ≤ 5000) (rest : SameChanges (k + 1) l m) :
    SameChanges k ((k, v.toNat, p) :: l) ((v.toInt, (p : Int)) :: m) :=
  .cons (power_toNat_eq_iff v h) rest

theorem firstClamped_nil : firstClamped [] = 0 := rfl

theorem firstClamped_cons_eq_zero {field given stored : Nat} (h : field ≠ 0) (l : List (Nat × Nat × Nat)) :
    firstClamped ((field, given, stored) :: l) = 0 ↔ given = stored ∧ firstClamped l = 0 := by
  rw [firstClamped]
  split <;> simp_all

-- The entries (R24, R26, R30, R32) ------------------------------------------------------------------------

theorem Plant.ofFields_inRange (f : PlantFields) : (Plant.ofFields f).InRange := by
  constructor <;> simp [Plant.ofFields, intoRange_le, le_intoRange]

theorem plantClamped_eq_zero (f : PlantFields) : plantClamped f = 0 ↔ (Plant.ofFields f).fields = f := by
  obtain ⟨ti, sc, gt, st, iw, de, ca, rt⟩ := f
  have range := Plant.ofFields_inRange ⟨ti, sc, gt, st, iw, de, ca, rt⟩
  simp (disch := decide) only [plantClamped, firstClamped_cons_eq_zero, Plant.fields, PlantFields.mk.injEq,
    firstClamped_nil, and_true]
  rw [ofNat_eq_iff (by have := range.ti; omega), ofNat_eq_iff (bit_lt_width (by decide) _),
    ofNat_eq_iff (by have := range.guardTime; omega), ofNat_eq_iff (by have := range.staleTime; omega),
    ofNat_eq_iff (by have := range.identWait; omega), ofNat_eq_iff (by have := range.debounce; omega),
    ofNat_eq_iff (by have := range.convAddr; omega), ofNat_eq_iff (by have := range.releaseTime; omega)]

theorem plantClamped_eq_firstChanged (f : PlantFields) :
    let p := Plant.ofFields f
    plantClamped f = firstChanged [(f.ti.toNat, p.ti), (f.shortCircuit.toNat, p.shortCircuit.toNat),
      (f.guardTime.toNat, p.guardTime), (f.staleTime.toNat, p.staleTime), (f.identWait.toNat, p.identWait),
      (f.debounce.toNat, p.debounce), (f.convAddr.toNat, p.convAddr), (f.releaseTime.toNat, p.releaseTime)] :=
  SameChanges.firstChanged_eq
    (.cons_nat (.cons_nat (.cons_nat (.cons_nat (.cons_nat (.cons_nat (.cons_nat (.cons_nat (.nil _)))))))))

theorem UnitEntry.ofFields_addr (present : Byte) (f : UnitFields) :
    1 ≤ (UnitEntry.ofFields present f).addr ∧ (UnitEntry.ofFields present f).addr ≤ 30 :=
  ⟨le_intoRange (by decide) _, intoRange_le (by decide) _⟩

theorem UnitEntry.ofFields_inRange (present : Byte) (f : UnitFields) : (UnitEntry.ofFields present f).InRange where
  addr := (UnitEntry.ofFields_addr present f).2
  present _ := (UnitEntry.ofFields_addr present f).1
  classCode := Nat.le_of_lt_succ f.classCode.isLt
  rated := ⟨le_powerIntoRange (by decide) _, powerIntoRange_le (by decide) _⟩
  minRun := intoRange_le (Nat.zero_le _) _
  minStill := intoRange_le (Nat.zero_le _) _
  linger := intoRange_le (Nat.zero_le _) _

theorem Waterway.number_lt (w : Waterway) : w.number < 2 ^ 8 := by cases w <;> decide

theorem Assign.code_lt (a : Assign) : a.code < 2 ^ 8 := by cases a <;> decide

theorem UnitEntry.ofFields_waterway (present : Byte) (f : UnitFields) :
    (UnitEntry.ofFields present f).waterway.number = signedIntoRange 1 2 f.waterway.toNat := by
  rw [← intoRange_eq_signed]
  show (if f.waterway.toNat < 2 then Waterway.w1 else .w2).number = _
  unfold intoRange
  split
  · split
    · rfl
    · split
      · omega
      · show 1 = f.waterway.toNat
        omega
  · rw [if_neg (by omega)]
    split
    · rfl
    · show 2 = f.waterway.toNat
      omega

theorem UnitEntry.ofFields_profile (present : Byte) (f : UnitFields) :
    (UnitEntry.ofFields present f).profile.val = signedIntoRange 0 3 f.profile.toNat := by
  rw [← intoRange_eq_signed]
  show (if h : f.profile.toNat < 4 then (⟨f.profile.toNat, h⟩ : Fin 4) else 3).val = _
  unfold intoRange
  split
  · rw [if_neg (by omega), if_neg (by omega)]
  · rw [if_neg (by omega), if_pos (by omega)]
    rfl

theorem present_unclamped_iff (present : Byte) : present.toNat = (present != 0).toNat ↔ present.toNat ≤ 1 := by
  rw [flag_eq_decide]
  by_cases h : 1 ≤ present.toNat
  · rw [decide_eq_true h, Bool.toNat_true]
    omega
  · rw [decide_eq_false h, Bool.toNat_false]
    omega

theorem unitClamped_eq_zero (present : Byte) (f : UnitFields) :
    unitClamped present f = 0 ↔ (UnitEntry.ofFields present f).fields = f ∧ present.toNat ≤ 1 := by
  have range := UnitEntry.ofFields_inRange present f
  rw [← present_unclamped_iff, and_comm]
  obtain ⟨addr, ww, pr, cc, rated, asg, mr, ms, li⟩ := f
  simp (disch := decide) only [unitClamped, firstClamped_cons_eq_zero, UnitEntry.fields, UnitFields.mk.injEq,
    firstClamped_nil, and_true]
  rw [ofNat_eq_iff (by have := range.addr; omega), ofNat_eq_iff (Waterway.number_lt _),
    ofNat_eq_iff (by have := (UnitEntry.ofFields present ⟨addr, ww, pr, cc, rated, asg, mr, ms, li⟩).profile.isLt; omega),
    ofNat_eq_iff (by have := range.classCode; omega), ofNat_eq_iff (by have := range.rated; omega),
    ofNat_eq_iff (Assign.code_lt _), ofNat_eq_iff (by have := range.minRun; omega),
    ofNat_eq_iff (by have := range.minStill; omega), ofNat_eq_iff (by have := range.linger; omega)]
  rfl

theorem unitClamped_eq_firstChanged (present : Byte) (f : UnitFields) :
    let e := UnitEntry.ofFields present f
    unitClamped present f = firstChanged [(present.toNat, e.present.toNat), (f.addr.toNat, e.addr),
      (f.waterway.toNat, e.waterway.number), (f.profile.toNat, e.profile.val), (f.classCode.toNat, e.classCode),
      (f.rated.toInt, e.rated), (f.assign.toNat, e.assign.code), (f.minRun.toNat, e.minRun),
      (f.minStill.toNat, e.minStill), (f.linger.toNat, e.linger)] :=
  SameChanges.firstChanged_eq
    (.cons_nat (.cons_nat (.cons_nat (.cons_nat (.cons_nat (.cons_power (UnitEntry.ofFields_inRange present f).rated.2
      (.cons_nat (.cons_nat (.cons_nat (.cons_nat (.nil _)))))))))))

theorem Profile.ofFields_inRange (f : ProfileFields) : (Profile.ofFields f).InRange := by
  constructor <;> simp [Profile.ofFields, Profile.timeouts, intoRange_le, le_intoRange]

theorem profileClamped_eq_zero (f : ProfileFields) : profileClamped f = 0 ↔ (Profile.ofFields f).fields = f := by
  have time (v : Nat) : intoRange 0 3600 v < 4096 := (intoRange_le (by decide) v).trans_lt (by decide)
  have rate (v : Nat) : intoRange 0 1000 v < 4096 := (intoRange_le (by decide) v).trans_lt (by decide)
  have hyst (v : Nat) : intoRange 0 500 v < 4096 := (intoRange_le (by decide) v).trans_lt (by decide)
  have bands (v : Nat) : intoRange 0 12 v < 16 := (intoRange_le (by decide) v).trans_lt (by decide)
  have refresh (v : Nat) : intoRange 1 60 v < 256 := (intoRange_le (by decide) v).trans_lt (by decide)
  obtain ⟨t1, t2, t3, t4, t5, t6, t7, t8, t9, t10, r0, r1, r2, r3, hy, bc, re⟩ := f
  simp (disch := simp [time, rate, hyst, bands, refresh]) only [
    profileClamped, Profile.ofFields, firstClamped_cons_eq_zero, Profile.fields, ProfileFields.mk.injEq,
    firstClamped_nil, and_true, ofNat_eq_iff]
  exact iff_of_eq (by ac_rfl)

theorem bandClamped_eq_zero (f : BandFields) : bandClamped f = 0 ↔ (Band.ofFields f).fields = f := by
  have level (v : Nat) : intoRange 0 15000 v < 65536 := (intoRange_le (by decide) v).trans_lt (by decide)
  have power (v : Half) : powerIntoRange 0 5000 v < 65536 := (powerIntoRange_le (by decide) v).trans_lt (by decide)
  have flag (b : Bool) : b.toNat < 256 := (Bool.toNat_lt b).trans (by decide)
  obtain ⟨lo, g1, g2, pp, z1, z2, tu, pu⟩ := f
  simp (disch := simp [level, power, flag]) only [bandClamped, Band.ofFields,
    firstClamped_cons_eq_zero, Band.fields, BandFields.mk.injEq, firstClamped_nil, and_true, ofNat_eq_iff]

theorem profileClamped_eq_firstChanged (f : ProfileFields) :
    let p := Profile.ofFields f
    profileClamped f = firstChanged [(f.tRunup.toNat, p.tRunup), (f.tSync.toNat, p.tSync), (f.tLoad.toNat, p.tLoad),
      (f.tUnload.toNat, p.tUnload), (f.tStop.toNat, p.tStop), (f.tDewater.toNat, p.tDewater),
      (f.tPrun.toNat, p.tPrun), (f.tPrime.toNat, p.tPrime), (f.tConvwait.toNat, p.tConvwait),
      (f.tLockwait.toNat, p.tLockwait), (f.rate0.toNat, p.rate0), (f.rate1.toNat, p.rate1),
      (f.rate2.toNat, p.rate2), (f.rate3.toNat, p.rate3), (f.refresh.toNat, p.refresh),
      (f.bandCount.toNat, p.bandCount), (f.hyst.toNat, p.hyst)] :=
  SameChanges.firstChanged_eq
    (.cons_nat (.cons_nat (.cons_nat (.cons_nat (.cons_nat (.cons_nat (.cons_nat (.cons_nat (.cons_nat (.cons_nat
      (.cons_nat (.cons_nat (.cons_nat (.cons_nat (.cons_nat (.cons_nat (.cons_nat (.nil _))))))))))))))))))

theorem Band.ofFields_inRange (f : BandFields) : (Band.ofFields f).InRange := by
  constructor <;> simp [Band.ofFields, powerIntoRange_le, intoRange_le]

theorem bandClamped_eq_firstChanged (f : BandFields) :
    let b := Band.ofFields f
    bandClamped f = firstChanged [(f.lower.toNat, b.lower), (f.gmin.toInt, b.gmin), (f.gmax.toInt, b.gmax),
      (f.ppump.toInt, b.ppump), (f.rzlo.toInt, b.rzlo), (f.rzhi.toInt, b.rzhi), (f.turb.toNat, b.turb.toNat),
      (f.pump.toNat, b.pump.toNat)] :=
  have range := Band.ofFields_inRange f
  SameChanges.firstChanged_eq
    (.cons_nat (.cons_power range.gmin (.cons_power range.gmax (.cons_power range.ppump (.cons_power range.rzlo
      (.cons_power range.rzhi (.cons_nat (.cons_nat (.nil _)))))))))

/-- Settles O27: field by field the model's range rule is the one over the signed value, and the list its first clamped
field is sought in differs from the stored values where the statement's list does. -/
theorem writesStoreClampedFields : Obligations.WritesStoreClampedFields := by
  refine ⟨fun f => ⟨?_, Plant.ofFields_inRange f, plantClamped_eq_zero f, plantClamped_eq_firstChanged f⟩,
    fun present f => ⟨flag_eq_decide present, intoRange_eq_signed _ _ _, UnitEntry.ofFields_waterway present f,
      UnitEntry.ofFields_profile present f, rfl, powerIntoRange_eq_signed _ _ _, rfl, intoRange_eq_signed 0 7200 _,
      intoRange_eq_signed 0 7200 _, intoRange_eq_signed 0 1800 _, UnitEntry.ofFields_inRange present f,
      unitClamped_eq_zero present f, unitClamped_eq_firstChanged present f⟩,
    fun f => ⟨?_, Profile.ofFields_inRange f, profileClamped_eq_zero f, profileClamped_eq_firstChanged f⟩,
    fun f => ⟨?_, Band.ofFields_inRange f, bandClamped_eq_zero f, bandClamped_eq_firstChanged f⟩⟩
  · simp only [Plant.ofFields, intoRange_eq_signed, flag_eq_decide]
    rfl
  · simp only [Profile.ofFields, intoRange_eq_signed]
    rfl
  · simp only [Band.ofFields, intoRange_eq_signed, powerIntoRange_eq_signed, flag_eq_decide]
    rfl

-- The merit lists (R33) -----------------------------------------------------------------------------------

theorem outsideField_eq_none {field : Nat} {l : List Nat} :
    outsideField field l = none ↔ ∀ n ∈ l, 1 ≤ n ∧ n ≤ 6 := by
  induction l generalizing field with
  | nil => simp [outsideField]
  | cons n l ih =>
    rw [outsideField, List.forall_mem_cons]
    split
    · next h => rw [ih, and_iff_right h]
    · next h => simp [h]

theorem repeatedField_eq_none {field : Nat} {seen l : List Nat} :
    repeatedField field seen l = none ↔ l.Nodup ∧ ∀ n ∈ l, n ∉ seen := by
  induction l generalizing field seen with
  | nil => simp [repeatedField]
  | cons n l ih =>
    rw [repeatedField, List.nodup_cons, List.forall_mem_cons]
    split
    · next h => simp [h]
    · next h =>
      rw [ih]
      simp only [List.mem_cons, not_or, forall_and, h, not_false_eq_true, true_and]
      constructor
      · rintro ⟨hl, hn, hs⟩
        exact ⟨⟨fun hm => hn n hm rfl, hl⟩, hs⟩
      · rintro ⟨⟨hn, hl⟩, hs⟩
        exact ⟨hl, fun m hm e => hn (e ▸ hm), hs⟩

/-- A MERIT write is stored when its length and its listed numbers are within range and no number repeats. -/
theorem meritFault_eq_none (f : MeritFields) : meritFault f = none ↔
    f.len.toNat ≤ 6 ∧ (∀ n ∈ meritListed f, 1 ≤ n ∧ n ≤ 6) ∧ (meritListed f).Nodup := by
  unfold meritFault
  split
  · next h => simp [h]
  · next h =>
    rw [and_iff_right (by omega : f.len.toNat ≤ 6), ← outsideField_eq_none (field := 2)]
    cases ho : outsideField 2 (meritListed f) with
    | some k => simp
    | none => simp [repeatedField_eq_none]

theorem number_of_ofNumber {n : Nat} {u : UnitNo} (h : UnitNo.ofNumber n = some u) : u.number = n := by
  simpa using List.find?_some h

theorem ofNumber_of_bounds {n : Nat} (h : 1 ≤ n ∧ n ≤ 6) : ∃ u, UnitNo.ofNumber n = some u := by
  obtain ⟨h1, h6⟩ := h
  interval_cases n <;> exact ⟨_, rfl⟩

theorem ofNumber_eq_none {n : Nat} (h : n = 0 ∨ 6 < n) : UnitNo.ofNumber n = none := by
  cases hu : UnitNo.ofNumber n with
  | none => rfl
  | some u =>
    have := number_of_ofNumber hu
    have bounds : 1 ≤ u.number ∧ u.number ≤ 6 := by cases u <;> decide
    omega

/-- The stored list carries the listed numbers in their order. -/
theorem meritUnits_numbers (f : MeritFields) (h : ∀ n ∈ meritListed f, 1 ≤ n ∧ n ≤ 6) :
    (meritUnits f).map UnitNo.number = meritListed f := by
  unfold meritUnits
  generalize meritListed f = l at h
  induction l with
  | nil => rfl
  | cons n l ih =>
    obtain ⟨hn, hl⟩ := List.forall_mem_cons.mp h
    obtain ⟨u, hu⟩ := ofNumber_of_bounds hn
    rw [List.filterMap_cons_some hu, List.map_cons, ih hl, number_of_ofNumber hu]

theorem meritUnits_nodup (f : MeritFields) (h : meritFault f = none) : (meritUnits f).Nodup := by
  obtain ⟨-, range, once⟩ := (meritFault_eq_none f).mp h
  rw [← meritUnits_numbers f range] at once
  exact once.of_map _

-- A step keeps the ranges (R18) --------------------------------------------------------------------------

/-- An answer or a write that stores an entry in its ranges keeps every entry in its ranges. -/
theorem takeWrite_inRange {α : Type} (h : Hdr) (answer : MgtCode → Nat → Report) (d : Decision α)
    (effect : α → State → State) (s : State) (hs : s.tbs.InRange)
    (he : ∀ k x t, d = .store k x → t.tbs.InRange → (effect x t).tbs.InRange) :
    (takeWrite h answer d effect s).tbs.InRange := by
  have push (r : Report) : (pushReport r s).tbs.InRange := (pushReport_frame r s).tbs ▸ hs
  obtain hw | ⟨r, hw⟩ | ⟨k, x, r, hd, hw⟩ := takeWrite_cases h answer d effect s <;> rw [hw]
  · exact hs
  · exact push r
  · exact he k x _ hd (push r)

theorem Tbs.InRange.setPlant {t : Tbs} (h : t.InRange) {p : Plant} (hp : p.InRange) :
    Tbs.InRange { t with plant := p } :=
  { h with plant := hp }

theorem Tbs.InRange.setUnit {t : Tbs} (h : t.InRange) (u : UnitNo) {e : UnitEntry} (he : e.InRange) :
    Tbs.InRange { t with units := t.units.set u e } := by
  refine { h with units := fun v => ?_ }
  rw [PerUnit.get_set]
  split
  · exact he
  · exact h.units v

theorem Tbs.InRange.setProfile {t : Tbs} (h : t.InRange) (p : Fin 4) {n : Profile} (hn : n.InRange) :
    Tbs.InRange { t with profiles := t.profiles.set p n } := by
  refine { h with profiles := fun q => ?_ }
  rw [Fin.getElem_fin, Vector.getElem_set]
  split
  · exact hn
  · exact h.profiles q

theorem Tbs.InRange.setBand {t : Tbs} (h : t.InRange) (p : Fin 4) (k : Fin 12) {b : Band} (hb : b.InRange) :
    Tbs.InRange { t with bands := t.bands.set p ((t.bands[p]).set k b) } := by
  refine { h with bands := fun q j => ?_ }
  simp only [Fin.getElem_fin, Vector.getElem_set]
  split
  · rw [Vector.getElem_set]
    split
    · exact hb
    · exact h.bands p j
  · exact h.bands q j

theorem Tbs.InRange.setBudget {t : Tbs} (h : t.InRange) (w : Waterway) {b : Nat} (hb : b ≤ 2000) :
    Tbs.InRange { t with budgets := t.budgets.set w b } := by
  refine { h with budgets := fun x => ?_ }
  by_cases hx : x = w
  · subst hx
    rw [PerWaterway.get_set_self]
    exact hb
  · rw [PerWaterway.get_set_ne _ _ _ _ hx]
    exact h.budgets x

theorem Tbs.InRange.setGate {t : Tbs} (h : t.InRange) (g : Bool) : Tbs.InRange { t with gateOpen := g } := { h with }

theorem TakeFrame.inRange {b : Bool} {s t : State} (h : TakeFrame false b s t) (hs : s.tbs.InRange) : t.tbs.InRange :=
  h.tbs rfl ▸ hs

theorem storePlant_tbs (p : Plant) (s : State) : (storePlant p s).tbs = { s.tbs with plant := p } := by
  unfold storePlant
  dsimp only
  split <;> rfl

theorem storeProfile_tbs (p : Fin 4) (n : Profile) (s : State) :
    (storeProfile p n s).tbs = { s.tbs with profiles := s.tbs.profiles.set p n } :=
  (recomputeProfile_take (a := false) (b := false) p none _).tbs rfl

theorem storeBand_tbs (p : Fin 4) (k : Fin 12) (n : Band) (s : State) :
    (storeBand p k n s).tbs = { s.tbs with bands := s.tbs.bands.set p ((s.tbs.bands[p]).set k n) } :=
  (recomputeProfile_take (a := false) (b := false) p (some k) _).tbs rfl

theorem storeMerit_tbs (index : Byte) (l : List UnitNo) (s : State) : (storeMerit index l s).tbs =
    if index = 0 then { s.tbs with meritGen := l } else { s.tbs with meritPump := l } :=
  (closeEvent_take (a := false) (b := false) (.trigger true (.start _))).tbs rfl

theorem setGate_inRange {s : State} (g : Bool) (r : Report) (hs : s.tbs.InRange) :
    (pushReport r (s.setTbs { s.tbs with gateOpen := g })).tbs.InRange :=
  (pushReport_take (a := false) (b := false) r _).inRange (hs.setGate g)

-- What a stored decision stores is what the fields are brought to.

theorem decidePlant_entry {s : State} {index : Byte} {f : PlantFields} {k : Nat} {p : Plant}
    (h : decidePlant s index f = .store k p) : p = Plant.ofFields f := by
  unfold decidePlant at h
  dsimp only at h
  split_ifs at h
  cases h
  rfl

theorem decideUnit_entry {s : State} {index present : Byte} {f : UnitFields} {k : Nat} {x : UnitNo × UnitEntry}
    (h : decideUnit s index present f = .store k x) : x.2 = UnitEntry.ofFields present f := by
  unfold decideUnit at h
  dsimp only at h
  split at h
  · cases h
  · split_ifs at h
    cases h
    rfl

theorem decideProfile_entry {s : State} {index : Byte} {f : ProfileFields} {k : Nat} {x : Fin 4 × Profile}
    (h : decideProfile s index f = .store k x) : x.2 = Profile.ofFields f := by
  unfold decideProfile at h
  dsimp only at h
  split at h
  · cases h
  · split_ifs at h
    · split at h <;> cases h
      rfl
    · cases h
      rfl

theorem decideBand_entry {profile band : Byte} {f : BandFields} {k : Nat} {x : Fin 4 × Fin 12 × Band}
    (h : decideBand profile band f = .store k x) : x.2.2 = Band.ofFields f := by
  unfold decideBand at h
  split at h <;> cases h
  rfl

theorem decideMerit_entry {index : Byte} {f : MeritFields} {k : Nat} {l : List UnitNo}
    (h : decideMerit index f = .store k l) : l.Nodup := by
  unfold decideMerit at h
  split_ifs at h
  split at h
  · cases h
  · next hf =>
    cases h
    exact meritUnits_nodup f hf

theorem decideWaterway_entry {s : State} {index : Byte} {budget : Half} {k : Nat} {x : Waterway × Nat}
    (h : decideWaterway s index budget = .store k x) : x.2 ≤ 2000 := by
  unfold decideWaterway at h
  split at h
  · cases h
  · split_ifs at h
    cases h
    exact intoRange_le (Nat.zero_le _) _

/-- The acts that may change the tables keep them within their ranges. -/
theorem takeTableCell_inRange (i : Instr) (s : State) (hs : s.tbs.InRange) (hw : i.writesTables = true) :
    (takeOrderOrMgt i s).tbs.InRange := by
  cases i <;> cases hw
  case tableGateOpen h _ =>
    show (takeGateOpen h s).tbs.InRange
    unfold takeGateOpen
    split
    · exact hs
    · exact setGate_inRange _ _ hs
  case tableGateClose h _ =>
    show (takeGateClose h s).tbs.InRange
    unfold takeGateClose
    split
    · exact hs
    · exact setGate_inRange _ _ hs
  case plantWrite =>
    refine takeWrite_inRange _ _ _ _ s hs fun k p t hd ht => ?_
    rw [storePlant_tbs]
    exact ht.setPlant (decidePlant_entry hd ▸ Plant.ofFields_inRange _)
  case unitWritePresent =>
    refine takeWrite_inRange _ _ _ _ s hs fun k x t hd ht => ?_
    rw [storePresent_tbs]
    exact ht.setUnit _ (decideUnit_entry hd ▸ UnitEntry.ofFields_inRange _ _)
  case unitWriteAbsent =>
    exact takeWrite_inRange _ _ _ _ s hs fun k x t hd ht =>
      ht.setUnit x.1 (decideUnit_entry hd ▸ UnitEntry.ofFields_inRange _ _)
  case profileWrite =>
    refine takeWrite_inRange _ _ _ _ s hs fun k x t hd ht => ?_
    rw [storeProfile_tbs]
    exact ht.setProfile _ (decideProfile_entry hd ▸ Profile.ofFields_inRange _)
  case bandWrite =>
    refine takeWrite_inRange _ _ _ _ s hs fun k x t hd ht => ?_
    rw [storeBand_tbs]
    exact ht.setBand _ _ (decideBand_entry hd ▸ Band.ofFields_inRange _)
  case meritWrite =>
    refine takeWrite_inRange _ _ _ _ s hs fun k l t hd ht => ?_
    rw [storeMerit_tbs]
    split
    · exact { ht with meritGen := decideMerit_entry hd }
    · exact { ht with meritPump := decideMerit_entry hd }
  case waterwayWrite =>
    exact takeWrite_inRange _ _ _ _ s hs fun k x t hd ht => ht.setBudget _ (decideWaterway_entry hd)
  case tableWriteUnknownTable => exact takeWrite_inRange _ _ _ _ s hs fun k x t _ ht => ht
  case restart h _ => exact (takeRestart_take (a := false) (b := false) h s).inRange (hs.setGate false)

theorem takeOrderOrMgt_inRange (i : Instr) (s : State) (hs : s.tbs.InRange) : (takeOrderOrMgt i s).tbs.InRange := by
  by_cases hw : i.writesTables = true
  · exact takeTableCell_inRange i s hs hw
  · exact (takeOrderOrMgt_command i s).tbs (Bool.not_eq_true _ ▸ hw) ▸ hs

theorem UpOutcome.inRange {i : Instr} {c : Cell} {s t : State} (h : UpOutcome i c s t) (hs : s.tbs.InRange) :
    t.tbs.InRange := by
  obtain ⟨-, rfl | rfl⟩ | ⟨x, hx, ht⟩ := h
  · exact hs
  · exact (raiseFlag_frame _ s).quiet.inRange hs
  · have taken : x.tbs.InRange := by
      obtain rfl | rfl := hx
      · exact hs
      · exact takeOrderOrMgt_inRange i _ hs
    obtain rfl | rfl := ht
    · exact taken
    · exact (forwardDn_command (a := false) (b := false) c x).tbs rfl ▸ taken

/-- A command keeps the tables within their ranges: the release of RESET_N gives them their cold values, a table cell
stores what it has brought into range, and every other command leaves the entries. -/
theorem exec_inRange (i : Instr) (s t : State) (hs : s.tbs.InRange) (h : exec i s = .next t) : t.tbs.InRange := by
  by_cases hi : ∃ strap, i = .resetNRelease strap
  · obtain ⟨strap, rfl⟩ := hi
    cases h
    exact Tbs.cold_inRange
  · have keep (k : CommandFrame false false s t) : t.tbs.InRange := k.tbs rfl ▸ hs
    cases hc : cellOf i with
    | some c =>
      cases hd : i.atDn
      · exact (exec_up_outcome i c s t hc hd h).inRange hs
      · exact keep (exec_dn_outcome i c s t hc hd h).command
    | none => exact keep (exec_timer_command i s t hc (fun strap k => hi ⟨strap, k⟩) h)

/-- Settles O28: what a step can store in a table is a written entry brought into its ranges, or the cold tables. -/
theorem tablesStayInRange : Obligations.TablesStayInRange := by
  intro s t hs h
  obtain rfl | ⟨i, rest, -, hx⟩ := step_next s t h
  · exact hs
  · exact exec_inRange i { s with pending := rest } t hs hx

end Sys2Proof.Machine
end

section
/-! The table writes of PLANT and WATERWAY, what a write is refused for, and the checks of an ENGINE RUN (R20, R24 to R27,
R34, R39, R64). -/

namespace Sys2Proof.Machine

-- A write with the gate open (R20) ------------------------------------------------------------------------

/-- A write whose decision refuses is answered, and that is all. -/
theorem write_refused {α : Type} {c : Cell} {s : State} {h : Hdr} {answer : MgtCode → Nat → Report}
    {decision : State → Decision α} {effect : α → State → State} {code : MgtCode} {field : Nat}
    (hd : DeliveredToPart c s) (hg : s.tbs.gateOpen = true) (refused : decision (s.withLinkUp .up) = .refuse code field) :
    event (arriveUp c fun t => takeWrite h answer (decision t) effect t) s =
      .next ((s.withLinkUp .up).reported (answer code field)) := by
  rw [arriveUp_toPart _ hd.1 hd.2.1, refused, takeWrite, pushReport_eq_reported]
  exact congrArg Host.Outcome.next (if_pos hg)

/-- A write whose decision stores is answered, and then has its effect (R21). -/
theorem write_stored {α : Type} {c : Cell} {s : State} {h : Hdr} {answer : MgtCode → Nat → Report}
    {decision : State → Decision α} {effect : α → State → State} {k : Nat} {x : α} (hd : DeliveredToPart c s)
    (hg : s.tbs.gateOpen = true) (stored : decision (s.withLinkUp .up) = .store k x) :
    event (arriveUp c fun t => takeWrite h answer (decision t) effect t) s =
      .next (effect x ((s.withLinkUp .up).reported (answer (if k = 0 then .accepted else .clamped) k))) := by
  rw [arriveUp_toPart _ hd.1 hd.2.1, stored, takeWrite_store _ _ _ _ _ (s.withLinkUp .up) hg, pushReport_eq_reported]

/-- What a report meets is the report queue and the link port alone, so that it may be queued after a change of tables and
images. -/
theorem reported_withTables (s : State) (r : Report) (x : Tbs) (y : Uib) :
    ({ s.reported r with tbs := x, uib := y } : State) = ({ s with tbs := x, uib := y } : State).reported r := by
  unfold State.reported
  by_cases h : s.rpb.queue.length < 16
  · rw [if_pos h, if_pos h]
  · rw [if_neg h, if_neg h]
    rfl

theorem reported_tbs (s : State) (r : Report) : (s.reported r).tbs = s.tbs :=
  pushReport_eq_reported r s ▸ (pushReport_frame r s).tbs

theorem reported_uib (s : State) (r : Report) : (s.reported r).uib = s.uib := by
  unfold State.reported
  split <;> rfl

/-- Storing in the tables alone, after an answer. -/
theorem setTbs_reported (s : State) (r : Report) (x : Tbs) :
    (s.reported r).setTbs x = ({ s with tbs := x } : State).reported r :=
  (congrArg (fun y => ({ s.reported r with tbs := x, uib := y } : State)) (reported_uib s r)).trans
    (reported_withTables s r x s.uib)

-- PLANT (R24, R25) ----------------------------------------------------------------------------------------

section
variable (s : State) (index : Byte) (f : PlantFields)

theorem any_presentAt (a : Nat) :
    UnitNo.all.any (presentAt s a) = true ↔ ∃ u, (s.unit u).present = true ∧ (s.unit u).addr = a := by
  simp [List.any_eq_true, presentAt, UnitNo.mem_all]

theorem decidePlant_noEntry (hi : index ≠ 0) : decidePlant s index f = .refuse .range 0 := if_pos hi

theorem decidePlant_running (hi : index = 0) (he : s.dse.engine ≠ .paused) :
    decidePlant s index f = .refuse .state 0 := (if_neg (not_not_intro hi)).trans (if_pos he)

theorem decidePlant_collides (hi : index = 0) (he : s.dse.engine = .paused)
    (hc : (Plant.ofFields f).convAddr = s.lpu.addr ∨
      ∃ u, (s.unit u).present = true ∧ (s.unit u).addr = (Plant.ofFields f).convAddr) :
    decidePlant s index f = .refuse .range 7 :=
  (if_neg (not_not_intro hi)).trans ((if_neg (not_not_intro he)).trans
    (if_pos (hc.imp_right (any_presentAt s _).mpr)))

theorem decidePlant_stores (hi : index = 0) (he : s.dse.engine = .paused)
    (hc : ¬((Plant.ofFields f).convAddr = s.lpu.addr ∨
      ∃ u, (s.unit u).present = true ∧ (s.unit u).addr = (Plant.ofFields f).convAddr)) :
    decidePlant s index f = .store (plantClamped f) (Plant.ofFields f) :=
  (if_neg (not_not_intro hi)).trans ((if_neg (not_not_intro he)).trans
    (if_neg (mt (Or.imp_right (any_presentAt s _).mp) hc)))

end

theorem storePlant_eq (p : Plant) (s : State) : storePlant p s = { s with
    tbs := { s.tbs with plant := p }
    uib := if p.convAddr = s.tbs.plant.convAddr then s.uib else { s.uib with conv := .cold } } := by
  unfold storePlant
  dsimp only
  split <;> rfl

/-- A stored PLANT entry with its answer (R25). -/
theorem storePlant_reported (p : Plant) (r : Report) (s : State) :
    storePlant p (s.reported r) = (storePlant p s).reported r := by
  rw [storePlant_eq, storePlant_eq, reported_uib, reported_tbs]
  exact reported_withTables s r _ _

/-- Settles O19: the decision in its order, and what a stored entry leaves of the converter image. -/
theorem plantWriteStoredOrRefused : Obligations.PlantWriteStoredOrRefused := by
  intro h index f pad s hd hg p answer collides
  have stored {k : Nat} {x : Plant} := write_stored (h := h) (answer := writeAnswer h tablePlant index 0)
    (decision := fun t => decidePlant t index f) (effect := storePlant) (k := k) (x := x) hd hg
  have refused {code : MgtCode} {field : Nat} := write_refused (h := h) (answer := writeAnswer h tablePlant index 0)
    (decision := fun t => decidePlant t index f) (effect := storePlant) (code := code) (field := field) hd hg
  refine ⟨fun hi he hc => ?_, fun hi => refused (decidePlant_noEntry _ _ _ hi),
    fun hi he => refused (decidePlant_running _ _ _ hi he),
    fun hi he hc => refused (decidePlant_collides (s.withLinkUp .up) _ _ hi he hc)⟩
  exact (stored (decidePlant_stores (s.withLinkUp .up) _ _ hi he hc)).trans
    (congrArg Host.Outcome.next ((storePlant_reported _ _ _).trans (by rw [storePlant_eq]; rfl)))

-- UNIT (R26, R27) -----------------------------------------------------------------------------------------

section
variable (s : State) (index present : Byte) (f : UnitFields) (u : UnitNo)

theorem addrCollides_eq_true (a : Nat) : addrCollides s u a = true ↔
    (∃ v, v ≠ u ∧ (s.unit v).present = true ∧ (s.unit v).addr = a) ∨ a = s.lpu.addr ∨ a = s.tbs.plant.convAddr := by
  simp [addrCollides, presentAt, UnitNo.mem_all, or_assoc]

theorem decideUnit_noUnit (hi : index.toNat = 0 ∨ 6 < index.toNat) :
    decideUnit s index present f = .refuse .range 0 := by
  rw [decideUnit, ofNumber_eq_none hi]

theorem decideUnit_running (hi : index.toNat = u.number) (he : s.dse.engine ≠ .paused) :
    decideUnit s index present f = .refuse .state 0 := by
  rw [decideUnit, hi, ofNumber_number]
  exact if_pos he

theorem decideUnit_collides (hi : index.toNat = u.number) (he : s.dse.engine = .paused) (hp : present ≠ 0)
    (hc : addrCollides s u (UnitEntry.ofFields present f).addr = true) :
    decideUnit s index present f = .refuse .range 2 := by
  rw [decideUnit, hi, ofNumber_number]
  exact (if_neg (not_not_intro he)).trans (if_pos ⟨bne_iff_ne.mpr hp, hc⟩)

theorem decideUnit_stores (hi : index.toNat = u.number) (he : s.dse.engine = .paused)
    (hc : addrCollides s u (UnitEntry.ofFields present f).addr = false) :
    decideUnit s index present f = .store (unitClamped present f) (u, UnitEntry.ofFields present f) := by
  rw [decideUnit, hi, ofNumber_number]
  exact (if_neg (not_not_intro he)).trans (if_neg fun k => Bool.false_ne_true (hc.symm.trans k.2))

end

/-- The two rows of a UNIT write differ in what they store alone. -/
theorem unitWrite_refused {h : Hdr} {index present : Byte} {f : UnitFields} {pad : BitVec 80} {i : Instr} {s : State}
    (hi : i = .unitWritePresent h index present f pad ∨ i = .unitWriteAbsent h index f pad ∧ present = 0)
    (hd : DeliveredToPart (cellUnitWrite h index present f pad) s) (hg : s.tbs.gateOpen = true) {code : MgtCode}
    {field : Nat} (refused : decideUnit (s.withLinkUp .up) index present f = .refuse code field) :
    exec i s = .next ((s.withLinkUp .up).reported (writeAnswer h tableUnit index 0 code field)) := by
  obtain rfl | ⟨rfl, rfl⟩ := hi
  · exact write_refused (decision := fun t => decideUnit t index present f) hd hg refused
  · exact write_refused (decision := fun t => decideUnit t index 0 f) hd hg refused

/-- Settles O22: each refusal of the decision, whatever the row would store. -/
theorem unitWriteRefused : Obligations.UnitWriteRefused := by
  intro h index present f pad i s hi hd hg answer
  exact ⟨fun hu => unitWrite_refused hi hd hg (decideUnit_noUnit _ _ _ _ hu),
    fun u hu he => unitWrite_refused hi hd hg (decideUnit_running (s.withLinkUp .up) _ _ _ u hu he),
    fun u hu he hp hc => unitWrite_refused hi hd hg (decideUnit_collides (s.withLinkUp .up) _ _ _ u hu he hp
      ((addrCollides_eq_true (s.withLinkUp .up) _ _).mpr hc))⟩

-- WATERWAY and entries that no table has (R18, R20, R34) --------------------------------------------------

theorem waterwayIndex_number (index : Byte) (w : Waterway) (h : index.toNat = w.number) :
    waterwayIndex index = some w := by
  have hi : index = BitVec.ofNat 8 w.number := by rw [← h, BitVec.ofNat_toNat, BitVec.setWidth_eq]
  subst hi
  cases w <;> rfl

theorem waterwayIndex_none (index : Byte) (h1 : index ≠ 1) (h2 : index ≠ 2) : waterwayIndex index = none := by
  rw [waterwayIndex, if_neg h1, if_neg h2]

theorem budgetOfField_eq (b : Half) : budgetOfField b = if 2000 < b.toNat then 2000 else b.toNat := by
  rw [budgetOfField, intoRange, if_neg (Nat.not_lt_zero _)]

theorem budgetClamped_eq (b : Half) : budgetClamped b = if 2000 < b.toNat then 1 else 0 := by
  rw [budgetClamped, budgetOfField_eq, firstClamped, firstClamped_nil]
  split <;> split <;> omega

section
variable (s : State) (index : Byte) (budget : Half)

theorem decideWaterway_noEntry (h1 : index ≠ 1) (h2 : index ≠ 2) : decideWaterway s index budget = .refuse .range 0 := by
  rw [decideWaterway, waterwayIndex_none _ h1 h2]

theorem decideWaterway_running (w : Waterway) (hi : index.toNat = w.number) (he : s.dse.engine ≠ .paused) :
    decideWaterway s index budget = .refuse .state 0 := by
  rw [decideWaterway, waterwayIndex_number _ w hi]
  exact if_pos he

theorem decideWaterway_stores (w : Waterway) (hi : index.toNat = w.number) (he : s.dse.engine = .paused) :
    decideWaterway s index budget = .store (budgetClamped budget) (w, budgetOfField budget) := by
  rw [decideWaterway, waterwayIndex_number _ w hi]
  exact if_neg (not_not_intro he)

end

theorem decideProfile_noEntry (s : State) (index : Byte) (f : ProfileFields) (h : 3 < index.toNat) :
    decideProfile s index f = .refuse .range 0 := by
  rw [decideProfile, profileIndex, dif_neg (by omega)]

theorem decideBand_noEntry (profile band : Byte) (f : BandFields) (h : 3 < profile.toNat ∨ 11 < band.toNat) :
    decideBand profile band f = .refuse .range 0 := by
  unfold decideBand
  split
  · next p k hp hk =>
    unfold profileIndex at hp
    unfold bandIndex at hk
    split_ifs at hp hk
    omega
  · rfl

theorem decideMerit_noEntry (index : Byte) (f : MeritFields) (h : 1 < index.toNat) :
    decideMerit index f = .refuse .range 0 := by
  have other {b : Byte} (hb : b.toNat ≤ 1) : index ≠ b := by
    rintro rfl
    omega
  exact if_pos ⟨other (by decide), other (by decide)⟩

/-- A budget write in PAUSED (R34). -/
theorem waterwayWrite_stored {h : Hdr} {index : Byte} {budget : Half} {pad : BitVec 176} {w : Waterway} {s : State}
    (hd : DeliveredToPart (cellWaterwayWrite h index budget pad) s) (hg : s.tbs.gateOpen = true)
    (hi : index.toNat = w.number) (he : s.dse.engine = .paused) :
    exec (.waterwayWrite h index budget pad) s = .next
      (({ s.withLinkUp .up with tbs := { s.tbs with budgets := s.tbs.budgets.set w (budgetOfField budget) } } : State).reported
        (writeAnswer h tableWaterway index 0 (if budgetClamped budget = 0 then .accepted else .clamped)
          (budgetClamped budget))) := by
  refine (write_stored (decision := fun t => decideWaterway t index budget) hd hg
    (decideWaterway_stores (s.withLinkUp .up) index budget w hi he)).trans (congrArg Host.Outcome.next ?_)
  show storeWaterway w (budgetOfField budget) _ = _
  rw [storeWaterway, setTbs_reported, reported_tbs]
  rfl

/-- Settles O25: the index checks of the four tables, and what a stored budget is. -/
theorem waterwayAndUnknownTableWrites : Obligations.WaterwayAndUnknownTableWrites := by
  refine ⟨fun h index budget pad w s hd hg hi => ⟨fun he => ?_, fun he => ?_⟩, fun h index budget pad s hd hg h1 h2 => ?_,
    fun h index f s hd hg hi => ?_, fun h profile band f pad s hd hg hi => ?_, fun h index f pad s hd hg hi => ?_,
    fun h table index rest s hd hg => ?_⟩
  · rw [waterwayWrite_stored hd hg hi he, budgetClamped_eq, budgetOfField_eq]
    split <;> rfl
  · exact write_refused hd hg (decideWaterway_running (s.withLinkUp .up) index budget w hi he)
  · exact write_refused hd hg (decideWaterway_noEntry _ index budget h1 h2)
  · exact write_refused hd hg (decideProfile_noEntry _ index f hi)
  · exact write_refused (decision := fun _ => decideBand profile band f) hd hg (decideBand_noEntry profile band f hi)
  · exact write_refused (decision := fun _ => decideMerit index f) hd hg (decideMerit_noEntry index f hi)
  · exact write_refused (α := Unit) (decision := fun _ => .refuse .range 0) hd hg rfl

-- ENGINE RUN (R39, R64) -----------------------------------------------------------------------------------

theorem firstZero_eq_none {l : List (Nat × Nat)} : firstZero l = none ↔ ∀ x ∈ l, x.2 ≠ 0 := by
  simp [firstZero]

/-- In a list numbered in ascending order, the first field that is 0 is the lowest-numbered one. -/
theorem firstZero_eq_some {l : List (Nat × Nat)} {k : Nat} (sorted : l.Pairwise fun x y => x.1 < y.1)
    (hk : (k, 0) ∈ l) (before : ∀ x ∈ l, x.1 < k → x.2 ≠ 0) : firstZero l = some k := by
  induction l with
  | nil => cases hk
  | cons x l ih =>
    obtain ⟨first, sorted⟩ := List.pairwise_cons.mp sorted
    obtain rfl | hk := List.mem_cons.mp hk
    · rfl
    · have nonzero : x.2 ≠ 0 := before x List.mem_cons_self (first _ hk)
      rw [firstZero, List.find?_cons_of_neg (by simpa using nonzero)]
      exact ih sorted hk fun y hy => before y (List.mem_cons_of_mem _ hy)

theorem Profile.timeouts_sorted (p : Profile) : p.timeouts.Pairwise fun x y => x.1 < y.1 := by
  simp [Profile.timeouts]

theorem UnitNo.all_sorted : UnitNo.all.Pairwise fun u v => u.number < v.number := by decide

section
variable {p : Profile}

theorem Profile.validation_noBands (hb : p.bandCount = 0) : p.validation = some 16 := if_pos hb

theorem Profile.validation_timeout {k : Nat} (hb : p.bandCount ≠ 0) (before : ∀ x ∈ p.timeouts, x.1 < k → x.2 ≠ 0)
    (hk : (k, 0) ∈ p.timeouts) : p.validation = some k := by
  rw [Profile.validation, if_neg hb, firstZero_eq_some p.timeouts_sorted hk before]

theorem Profile.validation_rate (hb : p.bandCount ≠ 0) (ht : ∀ x ∈ p.timeouts, x.2 ≠ 0) (hr : p.rate0 = 0) :
    p.validation = some 11 := by
  rw [Profile.validation, if_neg hb, firstZero_eq_none.mpr ht]
  exact if_pos hr

theorem Profile.validation_passes (hb : p.bandCount ≠ 0) (ht : ∀ x ∈ p.timeouts, x.2 ≠ 0) (hr : p.rate0 ≠ 0) :
    p.validation = none := by
  rw [Profile.validation, if_neg hb, firstZero_eq_none.mpr ht]
  exact if_neg hr

end

theorem unitFault_profile {s : State} {u : UnitNo} {k : Nat} (h : (s.profileOf u).validation = some k) :
    unitFault s u = some { table := tableProfile, index := BitVec.ofNat 8 (s.unit u).profile.val, field := k } := by
  rw [unitFault, h]

theorem unitFault_budget {s : State} {u : UnitNo} (h : (s.profileOf u).validation = none)
    (hb : s.tbs.budgets.get (s.unit u).waterway = 0) : unitFault s u =
    some { table := tableWaterway, index := BitVec.ofNat 8 (s.unit u).waterway.number, field := 1 } := by
  rw [unitFault, h]
  exact if_pos hb

theorem unitFault_passes {s : State} {u : UnitNo} (h : PassesRun s u) : unitFault s u = none := by
  obtain ⟨hb, ht, hr, hw⟩ := h
  rw [unitFault, Profile.validation_passes hb ht hr]
  exact if_neg hw

theorem PassesRun.withLinkUp {s : State} {u : UnitNo} {p : Port} (h : PassesRun s u) : PassesRun (s.withLinkUp p) u :=
  ⟨h.bands, h.timeouts, h.rate, h.budget⟩

theorem validation_passes {s : State} (h : ∀ u, (s.unit u).present = true → PassesRun s u) : validation s = none :=
  List.findSome?_eq_none_iff.mpr fun u hu => unitFault_passes (h u (by simpa using (List.mem_filter.mp hu).2))

/-- The failing check named is that of the lowest-numbered present unit that has one. -/
theorem validation_fails {s : State} {u : UnitNo} {x : RunFault} (hp : (s.unit u).present = true)
    (before : ∀ v : UnitNo, v.number < u.number → (s.unit v).present = true → PassesRun s v)
    (hx : unitFault s u = some x) : validation s = some x := by
  have sorted := UnitNo.all_sorted.filter fun u => (s.unit u).present
  have mem : u ∈ UnitNo.all.filter fun u => (s.unit u).present := List.mem_filter.mpr ⟨UnitNo.mem_all u, hp⟩
  have present : ∀ v ∈ UnitNo.all.filter fun u => (s.unit u).present, (s.unit v).present = true := fun v hv => by
    simpa using (List.mem_filter.mp hv).2
  unfold validation
  generalize (UnitNo.all.filter fun u => (s.unit u).present) = l at sorted mem present
  induction l with
  | nil => cases mem
  | cons v l ih =>
    obtain ⟨first, sorted⟩ := List.pairwise_cons.mp sorted
    obtain ⟨hv, hl⟩ := List.forall_mem_cons.mp present
    obtain rfl | mem := List.mem_cons.mp mem
    · rw [List.findSome?_cons, hx]
    · rw [List.findSome?_cons, unitFault_passes (before v (first u mem) hv)]
      exact ih sorted mem hl

/-- An ENGINE RUN whose validation fails is answered, and that is all. -/
theorem engineRun_invalid {h : Hdr} {pad : BitVec 200} {s : State} (hd : DeliveredToPart (cellEngine h 1 pad) s)
    (he : s.dse.engine = .paused) {u : UnitNo} (hp : (s.unit u).present = true)
    (before : ∀ v : UnitNo, v.number < u.number → (s.unit v).present = true → PassesRun s v) {x : RunFault}
    (hx : unitFault s u = some x) : exec (.engineRun h pad) s = .next ((s.withLinkUp .up).reported
      (.mgtResult h.src 0x04 .invalid x.table x.index 0 (BitVec.ofNat 8 x.field))) := by
  refine (arriveUp_toPart (takeEngineRun h) hd.1 hd.2.1).trans (congrArg Host.Outcome.next ?_)
  have fails : validation (s.withLinkUp .up) = some x :=
    validation_fails (s := s.withLinkUp .up) hp (fun v hv hp => (before v hv hp).withLinkUp) hx
  rw [takeEngineRun, fails]
  exact (if_pos he).trans (pushReport_eq_reported _ _)

/-- Settles O32: the failing check is the lowest-numbered unit's, and within the unit the first in the order of R39. -/
theorem engineRunRefused : Obligations.EngineRunRefused := by
  intro h pad s hd answer
  refine ⟨fun he => ?_, fun he u hp before => ?_⟩
  · exact (arriveUp_toPart (takeEngineRun h) hd.1 hd.2.1).trans
      (congrArg Host.Outcome.next ((if_neg he).trans (pushReport_eq_reported _ _)))
  · have invalid {x : RunFault} := engineRun_invalid hd he hp before (x := x)
    exact ⟨fun hb => invalid (unitFault_profile (Profile.validation_noBands hb)),
      fun hb k hk hm => invalid (unitFault_profile (Profile.validation_timeout hb hk hm)),
      fun hb ht hr => invalid (unitFault_profile (Profile.validation_rate hb ht hr)),
      fun hb ht hr hw => invalid (unitFault_budget (Profile.validation_passes hb ht hr) hw)⟩

end Sys2Proof.Machine
end

section
/-! The event that ends a table write with an allocation run, and MERIT writes: the list stored or its faulty field
(R33, R36, R81, R85, R89). -/

namespace Sys2Proof.Machine

-- What a run reads (R88) ----------------------------------------------------------------------------------

theorem addGens_congr {s t : State} (h : ∀ u, t.bandOf u = s.bandOf u) (r : Int) (sg l : List UnitNo) :
    addGens t r sg l = addGens s r sg l := by
  have sum (l : List UnitNo) : sumField t Band.gmax l = sumField s Band.gmax l := by
    unfold sumField bandField
    simp only [h]
  induction l generalizing sg with
  | nil => rfl
  | cons u l ih => rw [addGens, addGens, sum, ih]

theorem clampCarry_congr {s t : State} (h : ∀ u, t.bandOf u = s.bandOf u) (c : Int) (l : List (UnitNo × Int)) :
    clampCarry t c l = clampCarry s c l := by
  induction l generalizing c with
  | nil => rfl
  | cons x l ih =>
    obtain ⟨u, si⟩ := x
    rw [clampCarry, clampCarry, h, ih]

/-- The blocks that a run does not read. -/
def State.withOthersOf (s t : State) : State :=
  { s with pending := t.pending, held := t.held, lpu := t.lpu, pra := t.pra, rmp := t.rmp, rpb := t.rpb }

theorem committedGens_withOthersOf (s t : State) : committedGens (s.withOthersOf t) = committedGens s := by
  unfold committedGens
  simp only [addGens_congr (s := s) (t := s.withOthersOf t) fun _ => rfl]
  rfl

theorem rawShares_withOthersOf (s t : State) : rawShares (s.withOthersOf t) = rawShares s := by
  unfold rawShares boundedResidual
  rw [committedGens_withOthersOf]
  rfl

theorem shares_withOthersOf (s t : State) : shares (s.withOthersOf t) = shares s := by
  unfold shares
  rw [rawShares_withOthersOf, clampCarry_congr (s := s) (t := s.withOthersOf t) fun _ => rfl]

/-- A run reads the tables, the images, the order, the plan it replaces and the sequencers alone. -/
theorem plan_congr {s t : State} (tbs : t.tbs = s.tbs) (uib : t.uib = s.uib) (dse : t.dse = s.dse) (alc : t.alc = s.alc)
    (seqs : t.seqs = s.seqs) : plan t = plan s := by
  have same : t = s.withOthersOf t := by
    unfold State.withOthersOf
    rw [← tbs, ← uib, ← dse, ← alc, ← seqs]
  rw [same]
  unfold plan
  rw [shares_withOthersOf]
  rfl

-- An event that ends with a run (R85, R89) ----------------------------------------------------------------

theorem reported_eq (s : State) (r : Report) : s.reported r = { s with rpb := (s.reported r).rpb } := by
  unfold State.reported
  split <;> rfl

theorem reported_dse (s : State) (r : Report) : (s.reported r).dse = s.dse := by rw [reported_eq]

theorem reported_room (s : State) (r : Report) (h : s.rpb.queue.length < 16) :
    (s.reported r).rpb.queue = s.rpb.queue ++ [r] := by
  unfold State.reported
  rw [if_pos h]

theorem reported_event (s : State) (r : Report) : EventFrame s (s.reported r) :=
  pushReport_eq_reported r s ▸ (pushReport_frame r s).event

theorem plan_reported (s : State) (r : Report) : plan (s.reported r) = plan s := by
  rw [reported_eq]
  exact plan_congr rfl rfl rfl rfl rfl

theorem ResourcesHeld.reported {s : State} (h : ResourcesHeld s) (r : Report) : ResourcesHeld (s.reported r) :=
  pushReport_eq_reported r s ▸ h.withReport r

/-- The settling check that may end an event leaves a record just made ACTIVE so, or makes it SETTLED (R81, R82). -/
theorem closeSettling_replanned {s : State} {e : Ev}
    (h : e.s.dse.standing = { s.dse.standing with state := .active, summary := e.s.alc.summary }) :
    Replanned s (closeSettling e) := by
  have active : Replanned s e.s := ⟨by rw [h], by rw [h], .inl (by rw [h])⟩
  unfold closeSettling settleCheck
  split
  · split
    · let o := orderStateOf e.s.dse.standing .settled
      have push := pushReport_frame o (setOrderState .settled e.s)
      have alc : (pushReport o (setOrderState .settled e.s)).alc = e.s.alc := push.alc
      have dse : (pushReport o (setOrderState .settled e.s)).dse.standing = { e.s.dse.standing with state := .settled } :=
        congrArg Dse.standing push.dse
      have queued := queued_pushReport o (setOrderState .settled e.s)
      have report : o = .orderState s.dse.standing.order.src s.dse.standing.order.id .settled
          s.dse.standing.order.target e.s.alc.summary := by
        show orderStateOf e.s.dse.standing .settled = _
        rw [h]
        rfl
      refine ⟨?_, ?_, .inr ⟨?_, ?_⟩⟩
      · rw [dse, h]
      · rw [dse, alc, h]
      · rw [dse]
      · rw [alc, ← report]
        exact queued
    · exact active
  · exact active

/-- The record after an event's run (R81, R85). -/
theorem closeEvent_replanned {e : Ev} (ht : (e.trig && e.s.orderStands) = true) : Replanned e.s (closeEvent e) := by
  unfold closeEvent
  rw [if_pos ht]
  obtain ⟨alc, dse, -⟩ := replan_spec e.s
  have turns := actAll_frame e.s.alc.entries (e.map replan)
  refine closeSettling_replanned ?_
  rw [turns.dse, turns.alc]
  show (replan e.s).dse.standing = _
  rw [dse]
  show _ = { e.s.dse.standing with state := .active, summary := (replan e.s).alc.summary }
  rw [alc]

/-- REPLANNED is queued ahead of every other report of an event's end (R85, R185). -/
theorem closeEvent_replanned_queue {e : Ev} (ht : (e.trig && e.s.orderStands) = true)
    (room : e.s.rpb.queue.length < 16) :
    ∃ rs, (closeEvent e).rpb.queue = e.s.rpb.queue ++ replannedReport e.s (closeEvent e) :: rs := by
  have report : replannedReport e.s (closeEvent e) =
      orderResultOf e.s.dse.standing.order .replanned (some (plan e.s).summary) := by
    rw [replannedReport, closeEvent_alc, if_pos ht]
    rfl
  have run : (replan e.s).rpb.queue = e.s.rpb.queue ++
      [orderResultOf e.s.dse.standing.order .replanned (some (plan e.s).summary)] :=
    congrArg (fun s => s.rpb.queue) (pushReport_room _ (setOrderState .active (allocate e.s)) room)
  obtain ⟨rs, hrs⟩ := ((actAll_frame e.s.alc.entries (e.map replan)).event.trans (closeSettling_frame _)).queue
  refine ⟨rs, ?_⟩
  rw [report, closeEvent, if_pos ht, hrs]
  show (replan e.s).rpb.queue ++ rs = _
  rw [run, List.append_assoc]
  rfl

-- The faulty field of a MERIT list (R33) ------------------------------------------------------------------

theorem outsideField_eq_some {field j : Nat} {l : List Nat} (h : outsideField field l = some j) :
    ∃ k n, j = k + field ∧ l[k]? = some n ∧ (n < 1 ∨ 6 < n) := by
  induction l generalizing field with
  | nil => cases h
  | cons n l ih =>
    rw [outsideField] at h
    split at h
    · obtain ⟨k, m, rfl, hm, bad⟩ := ih h
      exact ⟨k + 1, m, by omega, by simpa using hm, bad⟩
    · cases h
      exact ⟨0, n, (Nat.zero_add _).symm, rfl, by omega⟩

theorem repeatedField_eq_some {field j : Nat} {seen l : List Nat} (h : repeatedField field seen l = some j) :
    ∃ k n, j = k + field ∧ l[k]? = some n ∧ (n ∈ seen ∨ n ∈ l.take k) := by
  induction l generalizing field seen with
  | nil => cases h
  | cons n l ih =>
    rw [repeatedField] at h
    split at h
    · next hn =>
      cases h
      exact ⟨0, n, (Nat.zero_add _).symm, rfl, .inl hn⟩
    · obtain ⟨k, m, rfl, hm, bad⟩ := ih h
      refine ⟨k + 1, m, by omega, by simpa using hm, ?_⟩
      rw [List.take_succ_cons]
      simpa [or_assoc, or_comm, or_left_comm] using bad

theorem meritListed_length (f : MeritFields) (h : f.len.toNat ≤ 6) : (meritListed f).length = f.len.toNat := by
  simp [meritListed, h]

/-- A fault of a list that is not too long is that of a position: a number outside 1..6, or one listed before. -/
theorem meritFault_eq_some {f : MeritFields} {j : Nat} (hlen : f.len.toNat ≤ 6) (h : meritFault f = some j) :
    ∃ k < f.len.toNat, j = k + 2 ∧ ∃ n, (meritListed f)[k]? = some n ∧
      (n < 1 ∨ 6 < n ∨ n ∈ (meritListed f).take k) := by
  have within {k n : Nat} (hk : (meritListed f)[k]? = some n) : k < f.len.toNat := by
    rw [← meritListed_length f hlen]
    exact (List.getElem?_eq_some_iff.mp hk).1
  unfold meritFault at h
  rw [if_neg (by omega)] at h
  split at h
  · next i hi =>
    cases h
    obtain ⟨k, n, rfl, hn, bad⟩ := outsideField_eq_some hi
    exact ⟨k, within hn, rfl, n, hn, bad.imp_right .inl⟩
  · obtain ⟨k, n, rfl, hn, bad⟩ := repeatedField_eq_some h
    exact ⟨k, within hn, rfl, n, hn, .inr (.inr (bad.resolve_left (List.not_mem_nil)))⟩

theorem decideMerit_stores {index : Byte} {f : MeritFields} (hi : index = 0 ∨ index = 1) (h : meritFault f = none) :
    decideMerit index f = .store 0 (meritUnits f) := by
  rw [decideMerit, if_neg (by tauto), h]

theorem decideMerit_refuses {index : Byte} {f : MeritFields} (hi : index = 0 ∨ index = 1) {k : Nat}
    (h : meritFault f = some k) : decideMerit index f = .refuse .range k := by
  rw [decideMerit, if_neg (by tauto), h]

-- A stored list (R33, R36) --------------------------------------------------------------------------------

/-- The tables with a merit list stored. -/
def Tbs.withMerit (t : Tbs) (index : Byte) (l : List UnitNo) : Tbs :=
  if index = 0 then { t with meritGen := l } else { t with meritPump := l }

theorem storeMerit_reported (index : Byte) (l : List UnitNo) (s : State) (r : Report) : storeMerit index l (s.reported r) =
    closeEvent (.trigger true (.start (({ s with tbs := s.tbs.withMerit index l } : State).reported r))) := by
  show closeEvent (.trigger true (.start ((s.reported r).setTbs ((s.reported r).tbs.withMerit index l)))) = _
  rw [setTbs_reported, reported_tbs]

theorem Tbs.withMerit_units (t : Tbs) (index : Byte) (l : List UnitNo) : (t.withMerit index l).units = t.units := by
  unfold Tbs.withMerit
  split <;> rfl

/-- Other tables with the same units are nothing to the arbiter. -/
theorem ResourcesHeld.withTables {s : State} (h : ResourcesHeld s) {t : Tbs} (hu : t.units = s.tbs.units) :
    ResourcesHeld { s with tbs := t } := by
  have unit (u : UnitNo) : ({ s with tbs := t } : State).unit u = s.unit u := by rw [State.unit, State.unit, hu]
  exact ⟨h.queueNodup, h.queueState, h.granted, h.holderState, h.waitersNodup,
    fun w u hw => by rw [unit]; exact h.waiterState w u hw, fun w u hw => by rw [unit]; exact h.lockState w u hw,
    h.lockTaken⟩

/-- Settles O24: a stored list's one trigger ends its event with a run where an order stands and with nothing where none
does; a refused list has its fault at a position. -/
theorem meritWriteStoredOrRefused : Obligations.MeritWriteStoredOrRefused := by
  intro h index f pad s hd hg hi listed good
  have refused {k : Nat} (hf : meritFault f = some k) : exec (.meritWrite h index f pad) s = .next
      ((s.withLinkUp .up).reported (.mgtResult h.src 0x02 .range 5 index 0 (BitVec.ofNat 8 k))) :=
    write_refused (decision := fun _ => decideMerit index f) hd hg (decideMerit_refuses hi hf)
  refine ⟨fun hlen hgood => ?_, fun hlen => ?_, fun hlen hbad => ?_⟩
  · have hf : meritFault f = none := (meritFault_eq_none f).mpr ⟨hlen, hgood⟩
    let r : Report := .mgtResult h.src 0x02 .accepted 5 index 0 0
    let tbs : Tbs := s.tbs.withMerit index (meritUnits f)
    let x : State := ({ s.withLinkUp .up with tbs } : State).reported r
    let e : Ev := .trigger true (.start x)
    have stored : exec (.meritWrite h index f pad) s = .next (closeEvent e) :=
      (write_stored (decision := fun _ => decideMerit index f) hd hg (decideMerit_stores hi hf)).trans
        (congrArg Host.Outcome.next (storeMerit_reported index (meritUnits f) (s.withLinkUp .up) r))
    have numbers : (meritUnits f).map UnitNo.number = listed := meritUnits_numbers f hgood.1
    have xtbs : x.tbs = tbs := reported_tbs _ r
    have xdse : x.dse = s.dse := reported_dse _ r
    have frame : EventFrame x (closeEvent e) := closeEvent_frame e
    have ttbs : (closeEvent e).tbs = tbs := frame.tbs.trans xtbs
    have trig : (e.trig && e.s.orderStands) = s.orderStands := by
      show (true && x.orderStands) = _
      rw [State.orderStands, xdse, Bool.true_and]
      rfl
    have queue (hq : s.rpb.queue.length < 16) : x.rpb.queue = s.rpb.queue ++ [r] := reported_room _ r hq
    refine ⟨closeEvent e, stored, fun hx => ?_, fun hx => ?_, ?_, ?_, ?_, ?_, fun ho => ?_, fun ho agree => ?_,
      fun ho => ⟨?_, ?_, fun room => ?_⟩, fun room => ?_⟩
    · rw [ttbs]
      subst hx
      exact ⟨numbers, rfl⟩
    · rw [ttbs]
      subst hx
      exact ⟨numbers, rfl⟩
    · exact frame.uib.trans (reported_uib _ r)
    · rw [ttbs]
      exact ((reported_event _ r).trans frame).leavesSetting
    · rw [frame.dse, xdse]
    · rw [closeEvent_order]
      show x.dse.standing.order = _
      rw [xdse]
    · rw [ttbs]
      exact closeEvent_idle e rfl (trig.trans ho) rfl
    · rw [ttbs]
      have held : ResourcesHeld x :=
        ((agree.withLinkUp .up).held.withTables (Tbs.withMerit_units s.tbs index (meritUnits f))).reported r
      exact closeEvent_ranFrom (e := e) held (trig.trans ho) (by simp [e, Ev.start, Ev.trigger])
    · rw [closeEvent_alc, trig, if_pos ho, ttbs]
      exact (plan_reported _ r).trans (plan_congr rfl rfl rfl rfl rfl)
    · have run := closeEvent_replanned (trig.trans ho)
      unfold Replanned at run ⊢
      rw [show e.s.dse = s.dse from xdse] at run
      exact run
    · unfold ReportRoom at room
      have hq := queue (by omega)
      obtain ⟨rs, hrs⟩ := closeEvent_replanned_queue (trig.trans ho) (show x.rpb.queue.length < 16 by simp [hq]; omega)
      refine ⟨rs, ?_⟩
      rw [hrs, show e.s.rpb.queue = s.rpb.queue ++ [r] from hq, List.append_assoc, replannedReport, replannedReport,
        show e.s.dse = s.dse from xdse]
      rfl
    · unfold ReportRoom at room
      obtain ⟨rs, hrs⟩ := frame.queue
      exact ⟨rs, by rw [hrs, queue (by omega), List.append_assoc]; rfl⟩
  · have hf : meritFault f = some 1 := by rw [meritFault, if_pos hlen]
    exact refused hf
  · obtain ⟨k, hk⟩ := Option.ne_none_iff_exists'.mp fun k => hbad ((meritFault_eq_none f).mp k).2
    obtain ⟨p, hp, rfl, bad⟩ := meritFault_eq_some hlen hk
    exact ⟨p, hp, bad, refused hk⟩

end Sys2Proof.Machine
end

section
/-! TABLE_READ: the fields of a TABLE_DATA payload, and what a read of each table is answered with (R38, R193, R195). -/

namespace Sys2Proof.Machine

-- The fields of a TABLE_DATA payload (R195) ---------------------------------------------------------------

theorem readPlant_of (t i : Byte) (f : PlantFields) (z : BitVec 120) :
    let p := Payload.of (t ++ i ++ f.bits ++ z)
    p.byte 4 = t ∧ p.byte 5 = i ∧ readPlant p = f ∧ p.tail 120 = z := by
  simp (disch := omega) only [readPlant, PlantFields.bits, Payload.of, Payload.byte, Payload.half,
    Payload.tail, BitVec.setWidth_eq, BitVec.extractLsb'_append_eq_of_le, BitVec.extractLsb'_append_eq_of_add_le,
    extract_whole, and_self]

theorem readUnit_of (t i q : Byte) (f : UnitFields) (z : BitVec 80) :
    let p := Payload.of (t ++ i ++ q ++ f.bits ++ z)
    p.byte 4 = t ∧ p.byte 5 = i ∧ p.byte 6 = q ∧ readUnit p = f ∧ p.tail 80 = z := by
  simp (disch := omega) only [readUnit, UnitFields.bits, Payload.of, Payload.byte, Payload.half,
    Payload.tail, BitVec.setWidth_eq, BitVec.extractLsb'_append_eq_of_le, BitVec.extractLsb'_append_eq_of_add_le,
    extract_whole, and_self]

theorem readProfile_of (t i : Byte) (f : ProfileFields) :
    let p := Payload.of (t ++ i ++ f.bits)
    p.byte 4 = t ∧ p.byte 5 = i ∧ readProfile p = f := by
  simp (disch := omega) only [readProfile, ProfileFields.bits, Payload.of, Payload.byte,
    Payload.group, BitVec.setWidth_eq, BitVec.extractLsb'_append_eq_of_le, BitVec.extractLsb'_append_eq_of_add_le,
    extract_whole, and_self]

theorem readBand_of (t i k : Byte) (f : BandFields) (z : BitVec 72) :
    let p := Payload.of (t ++ i ++ k ++ f.bits ++ z)
    p.byte 4 = t ∧ p.byte 5 = i ∧ p.byte 6 = k ∧ readBand p = f ∧ p.tail 72 = z := by
  simp (disch := omega) only [readBand, BandFields.bits, Payload.of, Payload.byte, Payload.half,
    Payload.tail, BitVec.setWidth_eq, BitVec.extractLsb'_append_eq_of_le, BitVec.extractLsb'_append_eq_of_add_le,
    extract_whole, and_self]

theorem readMerit_of (t i : Byte) (f : MeritFields) (z : BitVec 136) :
    let p := Payload.of (t ++ i ++ f.bits ++ z)
    p.byte 4 = t ∧ p.byte 5 = i ∧ readMerit p = f ∧ p.tail 136 = z := by
  simp (disch := omega) only [readMerit, MeritFields.bits, Payload.of, Payload.byte,
    Payload.tail, BitVec.setWidth_eq, BitVec.extractLsb'_append_eq_of_le, BitVec.extractLsb'_append_eq_of_add_le,
    extract_whole, and_self]

theorem readWaterway_of (t i : Byte) (b : Half) (z : BitVec 176) :
    let p := Payload.of (t ++ i ++ b ++ z)
    p.byte 4 = t ∧ p.byte 5 = i ∧ p.half 6 = b ∧ p.tail 176 = z := by
  simp (disch := omega) only [Payload.of, Payload.byte, Payload.half, Payload.tail, BitVec.setWidth_eq,
    BitVec.extractLsb'_append_eq_of_le, BitVec.extractLsb'_append_eq_of_add_le, extract_whole, and_self]

-- An entry read back (R38) --------------------------------------------------------------------------------

theorem toNat_ofNat_of_lt {w v : Nat} (h : v < 2 ^ w) : (BitVec.ofNat w v).toNat = v := by
  rw [BitVec.toNat_ofNat, Nat.mod_eq_of_lt h]

theorem intoRange_of_mem {lo hi v : Nat} (h : lo ≤ v ∧ v ≤ hi) : intoRange lo hi v = v := by
  rw [intoRange, if_neg (by omega), if_neg (by omega)]

theorem intoRange_ofNat {lo hi w v : Nat} (h : lo ≤ v ∧ v ≤ hi) (hw : hi < 2 ^ w) :
    intoRange lo hi (BitVec.ofNat w v).toNat = v := by
  rw [toNat_ofNat_of_lt (h.2.trans_lt hw), intoRange_of_mem h]

theorem powerIntoRange_ofNat {v : Nat} (h : v ≤ 5000) : powerIntoRange 0 5000 (BitVec.ofNat 16 v) = v := by
  have signed := (power_toNat_eq_iff (BitVec.ofNat 16 v) h).mp (toNat_ofNat_of_lt (by omega))
  rw [powerIntoRange, signed, Int.toNat_natCast, intoRange_of_mem ⟨Nat.zero_le _, h⟩]

theorem bit_ofNat (b : Bool) : (BitVec.ofNat 8 b.toNat != 0) = b := by cases b <;> rfl

theorem bit_toNat (b : Bool) : (BitVec.ofNat 8 b.toNat).toNat = b.toNat := by cases b <;> rfl

theorem Plant.ofFields_fields {p : Plant} (h : p.InRange) : Plant.ofFields p.fields = p := by
  simp only [Plant.ofFields, Plant.fields, bit_ofNat, intoRange_ofNat (w := 8) h.ti (by decide),
    intoRange_ofNat (w := 16) ⟨Nat.zero_le _, h.guardTime⟩ (by decide),
    intoRange_ofNat (w := 8) h.staleTime (by decide), intoRange_ofNat (w := 8) h.identWait (by decide),
    intoRange_ofNat (w := 8) h.debounce (by decide), intoRange_ofNat (w := 8) h.convAddr (by decide),
    intoRange_ofNat (w := 8) h.releaseTime (by decide)]

theorem Profile.ofFields_fields {p : Profile} (h : p.InRange) : Profile.ofFields p.fields = p := by
  have time {v : Nat} (hv : v ≤ 3600) : intoRange 0 3600 (BitVec.ofNat 12 v).toNat = v :=
    intoRange_ofNat ⟨Nat.zero_le _, hv⟩ (by decide)
  have rate {v : Nat} (hv : v ≤ 1000) : intoRange 0 1000 (BitVec.ofNat 12 v).toNat = v :=
    intoRange_ofNat ⟨Nat.zero_le _, hv⟩ (by decide)
  have times := h.timeouts
  simp only [Profile.timeouts, List.forall_mem_cons] at times
  obtain ⟨t1, t2, t3, t4, t5, t6, t7, t8, t9, t10, -⟩ := times
  obtain ⟨r0, r1, r2, r3⟩ := h.rates
  simp only [Profile.ofFields, Profile.fields, time t1, time t2, time t3, time t4, time t5, time t6, time t7, time t8,
    time t9, time t10, rate r0, rate r1, rate r2, rate r3, intoRange_ofNat (w := 8) h.refresh (by decide),
    intoRange_ofNat (w := 4) ⟨Nat.zero_le _, h.bandCount⟩ (by decide),
    intoRange_ofNat (w := 12) ⟨Nat.zero_le _, h.hyst⟩ (by decide)]

theorem Band.ofFields_fields {b : Band} (h : b.InRange) : Band.ofFields b.fields = b := by
  simp only [Band.ofFields, Band.fields, bit_ofNat, intoRange_ofNat (w := 16) ⟨Nat.zero_le _, h.lower⟩ (by decide),
    powerIntoRange_ofNat h.gmin, powerIntoRange_ofNat h.gmax, powerIntoRange_ofNat h.ppump, powerIntoRange_ofNat h.rzlo,
    powerIntoRange_ofNat h.rzhi]

/-- A merit list without repeats has a position for each of its units. -/
theorem merit_length {l : List UnitNo} (h : l.Nodup) : l.length ≤ 6 :=
  (List.subperm_of_subset h fun u _ => UnitNo.mem_all u).length_le

theorem meritPosition_toNat (l : List UnitNo) (k : Nat) : (meritPosition l k).toNat = (l[k]?).elim 0 UnitNo.number := by
  unfold meritPosition
  cases l[k]? with
  | none => rfl
  | some u => exact unitByte_toNat u

theorem meritListed_meritFields {l : List UnitNo} (h : l.Nodup) : meritListed (meritFields l) = l.map UnitNo.number := by
  have length : (BitVec.ofNat 8 l.length).toNat = l.length := toNat_ofNat_of_lt (by have := merit_length h; omega)
  show ((((List.range 6).map (meritPosition l)).take (BitVec.ofNat 8 l.length).toNat).map BitVec.toNat) = _
  rw [length, ← List.map_take, List.take_range, Nat.min_eq_left (merit_length h), List.map_map]
  refine List.ext_getElem (by simp) fun i hi hl => ?_
  have hi : i < l.length := by simpa using hl
  simp [meritPosition_toNat, hi]

theorem meritUnits_meritFields {l : List UnitNo} (h : l.Nodup) : meritUnits (meritFields l) = l := by
  rw [meritUnits, meritListed_meritFields h, List.filterMap_map]
  exact (List.filterMap_congr fun u _ => ofNumber_number u).trans List.filterMap_some

-- The answers (R38) ---------------------------------------------------------------------------------------

section
variable {h : Hdr} {table index band : Byte} {pad : BitVec 184} {s : State}
  (hd : DeliveredToPart (cellTableRead h table index band pad) s)
include hd

theorem tableRead_answered {p : Payload} (hp : tableData s.tbs table index band = some p) :
    exec (.tableRead h table index band pad) s = .next ((s.withLinkUp .up).reported (.tableData h.src p)) := by
  refine (arriveUp_toPart (takeTableRead h table index band) hd.1 hd.2.1).trans (congrArg Host.Outcome.next ?_)
  rw [takeTableRead, show (s.withLinkUp .up).tbs = s.tbs from rfl, hp]
  exact pushReport_eq_reported _ _

theorem tableRead_refused (hp : tableData s.tbs table index band = none) :
    exec (.tableRead h table index band pad) s = .next ((s.withLinkUp .up).reported
      (.mgtResult h.src 0x03 .range table index (if table = 4 then band else 0) 0)) := by
  refine (arriveUp_toPart (takeTableRead h table index band) hd.1 hd.2.1).trans (congrArg Host.Outcome.next ?_)
  rw [takeTableRead, show (s.withLinkUp .up).tbs = s.tbs from rfl, hp]
  exact pushReport_eq_reported _ _

end

theorem profileIndex_val (index : Byte) (k : Fin 4) (h : index.toNat = k.val) : profileIndex index = some k := by
  rw [profileIndex, dif_pos (by omega)]
  exact congrArg some (Fin.ext h)

theorem bandIndex_val (index : Byte) (k : Fin 12) (h : index.toNat = k.val) : bandIndex index = some k := by
  rw [bandIndex, dif_pos (by omega)]
  exact congrArg some (Fin.ext h)

section
variable (t : Tbs) (index band : Byte)

theorem tableData_unit (u : UnitNo) (h : index.toNat = u.number) : tableData t 2 index band =
    some (.of ((2 : Byte) ++ index ++ BitVec.ofNat 8 (t.units.get u).present.toNat ++ (t.units.get u).fields.bits ++
      0#80)) := by
  show (UnitNo.ofNumber index.toNat).map _ = _
  rw [h, ofNumber_number]
  rfl

theorem tableData_profile (k : Fin 4) (h : index.toNat = k.val) : tableData t 3 index band =
    some (.of ((3 : Byte) ++ index ++ (t.profiles[k]).fields.bits)) := by
  show (profileIndex index).map _ = _
  rw [profileIndex_val index k h]
  rfl

theorem tableData_band (k : Fin 4) (b : Fin 12) (h : index.toNat = k.val) (hb : band.toNat = b.val) :
    tableData t 4 index band = some (.of ((4 : Byte) ++ index ++ band ++ ((t.bands[k])[b]).fields.bits ++ 0#72)) := by
  rw [tableData, if_neg (by decide), if_neg (by decide), if_neg (by decide),
    if_pos (show (4 : Byte) = tableBand from rfl), profileIndex_val index k h, bandIndex_val band b hb]

theorem tableData_waterway (w : Waterway) (h : index.toNat = w.number) : tableData t 6 index band =
    some (.of ((6 : Byte) ++ index ++ BitVec.ofNat 16 (t.budgets.get w) ++ 0#176)) := by
  show (waterwayIndex index).map _ = _
  rw [waterwayIndex_number index w h]
  rfl

/-- R38 answers RANGE where there is no such table or entry. -/
theorem tableData_none (table : Byte)
    (h : table = 0 ∨ 6 < table.toNat ∨ (table = 1 ∧ index ≠ 0) ∨ (table = 2 ∧ (index = 0 ∨ 6 < index.toNat)) ∨
      (table = 3 ∧ 3 < index.toNat) ∨ (table = 4 ∧ (3 < index.toNat ∨ 11 < band.toNat)) ∨
      (table = 5 ∧ 1 < index.toNat) ∨ (table = 6 ∧ (index = 0 ∨ 2 < index.toNat))) :
    tableData t table index band = none := by
  have other {b : Byte} {n : Nat} (hn : n < index.toNat) (hb : b.toNat ≤ n) : index ≠ b := by
    rintro rfl
    omega
  obtain rfl | h | ⟨rfl, h⟩ | ⟨rfl, h⟩ | ⟨rfl, h⟩ | ⟨rfl, h⟩ | ⟨rfl, h⟩ | ⟨rfl, h⟩ := h
  · rfl
  · have no {b : Byte} (hb : b.toNat ≤ 6) : table ≠ b := by
      rintro rfl
      omega
    rw [tableData, if_neg (no (by decide)), if_neg (no (by decide)), if_neg (no (by decide)), if_neg (no (by decide)),
      if_neg (no (by decide)), if_neg (no (by decide))]
  · exact if_neg h
  · show (UnitNo.ofNumber index.toNat).map _ = none
    rw [ofNumber_eq_none (h.imp_left fun k => by rw [k]; rfl)]
    rfl
  · show (profileIndex index).map _ = none
    rw [profileIndex, dif_neg (by omega)]
    rfl
  · rw [tableData, if_neg (by decide), if_neg (by decide), if_neg (by decide),
      if_pos (show (4 : Byte) = tableBand from rfl)]
    split
    · next p k hp hk =>
      unfold profileIndex at hp
      unfold bandIndex at hk
      split_ifs at hp hk
      omega
    · rfl
  · rw [tableData, if_neg (by decide), if_neg (by decide), if_neg (by decide), if_neg (by decide),
      if_pos (show (5 : Byte) = tableMerit from rfl),     if_neg (other h (by decide)), if_neg (other h (by decide))]
  · show (waterwayIndex index).map _ = none
    have none : waterwayIndex index = none := by
      obtain rfl | h := h
      · rfl
      · exact waterwayIndex_none _ (other h (by decide)) (other h (by decide))
    rw [none]
    rfl

end

/-- What a TABLE_DATA of a merit list carries. -/
theorem merit_read {l : List UnitNo} (h : l.Nodup) (index : Byte) :
    let p := Payload.of ((5 : Byte) ++ index ++ (meritFields l).bits ++ 0#136)
    p.byte 4 = 5 ∧ p.byte 5 = index ∧ meritUnits (readMerit p) = l ∧ (p.byte 6).toNat = l.length ∧ p.tail 136 = 0 ∧
      ∀ k : Fin 6, (p.byte (7 + k.val)).toNat = (l[k.val]?).elim 0 UnitNo.number := by
  intro p
  obtain ⟨table, entry, read, tail⟩ := readMerit_of 5 index (meritFields l) 0#136
  have len : p.byte 6 = BitVec.ofNat 8 l.length := congrArg MeritFields.len read
  have position (k : Fin 6) : p.byte (7 + k.val) = meritPosition l k := by
    match k with
    | 0 => exact congrArg MeritFields.p1 read
    | 1 => exact congrArg MeritFields.p2 read
    | 2 => exact congrArg MeritFields.p3 read
    | 3 => exact congrArg MeritFields.p4 read
    | 4 => exact congrArg MeritFields.p5 read
    | 5 => exact congrArg MeritFields.p6 read
  refine ⟨table, entry, ?_, ?_, tail, fun k => ?_⟩
  · rw [read, meritUnits_meritFields h]
  · rw [len]
    exact toNat_ofNat_of_lt (by have := merit_length h; omega)
  · rw [position, meritPosition_toNat]

/-- Settles O26: each entry's payload read back. -/
theorem tableReadCarriesEntry : Obligations.TableReadCarriesEntry := by
  intro h table index band pad s hd range answers listed
  have answer {p : Payload} {good : Payload → Prop} (hp : tableData s.tbs table index band = some p)
      (ht : p.byte 4 = table) (hi : p.byte 5 = index) (hg : good p) : answers good :=
    ⟨p, ht, hi, hg, tableRead_answered hd hp⟩
  refine ⟨?_, ?_, ?_, ?_, ?_, ?_, ?_, fun hn => tableRead_refused hd (tableData_none _ _ _ _ hn)⟩
  · rintro rfl rfl
    obtain ⟨ht, hi, read, tail⟩ := readPlant_of 1 0 s.tbs.plant.fields 0#120
    refine answer rfl ht hi ?_
    intro e g
    have hg : g = e.fields := read
    obtain ⟨ti, guard, stale, ident, debounce, conv, release⟩ := range.plant
    rw [hg]
    exact ⟨Plant.ofFields_fields range.plant, toNat_ofNat_of_lt (ti.2.trans_lt (by decide)), bit_toNat _,
      toNat_ofNat_of_lt (guard.trans_lt (by decide)), toNat_ofNat_of_lt (stale.2.trans_lt (by decide)),
      toNat_ofNat_of_lt (ident.2.trans_lt (by decide)), toNat_ofNat_of_lt (debounce.2.trans_lt (by decide)),
      toNat_ofNat_of_lt (conv.2.trans_lt (by decide)), toNat_ofNat_of_lt (release.2.trans_lt (by decide)), tail⟩
  · rintro u rfl hu
    obtain ⟨ht, hi, present, read, tail⟩ :=
      readUnit_of 2 index (BitVec.ofNat 8 (s.unit u).present.toNat) (s.unit u).fields 0#80
    refine answer (tableData_unit _ _ _ u hu) ht hi ?_
    intro e g
    have hg : g = e.fields := read
    obtain ⟨addr, -, cls, rated, run, still, linger⟩ := range.units u
    rw [hg]
    exact ⟨(congrArg BitVec.toNat present).trans (bit_toNat _), toNat_ofNat_of_lt (addr.trans_lt (by decide)),
      toNat_ofNat_of_lt (Waterway.number_lt _),
      toNat_ofNat_of_lt (e.profile.isLt.trans (by decide)), toNat_ofNat_of_lt (cls.trans_lt (by decide)),
      toNat_ofNat_of_lt (rated.2.trans_lt (by decide)), toNat_ofNat_of_lt (Assign.code_lt _),
      toNat_ofNat_of_lt (run.trans_lt (by decide)), toNat_ofNat_of_lt (still.trans_lt (by decide)),
      toNat_ofNat_of_lt (linger.trans_lt (by decide)), tail⟩
  · rintro k rfl hk
    obtain ⟨ht, hi, read⟩ := readProfile_of 3 index (s.tbs.profiles[k]).fields
    refine answer (tableData_profile _ _ _ k hk) ht hi ?_
    intro e g
    have hg : g = e.fields := read
    have range := range.profiles k
    have time {v : Nat} (hv : v ≤ 3600) : (BitVec.ofNat 12 v).toNat = v := toNat_ofNat_of_lt (hv.trans_lt (by decide))
    have rate {v : Nat} (hv : v ≤ 1000) : (BitVec.ofNat 12 v).toNat = v := toNat_ofNat_of_lt (hv.trans_lt (by decide))
    have times := range.timeouts
    simp only [Profile.timeouts, List.forall_mem_cons] at times
    obtain ⟨t1, t2, t3, t4, t5, t6, t7, t8, t9, t10, -⟩ := times
    obtain ⟨r0, r1, r2, r3⟩ := range.rates
    rw [hg]
    exact ⟨Profile.ofFields_fields range, time t1, time t2, time t3, time t4, time t5, time t6, time t7, time t8, time t9,
      time t10, rate r0, rate r1, rate r2, rate r3, toNat_ofNat_of_lt (range.hyst.trans_lt (by decide)),
      toNat_ofNat_of_lt (range.bandCount.trans_lt (by decide)), toNat_ofNat_of_lt (range.refresh.2.trans_lt (by decide))⟩
  · rintro k b rfl hk hb
    obtain ⟨ht, hi, band, read, tail⟩ := readBand_of 4 index band ((s.tbs.bands[k])[b]).fields 0#72
    refine answer (tableData_band _ _ _ k b hk hb) ht hi ?_
    intro e g
    have hg : g = e.fields := read
    have range := range.bands k b
    have power {v : Nat} (hv : v ≤ 5000) : (BitVec.ofNat 16 v).toNat = v := toNat_ofNat_of_lt (hv.trans_lt (by decide))
    rw [hg]
    exact ⟨band, Band.ofFields_fields range, toNat_ofNat_of_lt (range.lower.trans_lt (by decide)), power range.gmin,
      power range.gmax, power range.ppump, power range.rzlo, power range.rzhi, bit_toNat _, bit_toNat _, tail⟩
  · rintro rfl rfl
    obtain ⟨ht, hi, read⟩ := merit_read range.meritGen 0
    exact answer rfl ht hi read
  · rintro rfl rfl
    obtain ⟨ht, hi, read⟩ := merit_read range.meritPump 1
    exact answer rfl ht hi read
  · rintro w rfl hw
    obtain ⟨ht, hi, read, tail⟩ := readWaterway_of 6 index (BitVec.ofNat 16 (s.tbs.budgets.get w)) 0#176
    refine answer (tableData_waterway _ _ _ w hw) ht hi ⟨?_, tail⟩
    rw [read]
    exact toNat_ofNat_of_lt (by have := range.budgets w; omega)

end Sys2Proof.Machine
end

section
/-! A UNIT write that makes a unit present, in PAUSED: the band recomputed at once, while every sequencer is DORMANT, and
the identity exchange begun (R26, R28, R50, R54). -/

namespace Sys2Proof.Machine

-- The band at a table write (R28, R35) --------------------------------------------------------------------

/-- A recomputed image takes its band at once from its head. -/
theorem recomputed_eq_retaken (s : State) (u : UnitNo) (i : Image) :
    s.recomputed u i = retaken s.tbs (s.unit u).profile i := by
  unfold State.recomputed evaluateBand retaken
  cases i.head <;> rfl

theorem retaken_head (t : Tbs) (p : Fin 4) (i : Image) : (retaken t p i).head = i.head := by
  unfold retaken
  split <;> rfl

theorem retaken_none {t : Tbs} {p : Fin 4} {i : Image} (h : i.head = none) :
    (retaken t p i).band = .none ∧ (retaken t p i).region = none := by
  unfold retaken
  rw [h]
  exact ⟨rfl, rfl⟩

theorem retaken_some {t : Tbs} {p : Fin 4} {i : Image} {hd : Nat} (h : i.head = some hd) :
    let b := selectBand t.bands[p] (t.profiles[p]).bandCount hd
    (retaken t p i).band = b.1 ∧ (retaken t p i).region = some b.2 := by
  unfold retaken
  rw [h]
  exact ⟨rfl, rfl⟩

-- The entry's re-examination (R107, R110) -----------------------------------------------------------------

/-- Of the state, a re-examination changes the unit's entry and, by a report, the Report Block. -/
theorem reexamine_eq (u : UnitNo) (e : Ev) : ∃ x q, (reexamine u e).s = { e.s with
      alc := { e.s.alc with entries := e.s.alc.entries.set u x }
      rpb := q } ∧ (∃ rs, q.queue = e.s.rpb.queue ++ rs) ∧
    (reexamine u e).due = e.due ∧ (reexamine u e).settle = e.settle := by
  unfold reexamine
  dsimp only
  split
  · let r : Report := .manualReplan (reexamined e.s u).originSrc (reexamined e.s u).originId u (reexamined e.s u).mode
      (reexamined e.s u).share
    let s : State := e.s.setEntry u (reexamined e.s u)
    refine ⟨reexamined e.s u, (pushReport r s).rpb, ?_, (pushReport_frame r s).queue, rfl, rfl⟩
    show pushReport r s = _
    rw [pushReport_eq_reported, reported_eq]
    rfl
  · exact ⟨reexamined e.s u, e.s.rpb, rfl, ⟨[], (List.append_nil _).symm⟩, rfl, rfl⟩

theorem act_dormant {u : UnitNo} {e : Ev} (h : (e.s.seq u).state = .dormant) : act u e = e := by
  unfold act Ev.state
  rw [h]
  cases (e.s.seq u).origin <;> cases (e.s.entry u).mode <;> rfl

/-- A band change of a unit whose sequencer is DORMANT is its entry's re-examination alone. -/
theorem bandChange_dormant {u : UnitNo} {e : Ev} (h : (e.s.seq u).state = .dormant) :
    (bandChange u e).s = (reexamine u e).s ∧ (bandChange u e).due = e.due ∧ (bandChange u e).settle = e.settle := by
  obtain ⟨x, q, hs, -, due, settle⟩ := reexamine_eq u e
  have asleep : ((reexamine u e).s.seq u).state = .dormant := by
    rw [hs]
    exact h
  have clamp : reclampSetpoint u (reexamine u e).s = (reexamine u e).s := by
    unfold reclampSetpoint
    rw [if_neg (by rw [asleep]; decide)]
  have same : (reexamine u e).map (reclampSetpoint u) = reexamine u e := by
    rw [Ev.map, clamp]
  unfold bandChange
  dsimp only
  rw [same, act_dormant asleep, ite_self]
  exact ⟨rfl, due, settle⟩

/-- A band recomputed while the unit's sequencer is DORMANT and no order stands: of the state, the unit's image and entry
change, and reports are queued (R28, R50). -/
theorem recomputeBand_dormant {u : UnitNo} {s : State} (h : (s.seq u).state = .dormant) (ho : s.orderStands = false) :
    ∃ x q, closeEvent (recomputeBand u none (.start s)) = { s with
        uib := { s.uib with images := s.uib.images.set u (s.recomputed u (s.image u)) }
        alc := { s.alc with entries := s.alc.entries.set u x }
        rpb := q } ∧ ∃ rs, q.queue = s.rpb.queue ++ rs := by
  let e : Ev := (Ev.start s).map fun t => t.setImage u (s.recomputed u (s.image u))
  have idle {e' : Ev} (hd : e'.due = []) (hs : e'.settle = false) (hdse : e'.s.dse = s.dse) : closeEvent e' = e'.s :=
    closeEvent_idle e' hd
      (by rw [show e'.s.orderStands = s.orderStands by rw [State.orderStands, hdse]; rfl, ho, Bool.and_false]) hs
  obtain ⟨x, q, hs, hq, -, -⟩ := reexamine_eq u e
  obtain ⟨change, due, settle⟩ := bandChange_dormant (u := u) (e := e) h
  unfold recomputeBand
  dsimp only
  split
  · refine ⟨x, q, ?_, hq⟩
    have same := change.trans hs
    exact (idle due settle (by rw [same]; rfl)).trans same
  · refine ⟨s.entry u, s.rpb, ?_, [], (List.append_nil _).symm⟩
    rw [State.entry, PerUnit.set_get]
    exact idle rfl rfl rfl

-- The identity exchange begun (R52, R54) ------------------------------------------------------------------

/-- A flag taken in by a waiting UNIT_EVENT, or a UNIT_EVENT queued, leaves the reports ahead of both (R186). -/
theorem raiseEvents_queue {u : UnitNo} {ev : BitVec 8} {v : Bool} {s : State} {q rs : List Report}
    (h : s.rpb.queue = q ++ rs) (hq : ∀ r ∈ q, r.isEventOf u = false) :
    ∃ rs', (raiseEvents u ev v s).rpb.queue = q ++ rs' := by
  unfold raiseEvents
  dsimp only
  split
  · exact ⟨rs, h⟩
  split
  · refine ⟨rs.map (Report.mergeEvent u (ev &&& ~~~(s.image u).events) (v && !(s.image u).verifyEvent)), ?_⟩
    show s.rpb.queue.map _ = _
    rw [h, List.map_append]
    refine congrArg (· ++ _) ((List.map_congr_left fun r hr => ?_).trans (List.map_id q))
    cases r with
    | unitEvent w f x => exact if_neg (by simpa [Report.isEventOf] using hq _ hr)
    | _ => rfl
  · obtain ⟨rs', hrs⟩ := (pushReport_frame (unitEventOf u (s.setImage u { s.image u with
      events := (s.image u).events ||| ev, verifyEvent := (s.image u).verifyEvent || v })) (s.setImage u { s.image u with
      events := (s.image u).events ||| ev, verifyEvent := (s.image u).verifyEvent || v })).queue
    exact ⟨rs ++ rs', by rw [hrs, ← List.append_assoc, ← h]; rfl⟩

/-- A placed command leaves every other slot's. -/
theorem placeIn_others (w : Waiting) (q : List Waiting) :
    (placeIn w q).filter (fun x => x.slot != w.slot) = q.filter fun x => x.slot != w.slot := by
  have replaced (l : List Waiting) : (l.map fun x => if x.slot = w.slot then w else x).filter (fun x => x.slot != w.slot) =
      l.filter fun x => x.slot != w.slot := by
    induction l with
    | nil => rfl
    | cons x l ih =>
      rw [List.map_cons, List.filter_cons, List.filter_cons, ih]
      by_cases hx : x.slot = w.slot <;> simp [hx]
  unfold placeIn
  split
  · exact replaced q
  · simp

/-- The exchange begun: the unit's image, its IDENT_REQ, and a flag or a report. -/
theorem startExchange_eq (u : UnitNo) (s : State) : ∃ q, startExchange u s = { s with
      uib := { s.uib with images := s.uib.images.set u { s.image u with
        identity := .identWait, identCount := 1, identTimer := some s.tbs.plant.identWait, verifyEvent := true } }
      lpu := { s.lpu with cmds := placeIn { slot := .stage u, dest := (s.unit u).addr, cmd := .identReq } s.lpu.cmds }
      rpb := q } ∧ ∀ a b, s.rpb.queue = a ++ b → (∀ r ∈ a, r.isEventOf u = false) → ∃ c, q.queue = a ++ c := by
  let i : Image := { s.image u with identity := .identWait, identCount := 1, identTimer := some s.tbs.plant.identWait }
  let t : State := placeStage u .identReq (s.setImage u i)
  refine ⟨(raiseEvents u 0 true t).rpb, (raiseEvents_verify_eq u t).trans ?_, fun a b hq ha => raiseEvents_queue hq ha⟩
  have image : t.image u = i := State.setImage_image_self _ _ _
  have images : t.uib.images = s.uib.images.set u i := rfl
  rw [image, images, PerUnit.set_set]
  rfl

-- The stored entry (R28) ----------------------------------------------------------------------------------

/-- The image whose telemetry a UNIT write that makes the unit present keeps: that of a unit that was present at the same
address. -/
def keptImage (s : State) (u : UnitNo) (n : UnitEntry) : Image :=
  if (s.unit u).present = true ∧ (s.unit u).addr = n.addr then s.image u else (s.image u).clearTelemetry

/-- The image that write leaves: the band taken at once, and the exchange begun. -/
def presentImage (s : State) (u : UnitNo) (n : UnitEntry) : Image :=
  { retaken s.tbs n.profile (keptImage s u n) with
    identity := .identWait, identCount := 1, identTimer := some s.tbs.plant.identWait, verifyEvent := true }

theorem storePresent_eq {u : UnitNo} {n : UnitEntry} {s : State} (h : (s.seq u).state = .dormant)
    (ho : s.orderStands = false) : ∃ x q, storePresent u n s = { s with
      tbs := { s.tbs with units := s.tbs.units.set u n }
      uib := { s.uib with images := s.uib.images.set u (presentImage s u n) }
      alc := { s.alc with entries := s.alc.entries.set u x }
      lpu := { s.lpu with cmds := placeIn { slot := .stage u, dest := n.addr, cmd := .identReq } s.lpu.cmds }
      rpb := q } ∧ q.alertLow = (storePresent u n s).alertDue ∧
      ((∀ r ∈ s.rpb.queue, r.isEventOf u = false) → ∃ rs, q.queue = s.rpb.queue ++ rs) := by
  let i : Image := keptImage s u n
  let s2 : State := (s.setUnit u n).setImage u i
  have telemetry : (if (s.unit u).present = true ∧ (s.unit u).addr = n.addr then s.setUnit u n
      else (s.setUnit u n).setImage u ((s.setUnit u n).image u).clearTelemetry) = s2 := by
    dsimp only [s2, i, keptImage]
    split
    · exact congrArg (fun x => { s.setUnit u n with uib := { s.uib with images := x } }) (PerUnit.set_get _ _).symm
    · rfl
  obtain ⟨x, q, band, rs, hrs⟩ := recomputeBand_dormant (s := s2) (u := u) h ho
  let s3 : State := closeEvent (recomputeBand u none (.start s2))
  let s4 : State := driveAlert (s3.setImage u { s3.image u with identity := .unverified, identTimer := none })
  have shape : storePresent u n s = startExchange u s4 := by
    unfold storePresent
    dsimp only
    rw [telemetry]
  let r : Image := retaken s.tbs n.profile i
  have recomputed : s2.recomputed u (s2.image u) = r := by
    rw [State.setImage_image_self, recomputed_eq_retaken, show s2.unit u = n from PerUnit.get_set_self _ _ _]
    rfl
  have taken : s3 = { s with
      tbs := { s.tbs with units := s.tbs.units.set u n }
      uib := { s.uib with images := s.uib.images.set u r }
      alc := { s.alc with entries := s.alc.entries.set u x }
      rpb := q } := by
    have images : s2.uib.images.set u r = s.uib.images.set u r := PerUnit.set_set _ _ _ _
    rw [show s3 = _ from band, recomputed, images]
    rfl
  clear_value s3
  subst taken
  have image : s4.image u = { r with identity := .unverified, identTimer := none } := by
    refine (State.setImage_image_self _ _ _).trans ?_
    rw [State.image, PerUnit.get_set_self]
  have addr : (s4.unit u).addr = n.addr := congrArg UnitEntry.addr (PerUnit.get_set_self _ _ _)
  have images (y : Image) : s4.uib.images.set u y = s.uib.images.set u y := by
    show (PerUnit.set (PerUnit.set _ u r) u _).set u y = _
    rw [PerUnit.set_set, PerUnit.set_set]
  obtain ⟨q', hx, hq⟩ := startExchange_eq u s4
  have alert : (storePresent u n s).rpb.alertLow = (storePresent u n s).alertDue :=
    shape ▸ (startExchange_take (a := false) (b := false) u s4).alert rfl
  refine ⟨x, q', ?_, ?_, fun hr => hq _ rs hrs hr⟩
  · rw [shape, hx, image, addr, images]
    rfl
  · rw [← alert, shape, hx]

/-- A UNIT write with present = 1 that is stored is answered, and then has its effect (R21). -/
theorem unitWritePresent_stored {h : Hdr} {index present : Byte} {f : UnitFields} {pad : BitVec 80} {s : State}
    (hd : DeliveredToPart (cellUnitWrite h index present f pad) s) (hg : s.tbs.gateOpen = true) {k : Nat} {u : UnitNo}
    {n : UnitEntry} (stored : decideUnit (s.withLinkUp .up) index present f = .store k (u, n)) :
    exec (.unitWritePresent h index present f pad) s = .next (storePresent u n ((s.withLinkUp .up).reported
      (writeAnswer h tableUnit index 0 (if k = 0 then .accepted else .clamped) k))) := by
  refine (arriveUp_toPart (takeUnitWritePresent h index present f) hd.1 hd.2.1).trans (congrArg Host.Outcome.next ?_)
  rw [takeUnitWritePresent, stored, takeWrite_store _ _ _ _ _ (s.withLinkUp .up) hg, pushReport_eq_reported]

section
variable (s : State) (u : UnitNo) (n : UnitEntry)

/-- The fields of an image that neither a band nor an exchange is about. -/
theorem presentImage_kept :
    let i := keptImage s u n
    let j := presentImage s u n
    j.stage = i.stage ∧ j.fault = i.fault ∧ j.power = i.power ∧ j.head = i.head ∧ j.perm = i.perm ∧
      j.interlocks = i.interlocks ∧ j.stale = i.stale ∧ j.staleTimer = i.staleTimer := by
  unfold presentImage retaken
  split <;> exact ⟨rfl, rfl, rfl, rfl, rfl, rfl, rfl, rfl⟩

theorem presentImage_watch : (presentImage s u n).watch = (s.image u).watch ∧
    (presentImage s u n).events = (s.image u).events := by
  unfold presentImage retaken keptImage
  split <;> split <;> exact ⟨rfl, rfl⟩

theorem presentImage_band :
    let j := presentImage s u n
    (j.head = none → j.band = .none ∧ j.region = none) ∧
    ∀ hd, j.head = some hd →
      let b := selectBand s.tbs.bands[n.profile] (s.tbs.profiles[n.profile]).bandCount hd
      j.band = b.1 ∧ j.region = some b.2 := by
  have head := retaken_head s.tbs n.profile (keptImage s u n)
  exact ⟨fun h => retaken_none (head.symm.trans h), fun hd h => retaken_some (head.symm.trans h)⟩

end

/-- What a UNIT write that makes a unit present leaves, the report apart. -/
theorem storePresent_answered {u : UnitNo} {n : UnitEntry} {s : State} (r : Report) (h : (s.seq u).state = .dormant)
    (ho : s.orderStands = false) : ∃ x q, storePresent u n (s.reported r) = { s with
      tbs := { s.tbs with units := s.tbs.units.set u n }
      uib := { s.uib with images := s.uib.images.set u (presentImage s u n) }
      alc := { s.alc with entries := s.alc.entries.set u x }
      lpu := { s.lpu with cmds := placeIn { slot := .stage u, dest := n.addr, cmd := .identReq } s.lpu.cmds }
      rpb := q } ∧ q.alertLow = (storePresent u n (s.reported r)).alertDue ∧
      ((∀ x ∈ (s.reported r).rpb.queue, x.isEventOf u = false) → ∃ rs, q.queue = (s.reported r).rpb.queue ++ rs) := by
  have asleep : ((s.reported r).seq u).state = .dormant := by
    rw [reported_eq]
    exact h
  have noOrder : (s.reported r).orderStands = false := by
    rw [State.orderStands, reported_dse]
    exact ho
  obtain ⟨x, q, hx, rest⟩ := storePresent_eq (n := n) asleep noOrder
  obtain ⟨p, hp⟩ : ∃ p, s.reported r = { s with rpb := p } := ⟨_, reported_eq s r⟩
  rw [hp] at hx rest ⊢
  exact ⟨x, q, hx, rest⟩

/-- Settles O20: the decision stores, and while every sequencer is DORMANT what is stored is the entry, the unit's image
and its IDENT_REQ. -/
theorem unitWritePresentStored : Obligations.UnitWritePresentStored := by
  intro h index present f pad u s hd hg hi hp he quiet n apart own conv
  let a : State := s.withLinkUp .up
  let r : Report := writeAnswer h tableUnit index 0 (if unitClamped present f = 0 then .accepted else .clamped)
    (unitClamped present f)
  have free : addrCollides a u n.addr = false := by
    rw [Bool.eq_false_iff, ne_eq, addrCollides_eq_true]
    rintro (⟨v, hv, present, addr⟩ | addr | addr)
    · exact apart v hv present addr
    · exact own addr
    · exact conv addr
  have stored := unitWritePresent_stored hd hg (decideUnit_stores a index present f u hi he free)
  have noOrder : a.orderStands = false := by
    rw [State.orderStands, show a.dse = s.dse from rfl, he]
    rfl
  obtain ⟨x, q, hx, alert, queue⟩ :=
    storePresent_answered (s := a) (n := n) r (congrArg Seq.state (quiet.seqs u)) noOrder
  refine ⟨_, stored, ?_⟩
  rw [show storePresent u n (a.reported r) = _ from hx] at alert ⊢
  have image (y : PerUnit Image) : (y.set u (presentImage a u n)).get u = presentImage s u n := PerUnit.get_set_self _ _ _
  refine ⟨rfl, bne_iff_ne.mpr hp, ?_, fun v hv => ⟨PerUnit.get_set_ne _ _ _ _ hv, PerUnit.get_set_ne _ _ _ _ hv⟩,
    mem_placeIn_self _ _, placeIn_others { slot := .stage u, dest := n.addr, cmd := .identReq } s.lpu.cmds,
    rfl, rfl, rfl, rfl, rfl, rfl, alert, fun room events => ?_⟩
  · intro i kept j
    have hj : j = presentImage s u n := image _
    clear_value j
    subst hj
    have telemetry := presentImage_kept s u n
    have band := presentImage_band s u n
    refine ⟨rfl, rfl, rfl, rfl, (presentImage_watch s u n).1, (presentImage_watch s u n).2, fun k => ?_, fun k => ?_,
      band.1, band.2⟩
    · rw [keptImage, if_pos k] at telemetry
      exact telemetry
    · rw [keptImage, if_neg k] at telemetry
      exact telemetry
  · unfold ReportRoom at room
    have answered : (a.reported r).rpb.queue = s.rpb.queue ++ [r] :=
      reported_room a r (show s.rpb.queue.length < 16 by omega)
    obtain ⟨rs, hrs⟩ := queue (by
      rw [answered]
      intro x hx
      obtain hx | hx := List.mem_append.mp hx
      · exact events x hx
      · rw [List.mem_singleton.mp hx]
        rfl)
    exact ⟨rs, by rw [hrs, answered, List.append_assoc]; rfl⟩

end Sys2Proof.Machine
end

section
/-! An accepted ENGINE RUN: the sequencers adopt one after another, the hold plan is written from their states, and each
acts once on its entry (R65, R83, R87, R115 to R117). -/

namespace Sys2Proof.Machine

-- Nothing held (R62, R146) --------------------------------------------------------------------------------

/-- No unit holds or waits for a lock or the converter. -/
structure NothingHeld (s : State) : Prop where
  queue   : s.pra.startQueue = []
  holder  : s.pra.holder = none
  granted : s.pra.arb.granted = false
  locks   : ∀ w, (s.pra.locks.get w).holder = none ∧ (s.pra.locks.get w).waiters = []

theorem ResourcesHeld.nothing {s : State} (h : ResourcesHeld s) (asleep : ∀ u, (s.seq u).state = .dormant) :
    NothingHeld s := by
  have holder : s.pra.holder = none := by
    refine Option.eq_none_iff_forall_not_mem.mpr fun u hu => ?_
    exact h.not_holder (u := u) (by rw [asleep]; decide) hu
  have lock (w : Waterway) : (s.pra.locks.get w).holder = none := by
    refine Option.eq_none_iff_forall_not_mem.mpr fun u hu => ?_
    exact h.not_lockHolder (u := u) (by rw [asleep]; rfl) w hu
  refine ⟨List.eq_nil_iff_forall_not_mem.mpr fun u => h.not_queued (by rw [asleep]; decide), holder, ?_,
    fun w => ⟨lock w, h.lockTaken w (lock w)⟩⟩
  rw [h.granted, holder]
  rfl

theorem NothingHeld.waitsNowhere {s : State} (h : NothingHeld s) (u : UnitNo) : WaitsNowhere u s :=
  ⟨fun w => by rw [(h.locks w).2]; exact List.not_mem_nil, by rw [h.queue]; exact List.not_mem_nil⟩

theorem NothingHeld.held {s : State} (h : NothingHeld s) : ResourcesHeld s where
  queueNodup := h.queue ▸ List.nodup_nil
  queueState u hu := by rw [h.queue] at hu; cases hu
  granted := by rw [h.granted, h.holder]; rfl
  holderState u hu := by rw [h.holder] at hu; cases hu
  waitersNodup w := (h.locks w).2 ▸ List.nodup_nil
  waiterState w u hu := by rw [(h.locks w).2] at hu; cases hu
  lockState w u hu := by rw [(h.locks w).1] at hu; cases hu
  lockTaken w _ := (h.locks w).2

theorem NothingHeld.congr {s t : State} (h : NothingHeld s) (hp : t.pra = s.pra) : NothingHeld t :=
  ⟨hp ▸ h.queue, hp ▸ h.holder, hp ▸ h.granted, hp ▸ h.locks⟩

-- Adoption one after another (R115) -----------------------------------------------------------------------

/-- What the adoption by the sequencers of some units leaves of sequencers, setpoints and the arbiter. -/
structure AdoptedAll (us : List UnitNo) (e f : Ev) : Prop where
  pra      : f.s.pra = e.s.pra
  due      : ∀ u, u ∈ f.due ↔ u ∈ us ∨ u ∈ e.due
  record   : ∀ u ∈ us, f.s.seq u = .adopting (adoptedState (e.s.image u)) (e.s.image u).perm.lockout.val
  setpoint : ∀ u ∈ us, adoptedState (e.s.image u) = .gOn → ∀ b, e.s.bandOf u = some b → b.turb = true →
               (f.s.ramp u).setpoint = some (b.clamp (e.s.image u).power)
  ramp     : ∀ u ∈ us, (adoptedState (e.s.image u) ≠ .gOn ∨ ∀ b, e.s.bandOf u = some b → b.turb = false) →
               f.s.ramp u = e.s.ramp u
  others   : ∀ u, u ∉ us → f.s.seq u = e.s.seq u ∧ f.s.ramp u = e.s.ramp u

theorem adoptAll_adoptedAll {us : List UnitNo} (distinct : us.Nodup) {e : Ev}
    (asleep : ∀ u ∈ us, (e.s.seq u).state = .dormant) : AdoptedAll us e (adoptAll us e) := by
  induction us generalizing e with
  | nil => exact ⟨rfl, fun u => by simp [adoptAll], fun _ h => absurd h List.not_mem_nil,
      fun _ h => absurd h List.not_mem_nil, fun _ h => absurd h List.not_mem_nil, fun _ _ => ⟨rfl, rfl⟩⟩
  | cons v us ih =>
    obtain ⟨fresh, distinct⟩ := List.nodup_cons.mp distinct
    have frame := adopt_frame v e
    have notOn : (e.s.seq v).state ≠ .gOn := by
      rw [asleep v List.mem_cons_self]
      decide
    have seqs := adopt_seqs v e
    have seqOther {u : UnitNo} (hu : u ≠ v) : (adopt v e).s.seq u = e.s.seq u := by
      rw [State.seq, seqs]
      exact PerUnit.get_set_ne _ _ _ _ hu
    have apart {u : UnitNo} (hu : u ∈ us) : u ≠ v := fun k => fresh (k ▸ hu)
    have rest := ih distinct (e := adopt v e) fun u hu => by
      rw [seqOther (apart hu)]
      exact asleep u (List.mem_cons_of_mem _ hu)
    have image (u : UnitNo) : (adopt v e).s.image u = e.s.image u := frame.image_eq u
    have band (u : UnitNo) : (adopt v e).s.bandOf u = e.s.bandOf u := frame.bandOf_eq u
    obtain ⟨seqV, rampV⟩ := rest.others v fresh
    refine ⟨rest.pra.trans (adopt_pra v e), fun u => ?_, fun u hu => ?_, fun u hu hn b hb ht => ?_, fun u hu hn => ?_,
      fun u hu => ?_⟩
    · show u ∈ (adoptAll us (adopt v e)).due ↔ _
      rw [rest.due, (adopt_owes v e).1, List.mem_cons, List.mem_cons]
      tauto
    · obtain rfl | hu := List.mem_cons.mp hu
      · show (adoptAll us (adopt u e)).s.seq u = _
        rw [seqV, State.seq, seqs, PerUnit.get_set_self]
      · rw [← image u]
        exact rest.record u hu
    · obtain rfl | hu := List.mem_cons.mp hu
      · show ((adoptAll us (adopt u e)).s.ramp u).setpoint = _
        rw [rampV]
        exact adopt_setpoint u e hn hb ht
      · rw [← image u]
        exact rest.setpoint u hu (by rw [image]; exact hn) b (by rw [band]; exact hb) ht
    · obtain rfl | hu := List.mem_cons.mp hu
      · show (adoptAll us (adopt u e)).s.ramp u = _
        rw [rampV]
        exact adopt_ramp_kept u e notOn hn
      · show (adoptAll us (adopt v e)).s.ramp u = _
        rw [rest.ramp u hu (by rw [image]; simpa only [band] using hn)]
        exact adopt_ramp_ne v e notOn (apart hu)
    · obtain ⟨hv, hu⟩ := not_or.mp (mt List.mem_cons.mpr hu)
      obtain ⟨seq, ramp⟩ := rest.others u hu
      exact ⟨seq.trans (seqOther hv), ramp.trans (adopt_ramp_ne v e notOn hv)⟩

-- One sequencer's act among the turns (R89, R117) ---------------------------------------------------------

/-- Turns of other units leave a unit that waits nowhere, whoever acts. -/
theorem foldl_actTurn_apart (old : PerUnit Entry) (u : UnitNo) (us : List UnitNo) (hu : u ∉ us) {e : Ev}
    (h : ResourcesHeld e.s) : Apart u e.s (us.foldl (actTurn old) e).s ∧ SeqFrame e.s (us.foldl (actTurn old) e).s ∧
      ResourcesHeld (us.foldl (actTurn old) e).s ∧ (us.foldl (actTurn old) e).due = e.due := by
  induction us generalizing e with
  | nil => exact ⟨.refl _ _, .refl _, h, rfl⟩
  | cons v us ih =>
    obtain ⟨hv, hu⟩ := not_or.mp (mt List.mem_cons.mpr hu)
    obtain ⟨-, held, due, -⟩ := actTurn_planTurn old h v
    obtain ⟨apart, frame, held, due'⟩ := ih hu held
    exact ⟨(actTurn_apart old e fun k => hv k.symm).trans apart, (actTurn_frame old e v).trans frame, held, due'.trans due⟩

/-- The pass over the sequencers around one unit's turn. -/
theorem actAll_around (old : PerUnit Entry) (u : UnitNo) {e : Ev} (h : ResourcesHeld e.s) : ∃ f : Ev,
    Apart u e.s f.s ∧ SeqFrame e.s f.s ∧ ResourcesHeld f.s ∧ f.due = e.due ∧
      Apart u (actTurn old f u).s (actAll old e).s := by
  obtain ⟨before, after, split⟩ := List.append_of_mem (UnitNo.mem_all u)
  have distinct : (before ++ u :: after).Nodup := split ▸ (by decide : UnitNo.all.Nodup)
  obtain ⟨-, tail, cross⟩ := List.nodup_append.mp distinct
  have first : u ∉ before := fun hu => cross u hu u List.mem_cons_self rfl
  obtain ⟨apart, frame, held, due⟩ := foldl_actTurn_apart old u before first h
  refine ⟨before.foldl (actTurn old) e, apart, frame, held, due, ?_⟩
  have last := (foldl_actTurn_apart old u after (List.nodup_cons.mp tail).1
    (actTurn_planTurn old held u).2.1).1
  unfold actAll
  rw [split, List.foldl_append, List.foldl_cons]
  exact last

-- The act on the hold plan (R87, R116) --------------------------------------------------------------------

theorem actTurn_due {old : PerUnit Entry} {u : UnitNo} {f : Ev} (h : u ∈ f.due) : actTurn old f u = act u f :=
  if_pos (.inr h)

section
variable {u : UnitNo} {f : Ev}

/-- A sequencer that its state makes passive, or that stands where its entry asks, keeps its record. -/
theorem act_holds (hl : (f.s.seq u).linger = none)
    (h : let n := (f.s.seq u).state
      let m := (f.s.entry u).mode
      n.passive = true ∨ (n = .still ∧ m = .still) ∨ (n = .gOn ∧ m = .gen) ∨ (n = .gAir ∧ m = .genAir) ∨
        (n = .pAir ∧ m = .pumpAir) ∨ (n = .pOn ∧ m = .pump)) (hd : u ∈ f.due) :
    (act u f).s.seq u = f.s.seq u := by
  obtain h | h := h
  · rw [← actTurn_due (old := .all .cold) hd, actTurn_passive _ f h]
  · exact act_asked hl h

/-- A sequencer in G_ON or P_ON that is forced out stops (R128). -/
theorem act_forcedOut (hn : (f.s.seq u).state = .gOn ∨ (f.s.seq u).state = .pOn) (hm : (f.s.entry u).mode = .still)
    (ho : (f.s.entry u).forcedOut = true) : act u f = enterStopping u f := by
  have still : mayLinger u f.s = false := by simp [mayLinger, ho]
  have acts : act u f = actStable u f := if_pos (by rw [Ev.state]; obtain h | h := hn <;> rw [h] <;> rfl)
  rw [acts]
  unfold actStable Ev.state
  obtain h | h := hn <;> rw [h, hm] <;> exact if_neg (by rw [still]; decide)

end

theorem turbineBand_some {s : State} {u : UnitNo} {b : Band} (hb : s.bandOf u = some b) (ht : b.turb = true) :
    s.turbineBand u = some b := by
  rw [State.turbineBand, hb, Option.filter_some, if_pos ht]

theorem turbineBand_none {s : State} {u : UnitNo} (h : ∀ b, s.bandOf u = some b → b.turb = false) :
    s.turbineBand u = none := by
  rw [State.turbineBand, Option.filter_eq_none_iff]
  exact fun b hb => by rw [h b hb]; decide

theorem pumpBand_some {s : State} {u : UnitNo} {b : Band} (hb : s.bandOf u = some b) (hp : b.pump = true) :
    s.pumpBand u = some b := by
  rw [State.pumpBand, hb, Option.filter_some, if_pos hp]

theorem pumpBand_none {s : State} {u : UnitNo} (h : ∀ b, s.bandOf u = some b → b.pump = false) :
    s.pumpBand u = none := by
  rw [State.pumpBand, Option.filter_eq_none_iff]
  exact fun b hb => by rw [h b hb]; decide

/-- The settling check is for a standing order (R82). -/
theorem closeSettling_noOrder {e : Ev} (h : e.s.dse.standing.state = .none) : closeSettling e = e.s := by
  unfold closeSettling settleCheck
  split
  · exact if_neg fun k => by rw [h] at k; exact nomatch k.2.1
  · rfl

-- The event of an accepted RUN (R65) ----------------------------------------------------------------------

/-- RUNNING, with the assignments of the UNIT table. -/
def State.runs (s : State) : State :=
  { s with dse := { s.dse with assign := .ofFn (fun u => (s.unit u).assign), engine := .running } }

/-- The event of an accepted RUN before the sequencers act. -/
def Ev.running (s : State) : Ev :=
  (adoptAll (UnitNo.all.filter (adoptable s.runs)) (.start s.runs)).map fun t => startRampTimer (holdPlan t)

theorem runAccepted_eq (h : Hdr) (s : State) :
    runAccepted h s = closeEvent (.running (s.reported (mgtPlain h subEngine .accepted))) := by
  rw [← pushReport_eq_reported]
  rfl

section
variable {s : State} (held : ResourcesHeld s) (asleep : ∀ u, (s.seq u).state = .dormant)
  (noOrder : s.dse.standing.state = .none)

theorem mem_adoptable (u : UnitNo) : u ∈ UnitNo.all.filter (adoptable s.runs) ↔
    (s.unit u).present = true ∧ (s.image u).identity = .verified := by
  rw [List.mem_filter, and_iff_right (UnitNo.mem_all u), adoptable, Bool.and_eq_true, beq_iff_eq]
  rfl

theorem running_frame : SeqFrame s.runs (adoptAll (UnitNo.all.filter (adoptable s.runs)) (.start s.runs)).s :=
  adoptAll_frame _ (.start s.runs)

include asleep in
theorem running_adopted : AdoptedAll (UnitNo.all.filter (adoptable s.runs)) (.start s.runs)
    (adoptAll (UnitNo.all.filter (adoptable s.runs)) (.start s.runs)) :=
  adoptAll_adoptedAll ((by decide : UnitNo.all.Nodup).filter _) fun u _ => asleep u

include held asleep in
theorem running_nothing : NothingHeld (Ev.running s).s :=
  (held.nothing asleep).congr (running_adopted asleep).pra

include noOrder in
theorem closeEvent_running : closeEvent (.running s) = (actAll (Ev.running s).s.alc.entries (.running s)).s := by
  have none : (Ev.running s).s.dse.standing.state = .none := by
    show (adoptAll _ _).s.dse.standing.state = .none
    rw [running_frame.dse]
    exact noOrder
  have idle : ((Ev.running s).trig && (Ev.running s).s.orderStands) = false := by
    rw [State.orderStands, none]
    simp
  unfold closeEvent
  rw [if_neg (by rw [idle]; decide)]
  exact closeSettling_noOrder (by rw [(actAll_frame _ _).dse]; exact none)

/-- The state once every sequencer has adopted its unit, before the hold plan. -/
def State.adopted (s : State) : State := (adoptAll (UnitNo.all.filter (adoptable s.runs)) (.start s.runs)).s

theorem running_entry (u : UnitNo) : (Ev.running s).s.entry u = heldEntry s.adopted u := PerUnit.get_ofFn _ _

theorem adopted_bandOf (u : UnitNo) : s.adopted.bandOf u = s.bandOf u := (running_frame (s := s)).bandOf_eq u

/-- One adopting sequencer's act, and what it leaves for the end. -/
structure ActsOnce (s : State) (u : UnitNo) (f : Ev) : Prop where
  record : f.s.seq u = .adopting (adoptedState (s.image u)) (s.image u).perm.lockout.val
  ramp   : f.s.ramp u = s.adopted.ramp u
  entry  : f.s.entry u = heldEntry s.adopted u
  held   : ResourcesHeld f.s
  frame  : SeqFrame (Ev.running s).s f.s
  due    : u ∈ f.due
  ends   : ((act u f).s.seq u).state.holdsNothing = true →
             let t := closeEvent (.running s)
             t.seq u = (act u f).s.seq u ∧ t.ramp u = (act u f).s.ramp u ∧ stageSlot u t = stageSlot u (act u f).s

include held asleep noOrder in
theorem running_actsOnce {u : UnitNo} (hp : (s.unit u).present = true) (hv : (s.image u).identity = .verified) :
    ∃ f, ActsOnce s u f := by
  have adopted := running_adopted asleep
  have mem := (mem_adoptable (s := s) u).mpr ⟨hp, hv⟩
  have nothing := running_nothing held asleep
  obtain ⟨f, apart, frame, fheld, due, last⟩ := actAll_around (Ev.running s).s.alc.entries u nothing.held
  obtain ⟨-, seq, ramp, -⟩ := apart (nothing.waitsNowhere u)
  have isDue : u ∈ f.due := by
    rw [due]
    exact (adopted.due u).mpr (.inl mem)
  refine ⟨f, seq.trans (adopted.record u mem), ramp, ?_, fheld, frame, isDue, fun hn => ?_⟩
  · rw [frame.entry_eq, running_entry]
  · rw [closeEvent_running noOrder]
    rw [actTurn_due isDue] at last
    exact (last ((act_turn fheld u).held.holdsNothing hn).waits).2

end

/-- The entry that a hold plan writes, by mode, share and forced-out marker (R83, R87). -/
def Entry.hold (m : PlanMode) (share : Option Nat) (marker : Bool) : Entry :=
  { mode := m, share, cls := 0, forcedOut := marker, originId := 0, originSrc := 0 }

section
variable {s : State} {u : UnitNo}

theorem heldEntry_gOn (hn : (s.seq u).state = .gOn) {b : Band} (hb : s.turbineBand u = some b) :
    heldEntry s u = .hold .gen (s.ramp u).setpoint false := by
  rw [heldEntry, hn]
  exact if_pos (by rw [hb]; rfl)

theorem heldEntry_pOn (hn : (s.seq u).state = .pOn) {b : Band} (hb : s.pumpBand u = some b) :
    heldEntry s u = .hold .pump none false := by
  rw [heldEntry, hn]
  exact if_pos (by rw [hb]; rfl)

/-- A state in G_ON or P_ON whose band does not allow its direction is forced out (R87). -/
theorem heldEntry_out (h : (s.seq u).state = .gOn ∧ s.turbineBand u = none ∨ (s.seq u).state = .pOn ∧ s.pumpBand u = none) :
    heldEntry s u = .hold .still none true := by
  obtain ⟨hn, hb⟩ | ⟨hn, hb⟩ := h <;> rw [heldEntry, hn] <;> exact if_neg (by rw [hb]; decide)

theorem heldEntry_off (hg : (s.seq u).state ≠ .gOn) (hp : (s.seq u).state ≠ .pOn) : heldEntry s u =
    .hold (if (s.seq u).state = .gAir then .genAir else if (s.seq u).state = .pAir then .pumpAir else .still) none
      false := by
  unfold heldEntry
  cases h : (s.seq u).state with
  | gOn => exact absurd h hg
  | pOn => exact absurd h hp
  | _ => rfl

end

/-- The states a sequencer can adopt in (R115). -/
theorem adoptedState_cases (i : Image) : (adoptedState i).passive = true ∨ adoptedState i = .still ∨
    adoptedState i = .gOn ∨ adoptedState i = .gAir ∨ adoptedState i = .pAir ∨ adoptedState i = .pOn := by
  rw [adoptedState_eq]
  repeat' split
  all_goals simp [SeqState.passive, SeqState.stable, SeqState.rotating]

section
variable {s : State} (held : ResourcesHeld s) (asleep : ∀ u, (s.seq u).state = .dormant)
  (noOrder : s.dse.standing.state = .none) {u : UnitNo} (hp : (s.unit u).present = true)
  (hv : (s.image u).identity = .verified)
include held asleep noOrder hp hv

omit held noOrder in
theorem adopted_state : (s.adopted.seq u).state = adoptedState (s.image u) := by
  have record := (running_adopted asleep).record u ((mem_adoptable u).mpr ⟨hp, hv⟩)
  exact congrArg Seq.state record

omit held asleep hp hv in
theorem running_entry_end : (closeEvent (.running s)).entry u = heldEntry s.adopted u := by
  rw [closeEvent_running noOrder, (actAll_frame _ _).entry_eq, running_entry]

/-- A unit out of G_ON and P_ON keeps the record it adopted with. -/
theorem running_off (hg : adoptedState (s.image u) ≠ .gOn) (ho : adoptedState (s.image u) ≠ .pOn) :
    let n := adoptedState (s.image u)
    (closeEvent (.running s)).seq u = .adopting n (s.image u).perm.lockout.val ∧
    (closeEvent (.running s)).entry u =
      .hold (if n = .gAir then .genAir else if n = .pAir then .pumpAir else .still) none false := by
  obtain ⟨f, once⟩ := running_actsOnce held asleep noOrder hp hv
  have state := adopted_state asleep hp hv
  have entry := heldEntry_off (by rw [state]; exact hg) (by rw [state]; exact ho)
  rw [state] at entry
  have keeps : (act u f).s.seq u = f.s.seq u := by
    refine act_holds (by rw [once.record]; rfl) ?_ once.due
    dsimp only
    rw [once.record, once.entry, entry]
    show (adoptedState (s.image u)).passive = true ∨ (adoptedState (s.image u) = .still ∧ _) ∨
      (adoptedState (s.image u) = .gOn ∧ _) ∨ (adoptedState (s.image u) = .gAir ∧ _) ∨
      (adoptedState (s.image u) = .pAir ∧ _) ∨ (adoptedState (s.image u) = .pOn ∧ _)
    obtain k | k | k | k | k | k := adoptedState_cases (s.image u)
    · exact .inl k
    · exact .inr (.inl ⟨k, by rw [k]; rfl⟩)
    · exact absurd k hg
    · exact .inr (.inr (.inr (.inl ⟨k, by rw [k]; rfl⟩)))
    · exact .inr (.inr (.inr (.inr (.inl ⟨k, by rw [k]; rfl⟩))))
    · exact absurd k ho
  have ends := once.ends (by rw [keeps, once.record]; exact adoptedState_holdsNothing _)
  exact ⟨ends.1.trans (keeps.trans once.record), (running_entry_end noOrder).trans entry⟩

/-- A unit adopted in G_ON in a band that allows turbine generates at its measured power (R87, R167). -/
theorem running_gOn (hn : adoptedState (s.image u) = .gOn) {b : Band} (hb : s.bandOf u = some b) (ht : b.turb = true) :
    let p := some (b.clamp (s.image u).power)
    (closeEvent (.running s)).seq u = .adopting .gOn (s.image u).perm.lockout.val ∧
    ((closeEvent (.running s)).ramp u).setpoint = p ∧ (closeEvent (.running s)).entry u = .hold .gen p false := by
  obtain ⟨f, once⟩ := running_actsOnce held asleep noOrder hp hv
  have state := (adopted_state asleep hp hv).trans hn
  have setpoint : (s.adopted.ramp u).setpoint = some (b.clamp (s.image u).power) :=
    (running_adopted asleep).setpoint u ((mem_adoptable u).mpr ⟨hp, hv⟩) hn b hb ht
  have entry := heldEntry_gOn state (turbineBand_some ((adopted_bandOf u).trans hb) ht)
  rw [setpoint] at entry
  have record : f.s.seq u = .adopting .gOn (s.image u).perm.lockout.val := by rw [once.record, hn]
  have keeps : act u f = f := act_generating (by rw [record]; rfl) (by rw [once.entry, entry]; rfl)
  obtain ⟨seq, ramp, -⟩ := once.ends (by rw [keeps, record]; rfl)
  rw [keeps] at seq ramp
  exact ⟨seq.trans record, by rw [ramp, once.ramp, setpoint], (running_entry_end noOrder).trans entry⟩

/-- A unit adopted in P_ON in a band that allows pump pumps (R87). -/
theorem running_pOn (hn : adoptedState (s.image u) = .pOn) {b : Band} (hb : s.bandOf u = some b) (ht : b.pump = true) :
    (closeEvent (.running s)).seq u = .adopting .pOn (s.image u).perm.lockout.val ∧
    (closeEvent (.running s)).entry u = .hold .pump none false := by
  obtain ⟨f, once⟩ := running_actsOnce held asleep noOrder hp hv
  have state := (adopted_state asleep hp hv).trans hn
  have entry := heldEntry_pOn state (pumpBand_some ((adopted_bandOf u).trans hb) ht)
  have record : f.s.seq u = .adopting .pOn (s.image u).perm.lockout.val := by rw [once.record, hn]
  have keeps : (act u f).s.seq u = f.s.seq u :=
    act_holds (by rw [record]; rfl)
      (by rw [record, once.entry, entry]; exact .inr (.inr (.inr (.inr (.inr ⟨rfl, rfl⟩))))) once.due
  obtain ⟨seq, -, -⟩ := once.ends (by rw [keeps, record]; rfl)
  exact ⟨seq.trans (keeps.trans record), (running_entry_end noOrder).trans entry⟩

/-- A unit adopted in G_ON or P_ON in a band that does not allow its direction stops (R87, R125). -/
theorem running_stops (h : adoptedState (s.image u) = .gOn ∧ (∀ b, s.bandOf u = some b → b.turb = false) ∨
      adoptedState (s.image u) = .pOn ∧ ∀ b, s.bandOf u = some b → b.pump = false) (hr : s.ramp u = .idle) :
    let t := closeEvent (.running s)
    t.entry u = .hold .still none true ∧ (t.seq u).state = .stopping ∧
    (t.seq u).stageTimer = some (s.profileOf u).tStop ∧
    { slot := .stage u, dest := (s.unit u).addr, cmd := .stop } ∈ t.lpu.cmds ∧ (t.ramp u).setpoint = none := by
  obtain ⟨f, once⟩ := running_actsOnce held asleep noOrder hp hv
  have state := adopted_state asleep hp hv
  have entry : heldEntry s.adopted u = .hold .still none true := by
    refine heldEntry_out (h.imp (fun k => ⟨state.trans k.1, ?_⟩) fun k => ⟨state.trans k.1, ?_⟩)
    · exact turbineBand_none fun b hb => k.2 b ((adopted_bandOf u).symm.trans hb)
    · exact pumpBand_none fun b hb => k.2 b ((adopted_bandOf u).symm.trans hb)
  have on : (f.s.seq u).state = .gOn ∨ (f.s.seq u).state = .pOn := by
    rw [once.record]
    exact h.imp And.left And.left
  have stop : act u f = enterStopping u f :=
    act_forcedOut on (by rw [once.entry, entry]; rfl) (by rw [once.entry, entry]; rfl)
  have stopped := enterStopping_stopped (u := u) once.held
  have idle : s.adopted.ramp u = .idle := by
    refine ((running_adopted asleep).ramp u ((mem_adoptable u).mpr ⟨hp, hv⟩) ?_).trans hr
    obtain k | k := h
    · exact .inr k.2
    · exact .inl (by show adoptedState (s.image u) ≠ _; rw [k.1]; decide)
  have ramp : (enterStopping u f).s.ramp u = .idle := by
    rw [enterStopping_ramp_self u f once.held, once.ramp, idle, ite_self]
  obtain ⟨⟨stopping, timer, -, command⟩, -, -, -⟩ := stopped
  obtain ⟨seq, ramp', slot⟩ := once.ends (by rw [stop, stopping]; rfl)
  rw [stop] at seq ramp' slot
  have frame := once.frame.trans (enterStopping_frame u f)
  have profile : (enterStopping u f).s.profileOf u = s.profileOf u :=
    (frame.profileOf_eq u).trans ((running_frame (s := s)).profileOf_eq u)
  have unit : (enterStopping u f).s.unit u = s.unit u := (frame.unit_eq u).trans ((running_frame (s := s)).unit_eq u)
  rw [profile] at timer
  rw [unit] at command
  intro t
  exact ⟨(running_entry_end noOrder).trans entry, (congrArg Seq.state seq).trans stopping,
    (congrArg Seq.stageTimer seq).trans timer,
    mem_cmds_of_slotOf (w := { slot := .stage u, dest := _, cmd := .stop }) slot command,
    congrArg RampUnit.setpoint (ramp'.trans ramp)⟩

end

/-- What an accepted RUN leaves beside the sequencers (R65, R165). -/
theorem running_rest {s : State} (noOrder : s.dse.standing.state = .none) :
    let t := closeEvent (.running s)
    t.dse.engine = .running ∧ (∀ u, t.assignOf u = (s.unit u).assign) ∧ t.rmp.timer = some s.tbs.plant.ti ∧
    t.dse.standing.state = .none ∧ t.dse.deferred = s.dse.deferred ∧ t.dse.guardTmr = s.dse.guardTmr ∧ t.uib = s.uib ∧
    LeavesSetting s t ∧ ∃ rs, t.rpb.queue = s.rpb.queue ++ rs := by
  intro t
  have adoption := (running_frame (s := s)).event
  have close := closeEvent_frame (.running s)
  have dse : t.dse = { s.runs.dse with standing := t.dse.standing } := by
    rw [close.dse, show (Ev.running s).s.dse = s.runs.dse from running_frame.dse]
  refine ⟨by rw [dse]; rfl, fun u => ?_, ?_, ?_, by rw [dse]; rfl, by rw [dse]; rfl, close.uib.trans adoption.uib, ?_, ?_⟩
  · rw [State.assignOf, dse]
    exact PerUnit.get_ofFn _ _
  · refine close.timer.trans ?_
    show some (s.adopted).tbs.plant.ti = _
    rw [State.adopted, adoption.tbs]
    rfl
  · refine (closeEvent_none _).mpr ?_
    show (s.adopted).dse.standing.state = .none
    rw [State.adopted, running_frame.dse]
    exact noOrder
  · have runs : LeavesSetting s s.runs := ⟨rfl, rfl, rfl, rfl, rfl, rfl, rfl, rfl, rfl⟩
    have hold : LeavesSetting s.adopted (Ev.running s).s := ⟨rfl, rfl, rfl, rfl, rfl, rfl, rfl, rfl, rfl⟩
    exact ((runs.trans adoption.leavesSetting).trans hold).trans close.leavesSetting
  · obtain ⟨xs, hx⟩ := adoption.queue
    obtain ⟨ys, hy⟩ := close.queue
    refine ⟨xs ++ ys, ?_⟩
    rw [hy, show (Ev.running s).s.rpb.queue = s.rpb.queue ++ xs from hx, List.append_assoc]

/-- Another unit's sequencer and setpoint stay as they are. -/
theorem running_others {s : State} (held : ResourcesHeld s) (asleep : ∀ u, (s.seq u).state = .dormant) {u : UnitNo}
    (hu : ¬((s.unit u).present = true ∧ (s.image u).identity = .verified)) :
    (closeEvent (.running s)).seq u = s.seq u ∧ (closeEvent (.running s)).ramp u = s.ramp u := by
  obtain ⟨seq, ramp⟩ := (running_adopted asleep).others u (mt (mem_adoptable u).mp hu)
  have passive : ((Ev.running s).s.seq u).state.passive = true := by
    rw [show (Ev.running s).s.seq u = s.seq u from seq, asleep]
    rfl
  obtain ⟨-, seq', ramp', -⟩ := closeEvent_apart _ passive ((running_nothing held asleep).waitsNowhere u)
  exact ⟨seq'.trans seq, ramp'.trans ramp⟩

/-- Settles O31: the validation passes, so that the event of the accepted RUN is taken; each sequencer of a present,
VERIFIED unit acts once on the entry that the hold plan wrote from the state it adopted. -/
theorem engineRunAccepted : Obligations.EngineRunAccepted := by
  intro h pad s hd he consistent passes adopted
  obtain ⟨agree, paused⟩ := consistent
  have quiet := paused he
  let a : State := (s.withLinkUp .up).reported (mgtPlain h subEngine .accepted)
  obtain ⟨q, ha⟩ : ∃ q, a = { s.withLinkUp .up with rpb := q } := ⟨_, reported_eq _ _⟩
  have valid : validation (s.withLinkUp .up) = none :=
    validation_passes fun u hu => (passes u hu).withLinkUp
  have taken : exec (.engineRun h pad) s = .next (closeEvent (.running a)) := by
    refine (arriveUp_toPart (takeEngineRun h) hd.1 hd.2.1).trans (congrArg Host.Outcome.next ?_)
    rw [takeEngineRun, valid]
    exact (if_pos he).trans (runAccepted_eq _ _)
  have held : ResourcesHeld a := (agree.withLinkUp .up).held.reported _
  have asleep (u : UnitNo) : (a.seq u).state = .dormant := by
    rw [ha]
    exact congrArg Seq.state (quiet.seqs u)
  have noOrder : a.dse.standing.state = .none := by
    rw [ha]
    exact quiet.standing
  have leaves : LeavesSetting (s.withLinkUp .up) a := (reported_event _ _).leavesSetting
  have queue (hq : s.rpb.queue.length < 16) : a.rpb.queue = s.rpb.queue ++ [mgtPlain h subEngine .accepted] :=
    reported_room _ _ hq
  clear_value a
  subst ha
  have state (i : Image) : adopted i = adoptedState i := (adoptedState_eq i).symm
  clear_value adopted
  obtain rfl : adopted = adoptedState := funext state
  obtain ⟨engine, assign, timer, standing, deferred, guard, uib, rest, rs, hrs⟩ := running_rest noOrder
  refine ⟨_, taken, engine, assign, timer, standing, deferred.trans quiet.deferred, guard.trans quiet.guard, uib,
    leaves.trans rest, fun u hu => running_others held asleep hu, fun u hp hv => ?_, fun room => ?_⟩
  · intro i n record plans stops
    have outs {n : SeqState} (k : adoptedState i = n) : record = .adopting n i.perm.lockout.val := by
      rw [← k]
      rfl
    have idle : ({ s.withLinkUp .up with rpb := q } : State).ramp u = .idle := by
      show s.rmp.units.get u = _
      rw [quiet.ramp]
      exact PerUnit.get_all _ _
    refine ⟨fun hg ho => ?_, fun hn b hb ht => ?_, fun hn b hb ht => ?_, fun hn hb => ?_, fun hn hb => ?_⟩
    · exact running_off held asleep noOrder hp hv hg ho
    · rw [outs hn]
      exact running_gOn held asleep noOrder hp hv hn hb ht
    · rw [outs hn]
      exact running_pOn held asleep noOrder hp hv hn hb ht
    · exact running_stops held asleep noOrder hp hv (.inl ⟨hn, hb⟩) idle
    · exact running_stops held asleep noOrder hp hv (.inr ⟨hn, hb⟩) idle
  · unfold ReportRoom at room
    rw [show q.queue = _ from queue (by omega), List.append_assoc] at hrs
    exact ⟨rs, hrs⟩

end Sys2Proof.Machine
end

section
/-! The ramp interval expiry in RUNNING: the moves of each waterway in the terms of the rules, the SETPOINTs placed, the
settling report and the SNAPSHOT (R31, R165, R166, R169 to R175, R191). -/

namespace Sys2Proof.Machine

-- Rates and moves (R169, R171, R172) ----------------------------------------------------------------------

/-- A class's own rate, or that of class 0 where it is unset (R31). -/
theorem rate_eq (p : Profile) (c : Fin 4) : p.rate c =
    let own := match c.val with
      | 0 => p.rate0
      | 1 => p.rate1
      | 2 => p.rate2
      | _ => p.rate3
    if own = 0 then p.rate0 else own := by
  match c with
  | 0 => rfl
  | 1 => rfl
  | 2 => rfl
  | 3 => rfl

theorem hasZone_iff (b : Band) : b.hasZone = true ↔ b.rzlo ≠ 0 ∨ b.rzhi ≠ 0 := by
  simp [Band.hasZone]

/-- The zone approach, its two directions written out (R172). -/
theorem approach_eq (b : Band) (cur share d : Nat) : approach b cur share d =
    if (b.rzlo ≠ 0 ∨ b.rzhi ≠ 0) ∧ cur < share ∧ cur ≤ b.rzlo ∧ b.rzhi ≤ share ∧ b.rzlo < cur + d then b.rzlo - cur
    else if (b.rzlo ≠ 0 ∨ b.rzhi ≠ 0) ∧ share < cur ∧ b.rzhi ≤ cur ∧ share ≤ b.rzlo ∧ cur < b.rzhi + d then cur - b.rzhi
    else d := by
  unfold approach
  by_cases hz : b.hasZone = true
  · rw [if_pos hz]
    exact if_congr (and_iff_right ((hasZone_iff b).mp hz)).symm rfl
      (if_congr (and_iff_right ((hasZone_iff b).mp hz)).symm rfl rfl)
  · have none := mt (hasZone_iff b).mpr hz
    rw [if_neg hz, if_neg fun k => none k.1, if_neg fun k => none k.1]

theorem farEdge_isSome (b : Band) (cur share : Nat) : (farEdge b cur share).isSome =
    decide ((b.rzlo ≠ 0 ∨ b.rzhi ≠ 0) ∧ (cur = b.rzlo ∧ b.rzhi ≤ share ∨ cur = b.rzhi ∧ share ≤ b.rzlo)) := by
  rw [Bool.eq_iff_iff, decide_eq_true_iff, ← hasZone_iff]
  unfold farEdge
  by_cases hz : b.hasZone = true
  · rw [if_pos hz, and_iff_right hz]
    split
    · next h => simp [h]
    · next h =>
      split
      · next h' => simp [h']
      · next h' => simp [h, h']
  · simp [hz]

/-- Which edge a candidate crosses to (R173). -/
theorem farEdge_eq {b : Band} {cur share : Nat} (h : (farEdge b cur share).isSome = true) : farEdge b cur share =
    some (if cur = b.rzlo ∧ b.rzhi ≤ share then b.rzhi else b.rzlo) := by
  unfold farEdge at h ⊢
  split at h
  · next hz =>
    rw [if_pos hz]
    split
    · rfl
    · next hu =>
      rw [if_neg hu] at h
      split at h
      · next hl => rw [if_pos hl]
      · cases h
  · cases h

-- The grants of a waterway (R174) -------------------------------------------------------------------------

/-- The remainder goes one at a time to the units that move, in ascending number. -/
theorem grants_map (total budget : Nat) (f : UnitNo → Nat) (r : Nat) {us : List UnitNo} (distinct : us.Nodup) :
    grants total budget r (us.map f) = us.map fun u =>
      f u * budget / total + if u ∈ (us.filter fun u => decide (0 < f u)).take r then 1 else 0 := by
  induction us generalizing r with
  | nil => rfl
  | cons u us ih =>
    obtain ⟨fresh, distinct⟩ := List.nodup_cons.mp distinct
    have absent (k : Nat) : u ∉ (us.filter fun u => decide (0 < f u)).take k := fun h =>
      fresh (List.mem_filter.mp (List.mem_of_mem_take h)).1
    have apart {v : UnitNo} (hv : v ∈ us) : v ≠ u := fun k => fresh (k ▸ hv)
    rw [List.map_cons, grants, List.map_cons]
    by_cases moves : 0 < f u
    · rw [List.filter_cons_of_pos (by simpa using moves)]
      cases r with
      | zero =>
        rw [if_neg fun k => absurd k.2 (by decide), ih 0 distinct]
        simp
      | succ r =>
        rw [if_pos ⟨moves, r.succ_pos⟩, Nat.add_sub_cancel, ih r distinct, List.take_succ_cons,
          if_pos List.mem_cons_self]
        exact congrArg _ (List.map_congr_left fun v hv =>
          congrArg (_ + ·) (if_congr (List.mem_cons.trans (or_iff_right (apart hv))).symm rfl rfl))
    · rw [List.filter_cons_of_neg (by simpa using moves), if_neg fun k => moves k.1, ih r distinct, if_neg (absent r),
        Nat.add_zero]

/-- A value found by its unit in a list made from the units. -/
theorem lookup_map {α : Type} (f : UnitNo → α) {us : List UnitNo} {u : UnitNo} (h : u ∈ us) :
    (us.map fun v => (v, f v)).lookup u = some (f u) := by
  induction us with
  | nil => cases h
  | cons v us ih =>
    rw [List.map_cons, List.lookup_cons]
    by_cases hv : u = v
    · subst hv
      simp
    · rw [beq_false_of_ne hv]
      exact ih ((List.mem_cons.mp h).resolve_left hv)

theorem zip_map_self {α β : Type} (f : α → β) (l : List α) : l.zip (l.map f) = l.map fun x => (x, f x) := by
  simpa using List.zip_map' (l := l) (f := id) (g := f)

-- The stepping (R170, R173 to R175) -----------------------------------------------------------------------

section
variable (s : State) (w : Waterway)

theorem rampingOn_nodup : (rampingOn s w).Nodup := (by decide : UnitNo.all.Nodup).filter _

/-- What the ramping units of a waterway desire together. -/
def desiredSum : Nat := ((rampingOn s w).map (desiredMove s)).sum

/-- The units that a remainder goes to (R174). -/
def remainderTo : List UnitNo :=
  ((rampingOn s w).filter fun u => decide (0 < desiredMove s u)).take (intervalBudget s w -
    ((rampingOn s w).map fun u => desiredMove s u * intervalBudget s w / desiredSum s w).sum)

theorem sharedMoves_eq : sharedMoves (intervalBudget s w) ((rampingOn s w).map (desiredMove s)) =
    (rampingOn s w).map fun u => if desiredSum s w ≤ intervalBudget s w then desiredMove s u
      else desiredMove s u * intervalBudget s w / desiredSum s w + if u ∈ remainderTo s w then 1 else 0 := by
  unfold sharedMoves
  by_cases h : desiredSum s w ≤ intervalBudget s w
  · simp only [if_pos h]
    exact if_pos h
  · refine (if_neg h).trans ?_
    rw [grants_map _ _ _ _ (rampingOn_nodup s w), List.map_map]
    simp only [if_neg h]
    rfl

theorem crosser_eq_head : crosser s w = ((rampingOn s w).filter fun u => (crossingTo s u).isSome).head? :=
  List.head?_filter.symm

variable {s w} {u : UnitNo}

theorem steppedRamp_of_ramping (h : ramps s u = true) {v : Nat}
    (hv : (steppedOn s (s.unit u).waterway).lookup u = some v) :
    steppedRamp s u = { s.ramp u with setpoint := some v, rate := some (activeRate s u) } := by
  rw [steppedRamp, if_pos h, hv]
  rfl

theorem mem_rampingOn_iff : u ∈ rampingOn s w ↔ ramps s u = true ∧ (s.unit u).waterway = w := by
  simp [rampingOn, UnitNo.mem_all]

/-- The setpoint of a unit that a crossing on its waterway keeps or moves (R173). -/
theorem stepped_crossing (hu : u ∈ rampingOn s w) {x : UnitNo} (hx : crosser s w = some x) :
    (steppedRamp s u).setpoint = some (if u = x then (crossingTo s u).getD (curOf s u) else curOf s u) := by
  obtain ⟨h, rfl⟩ := mem_rampingOn_iff.mp hu
  have value : (steppedOn s (s.unit u).waterway).lookup u =
      some (if u = x then (crossingTo s u).getD (curOf s u) else curOf s u) := by
    unfold steppedOn
    rw [hx]
    exact lookup_map _ hu
  rw [steppedRamp_of_ramping h value]

/-- The setpoint of a unit on a waterway without a crossing (R174). -/
theorem stepped_shared (hu : u ∈ rampingOn s w) (hx : crosser s w = none) :
    (steppedRamp s u).setpoint = some (moved (curOf s u) (shareOf s u)
      (if desiredSum s w ≤ intervalBudget s w then desiredMove s u
        else desiredMove s u * intervalBudget s w / desiredSum s w + if u ∈ remainderTo s w then 1 else 0)) := by
  obtain ⟨h, rfl⟩ := mem_rampingOn_iff.mp hu
  refine congrArg RampUnit.setpoint (steppedRamp_of_ramping h ?_)
  unfold steppedOn
  rw [hx]
  dsimp only
  rw [sharedMoves_eq, zip_map_self, List.map_map]
  exact lookup_map _ hu

/-- The record of a waterway on which a unit crosses (R175). -/
theorem crossingRecord_crossing {x : UnitNo} {b : Band} (hx : crosser s w = some x) (hb : s.bandOf x = some b) :
    crossingRecord s w = { outcome := .crossed
                           unit := some x
                           requested := (((rampingOn s w).filter fun v => v != x).map (desiredMove s)).sum
                           moved := b.rzhi - b.rzlo } := by
  unfold crossingRecord
  rw [hx]
  dsimp only
  rw [hb]
  rfl

/-- The record of a waterway without a crossing (R175). -/
theorem crossingRecord_shared (hx : crosser s w = none) :
    crossingRecord s w = if desiredSum s w ≤ intervalBudget s w
      then { outcome := if desiredSum s w = 0 then .idle else .within
             unit := none
             requested := desiredSum s w
             moved := desiredSum s w }
      else { outcome := .scaled, unit := none, requested := desiredSum s w, moved := intervalBudget s w } := by
  unfold crossingRecord
  rw [hx]
  show (if desiredSum s w = 0 then _ else if desiredSum s w ≤ intervalBudget s w then _ else _) = _
  by_cases none : desiredSum s w = 0
  · rw [if_pos none, none, if_pos (Nat.zero_le _), if_pos rfl]
    rfl
  · rw [if_neg none, if_neg none]
    rfl

theorem steppedRamp_idle (h : ramps s u = false) : steppedRamp s u = s.ramp u := if_neg (by simp [h])

theorem steppedRamp_rate (h : ramps s u = true) : (steppedRamp s u).rate = some (activeRate s u) := by
  rw [steppedRamp, if_pos h]

theorem steppedRamp_refresh : (steppedRamp s u).refresh = (s.ramp u).refresh := by
  unfold steppedRamp
  split <;> rfl

end

-- The SETPOINTs placed (R170, R180) -----------------------------------------------------------------------

/-- The unit's setpoint differs from what it was before. -/
def SetpointChanged (before s : State) (u : UnitNo) : Prop :=
  ∃ v, (s.ramp u).setpoint = some v ∧ (before.ramp u).setpoint ≠ some v

theorem setpointChanged_congr {before s t : State} {u : UnitNo} (h : t.ramp u = s.ramp u) :
    SetpointChanged before t u ↔ SetpointChanged before s u := by
  rw [SetpointChanged, h, SetpointChanged]

theorem placeIfChanged_changed {before s : State} {u : UnitNo} {v : Nat} (h : (s.ramp u).setpoint = some v)
    (hb : (before.ramp u).setpoint ≠ some v) : placeIfChanged before s u = placeSetpoint u v s := by
  unfold placeIfChanged
  rw [h]
  exact if_neg hb

theorem placeIfChanged_unchanged {before s : State} {u : UnitNo} (h : ¬SetpointChanged before s u) :
    placeIfChanged before s u = s := by
  unfold placeIfChanged
  split
  · next v hv => exact if_pos (not_not.mp fun hb => h ⟨v, hv, hb⟩)
  · rfl

/-- What the placements for these units do: of the state, the waiting commands and the ramp states change; each changed
setpoint is sent and its refresh timer started, and no other slot's command is lost. -/
structure PlacedFor (before s : State) (us : List UnitNo) (t : State) : Prop where
  others : t = { s with lpu := { s.lpu with cmds := t.lpu.cmds }, rmp := { s.rmp with units := t.rmp.units } }
  started : ∀ u ∈ us, SetpointChanged before s u →
    t.ramp u = { s.ramp u with refresh := some (s.profileOf u).refresh }
  same : ∀ u, u ∉ us ∨ ¬SetpointChanged before s u → t.ramp u = s.ramp u
  sent : ∀ u ∈ us, ∀ v, (s.ramp u).setpoint = some v → (before.ramp u).setpoint ≠ some v →
    { slot := .setpoint u, dest := (s.unit u).addr, cmd := .setpoint v } ∈ t.lpu.cmds
  kept : ∀ x ∈ s.lpu.cmds, (∀ u ∈ us, x.slot ≠ .setpoint u) → x ∈ t.lpu.cmds

theorem placedFor_nil (before s : State) : PlacedFor before s [] s :=
  
  { others := rfl
    started := fun _ h => nomatch h
    same := fun _ _ => rfl
    sent := fun _ h => nomatch h
    kept := fun _ h _ => h }

theorem PlacedFor.cons {before s t : State} {u : UnitNo} {us : List UnitNo} (fresh : u ∉ us)
    (h : PlacedFor before (placeIfChanged before s u) us t) : PlacedFor before s (u :: us) t := by
  by_cases changed : SetpointChanged before s u
  · obtain ⟨v, hv, hb⟩ := id changed
    rw [placeIfChanged_changed hv hb] at h
    have self : (placeSetpoint u v s).ramp u = { s.ramp u with refresh := some (s.profileOf u).refresh } :=
      PerUnit.get_set_self _ _ _
    have other {w : UnitNo} (hw : w ≠ u) : (placeSetpoint u v s).ramp w = s.ramp w := PerUnit.get_set_ne _ _ _ _ hw
    have apart {w : UnitNo} (hw : w ∈ us) : w ≠ u := fun k => fresh (k ▸ hw)
    refine ⟨h.others, fun w hw hc => ?_, fun w hw => ?_, fun w hw x hx hbx => ?_, fun x hx hs => ?_⟩
    · rcases List.mem_cons.mp hw with rfl | hw
      · exact (h.same w (.inl fresh)).trans self
      · rw [h.started w hw ((setpointChanged_congr (other (apart hw))).mpr hc), other (apart hw)]
        rfl
    · have hwu : w ≠ u := by
        rintro rfl
        exact hw.elim (fun k => k List.mem_cons_self) (fun k => k changed)
      rw [h.same w (hw.imp (fun k hm => k (List.mem_cons_of_mem _ hm)) (mt (setpointChanged_congr (other hwu)).mp)),
        other hwu]
    · rcases List.mem_cons.mp hw with rfl | hw
      · refine h.kept _ ?_ fun y hy k => fresh (Slot.setpoint.inj k ▸ hy)
        cases Option.some.inj (hv.symm.trans hx)
        exact mem_placeIn_self _ _
      · exact h.sent w hw x (by rw [other (apart hw)]; exact hx) hbx
    · exact h.kept x (mem_placeIn_of_ne hx (hs u List.mem_cons_self)) fun y hy => hs y (List.mem_cons_of_mem _ hy)
  · rw [placeIfChanged_unchanged changed] at h
    refine ⟨h.others, fun w hw hc => ?_, fun w hw => ?_, fun w hw x hx hbx => ?_, fun x hx hs => ?_⟩
    · rcases List.mem_cons.mp hw with rfl | hw
      · exact absurd hc changed
      · exact h.started w hw hc
    · exact h.same w (hw.imp_left fun k hm => k (List.mem_cons_of_mem _ hm))
    · rcases List.mem_cons.mp hw with rfl | hw
      · exact absurd ⟨x, hx, hbx⟩ changed
      · exact h.sent w hw x hx hbx
    · exact h.kept x hx fun y hy => hs y (List.mem_cons_of_mem _ hy)

theorem placedFor_foldl (before : State) {us : List UnitNo} (distinct : us.Nodup) (s : State) :
    PlacedFor before s us (us.foldl (placeIfChanged before) s) := by
  induction us generalizing s with
  | nil => exact placedFor_nil before s
  | cons u us ih =>
    obtain ⟨fresh, distinct⟩ := List.nodup_cons.mp distinct
    exact (ih distinct (placeIfChanged before s u)).cons fresh

-- The settling report and the SNAPSHOT (R82, R191, R195) --------------------------------------------------

/-- The report of a settling check that left the standing order in this state (R82). -/
def settledReport (r : Standing) (st : OrderState) : List Report :=
  if st = r.state then [] else [orderStateOf r .settled]

theorem settledReport_length (r : Standing) (st : OrderState) : (settledReport r st).length ≤ 1 := by
  unfold settledReport
  split
  · exact Nat.zero_le _
  · exact Nat.le_refl _

/-- The settling check writes the standing order's state, and a report where it passes (R82). -/
theorem settleCheck_eq (s : State) : ∃ st q, settleCheck s = { s with
      dse := { s.dse with standing := { s.dse.standing with state := st } }
      rpb := q } ∧
    q.snapshot = s.rpb.snapshot ∧
    q.queue = s.rpb.queue ++ (settledReport s.dse.standing st).take (16 - s.rpb.queue.length) := by
  unfold settleCheck settledReport
  split
  · next h =>
    have changed : ¬OrderState.settled = s.dse.standing.state := by
      rw [h.2.1]
      exact OrderState.noConfusion
    refine ⟨.settled, (pushReport (orderStateOf s.dse.standing .settled) (setOrderState .settled s)).rpb, ?_, ?_⟩
    · rw [pushReport_eq_reported, reported_eq]
      rfl
    · rw [if_neg changed]
      unfold pushReport
      split
      · next room =>
        rw [List.take_of_length_le (Nat.le_sub_of_add_le' room)]
        exact ⟨rfl, rfl⟩
      · next full =>
        have none : 16 - s.rpb.queue.length = 0 := Nat.sub_eq_zero_of_le (Nat.le_of_not_lt full)
        rw [none, List.take_zero, List.append_nil]
        exact ⟨rfl, rfl⟩
  · exact ⟨s.dse.standing.state, s.rpb, rfl, rfl, by rw [if_pos rfl, List.take_nil, List.append_nil]⟩

/-- The crossing unit's number as carried, 0 where none crosses. -/
def Crossing.unitByte (c : Crossing) : Byte := match c.unit with
  | some u => u.byte
  | none => 0

theorem Crossing.bits_eq (c : Crossing) : c.bits =
    (c.outcome.code ++ c.unitByte ++ BitVec.ofNat 16 c.requested ++ BitVec.ofNat 16 c.moved).setWidth 48 := rfl

theorem Crossing.unitByte_toNat (c : Crossing) : c.unitByte.toNat = c.unit.elim 0 UnitNo.number := by
  unfold Crossing.unitByte
  cases c.unit with
  | none => rfl
  | some u => exact Machine.unitByte_toNat u

/-- The fields that a SNAPSHOT part carries (R195). -/
theorem snapshotPart_fields (s : State) (n k : Byte) (a b c : UnitNo) (w : Waterway) :
    let p := snapshotPart s n k a b c w
    let carries (i : Nat) (u : UnitNo) : Prop := p.half i = powerOrNone (s.ramp u).setpoint ∧
      p.half (i + 2) = powerOrNone (s.entry u).share ∧ p.half (i + 4) = BitVec.ofNat 16 ((s.ramp u).rate.getD 0)
    let x := s.rmp.crossings.get w
    p.byte 4 = n ∧ p.byte 5 = k ∧ carries 6 a ∧ carries 12 b ∧ carries 18 c ∧
      p.byte 24 = x.outcome.code ∧ p.byte 25 = x.unitByte ∧ p.half 26 = BitVec.ofNat 16 x.requested ∧
      p.half 28 = BitVec.ofNat 16 x.moved := by
  simp (disch := omega) only [snapshotPart, snapshotUnit, Crossing.bits_eq, Payload.of, Payload.byte, Payload.half,
    BitVec.setWidth_eq, BitVec.extractLsb'_append_eq_of_le, BitVec.extractLsb'_append_eq_of_add_le,
    extract_whole, and_self]

/-- A SNAPSHOT placed whole, or the flag raised (R191). -/
theorem queueSnapshot_eq (s : State) : ∃ q, queueSnapshot s = { s with rpb := q } ∧
    q.snapshot = s.rpb.snapshot + 1 ∧
    (s.rpb.queue.length + 2 ≤ 16 → q.queue = s.rpb.queue ++
      [.snapshot (snapshotPart s s.rpb.snapshot 1 .u1 .u2 .u3 .w1),
        .snapshot (snapshotPart s s.rpb.snapshot 2 .u4 .u5 .u6 .w2)]) ∧
    (¬s.rpb.queue.length + 2 ≤ 16 → q.queue = s.rpb.queue ∧ q.flags.getLsbD 0 = true) := by
  unfold queueSnapshot
  dsimp only
  split
  · next room => exact ⟨_, rfl, rfl, fun _ => rfl, fun h => absurd room h⟩
  · next full => exact ⟨_, rfl, rfl, fun h => absurd h full, fun _ => ⟨rfl, by simp [State.setRpb, Sticky.bit]⟩⟩

-- The expiry (R170) ---------------------------------------------------------------------------------------

/-- Both waterways stepped and their SETPOINTs placed, the interval timer running on (R165, R170). -/
def placed (s : State) : State := UnitNo.all.foldl (placeIfChanged s) (stepSetpoints (startRampTimer s))

theorem rampExpiry_running {s : State} (h : s.dse.engine = .running) :
    rampExpiry s = if s.dse.trace then queueSnapshot (settleCheck (placed s)) else settleCheck (placed s) := by
  have running : rampRunning (startRampTimer s) = settleCheck (placed s) := rfl
  obtain ⟨st, q, hs, -⟩ := settleCheck_eq (placed s)
  have trace : (settleCheck (placed s)).dse.trace = s.dse.trace := by
    rw [hs]
    show (placed s).dse.trace = _
    rw [placed, (placedFor_foldl s (by decide) (stepSetpoints (startRampTimer s))).others]
    rfl
  unfold rampExpiry
  dsimp only
  rw [if_pos (show (startRampTimer s).dse.engine = _ from h), running, trace]

/-- The state after the placements: ramp states and crossing records of the stepping, commands, and nothing else. -/
theorem placed_eq (s : State) : ∃ cmds units, placed s = { s with
      lpu := { s.lpu with cmds := cmds }
      rmp := { timer := some s.tbs.plant.ti
               units := units
               crossings := { w1 := crossingRecord s .w1, w2 := crossingRecord s .w2 } } } ∧
    (∀ u, (units.get u).setpoint = (steppedRamp s u).setpoint ∧ (units.get u).rate = (steppedRamp s u).rate) ∧
    ∀ u v, (units.get u).setpoint = some v →
      ((s.ramp u).setpoint ≠ some v → (units.get u).refresh = some (s.profileOf u).refresh ∧
        { slot := .setpoint u, dest := (s.unit u).addr, cmd := .setpoint v } ∈ cmds) ∧
      ((s.ramp u).setpoint = some v → (units.get u).refresh = (s.ramp u).refresh) := by
  have p := placedFor_foldl s (us := UnitNo.all) (by decide) (stepSetpoints (startRampTimer s))
  have stepped (u : UnitNo) : (stepSetpoints (startRampTimer s)).ramp u = steppedRamp s u := PerUnit.get_ofFn _ _
  have values (u : UnitNo) : ((placed s).ramp u).setpoint = (steppedRamp s u).setpoint ∧
      ((placed s).ramp u).rate = (steppedRamp s u).rate := by
    rw [← stepped u]
    by_cases c : SetpointChanged s (stepSetpoints (startRampTimer s)) u
    · rw [placed, p.started u (UnitNo.mem_all u) c]
      exact ⟨rfl, rfl⟩
    · rw [placed, p.same u (.inr c)]
      exact ⟨rfl, rfl⟩
  refine ⟨(placed s).lpu.cmds, (placed s).rmp.units, p.others, values, fun u v hv => ⟨fun hb => ?_, fun hb => ?_⟩⟩
  · have now : ((stepSetpoints (startRampTimer s)).ramp u).setpoint = some v := by
      rw [stepped u, ← (values u).1]
      exact hv
    have started := p.started u (UnitNo.mem_all u) ⟨v, now, hb⟩
    exact ⟨congrArg RampUnit.refresh started, p.sent u (UnitNo.mem_all u) v now hb⟩
  · have unchanged : ¬SetpointChanged s (stepSetpoints (startRampTimer s)) u := by
      rintro ⟨x, hx, hbx⟩
      rw [stepped u, ← (values u).1] at hx
      exact hbx (hb.trans (hv.symm.trans hx))
    have same := p.same u (.inr unchanged)
    rw [stepped u] at same
    exact (congrArg RampUnit.refresh same).trans steppedRamp_refresh

-- The statement's terms (R166, R169, R172, R173) -----------------------------------------------------------

/-- The desired move written out (R171, R172). -/
theorem desiredMove_eq (s : State) (u : UnitNo) : desiredMove s u =
    let cur := curOf s u
    let share := shareOf s u
    let d := min (if cur ≤ share then share - cur else cur - share) (max 1 (activeRate s u * s.tbs.plant.ti / 10))
    match s.bandOf u with
    | none => d
    | some b =>
      if (b.rzlo ≠ 0 ∨ b.rzhi ≠ 0) ∧ cur < share ∧ cur ≤ b.rzlo ∧ b.rzhi ≤ share ∧ b.rzlo < cur + d then b.rzlo - cur
      else if (b.rzlo ≠ 0 ∨ b.rzhi ≠ 0) ∧ share < cur ∧ b.rzhi ≤ cur ∧ share ≤ b.rzlo ∧ cur < b.rzhi + d then
        cur - b.rzhi
      else d := by
  unfold desiredMove
  cases s.bandOf u with
  | none => rfl
  | some b => exact approach_eq b _ _ _

/-- A crossing candidate, written out (R173). -/
theorem crossingTo_isSome (s : State) (u : UnitNo) : (crossingTo s u).isSome = match s.bandOf u with
    | none => false
    | some b => decide ((b.rzlo ≠ 0 ∨ b.rzhi ≠ 0) ∧
      (curOf s u = b.rzlo ∧ b.rzhi ≤ shareOf s u ∨ curOf s u = b.rzhi ∧ shareOf s u ≤ b.rzlo)) := by
  unfold crossingTo
  cases s.bandOf u with
  | none => rfl
  | some b => exact farEdge_isSome b _ _

theorem activeRate_eq (s : State) (u : UnitNo) : activeRate s u =
    let p := s.profileOf u
    let own := match (s.entry u).cls.val with
      | 0 => p.rate0
      | 1 => p.rate1
      | 2 => p.rate2
      | _ => p.rate3
    if own = 0 then p.rate0 else own := rate_eq _ _

section
variable (s : State) (w : Waterway)

/-- The first candidate crosses to its far edge; the waterway's other ramping units keep (R173, R175). -/
theorem waterway_crossing {x : UnitNo} {rest : List UnitNo}
    (h : (rampingOn s w).filter (fun u => (crossingTo s u).isSome) = x :: rest) :
    (∀ b, s.bandOf x = some b →
      (curOf s x = b.rzlo ∧ b.rzhi ≤ shareOf s x → (steppedRamp s x).setpoint = some b.rzhi) ∧
      (¬(curOf s x = b.rzlo ∧ b.rzhi ≤ shareOf s x) → (steppedRamp s x).setpoint = some b.rzlo) ∧
      crossingRecord s w = { outcome := .crossed
                             unit := some x
                             requested := (((rampingOn s w).filter fun v => v != x).map (desiredMove s)).sum
                             moved := b.rzhi - b.rzlo }) ∧
    ∀ u ∈ rampingOn s w, u ≠ x → (steppedRamp s u).setpoint = some (curOf s u) := by
  have crosses : crosser s w = some x := by rw [crosser_eq_head, h]; rfl
  obtain ⟨member, candidate⟩ := List.mem_filter.mp (h ▸ List.mem_cons_self : x ∈ (rampingOn s w).filter _)
  refine ⟨fun b hb => ?_, fun u hu hne => by rw [stepped_crossing hu crosses, if_neg hne]⟩
  have edge : crossingTo s x = farEdge b (curOf s x) (shareOf s x) := by rw [crossingTo, hb]; rfl
  rw [edge] at candidate
  rw [stepped_crossing member crosses, if_pos rfl, edge, farEdge_eq candidate, Option.getD_some]
  exact ⟨fun up => by rw [if_pos up], fun down => by rw [if_neg down], crossingRecord_crossing crosses hb⟩

theorem crosser_none (h : (rampingOn s w).filter (fun u => (crossingTo s u).isSome) = []) : crosser s w = none := by
  rw [crosser_eq_head, h]
  rfl

end

/-- The reports of a ramp interval: the settling report, then the SNAPSHOT whole or not at all (R82, R191). -/
theorem rampReports (s : State) (h : s.dse.engine = .running) : ∃ st q, rampExpiry s = { placed s with
      dse := { s.dse with standing := { s.dse.standing with state := st } }
      rpb := q } ∧
    let settled := settledReport s.dse.standing st
    (s.dse.trace = false → q.snapshot = s.rpb.snapshot ∧
      q.queue = s.rpb.queue ++ settled.take (16 - s.rpb.queue.length)) ∧
    (s.dse.trace = true → q.snapshot = s.rpb.snapshot + 1 ∧
      (ReportRoom (settled.length + 2) s → q.queue = s.rpb.queue ++ settled ++
        [.snapshot (snapshotPart (placed s) s.rpb.snapshot 1 .u1 .u2 .u3 .w1),
          .snapshot (snapshotPart (placed s) s.rpb.snapshot 2 .u4 .u5 .u6 .w2)]) ∧
      (¬ReportRoom (settled.length + 2) s → q.flags.getLsbD 0 = true ∧
        q.queue = s.rpb.queue ++ settled.take (16 - s.rpb.queue.length))) := by
  obtain ⟨cmds, units, hp, -⟩ := placed_eq s
  have dse : (placed s).dse = s.dse := by rw [hp]
  have rpb : (placed s).rpb = s.rpb := by rw [hp]
  obtain ⟨st, q, hs, number, queue⟩ := settleCheck_eq (placed s)
  rw [dse] at hs queue
  rw [rpb] at number queue
  rw [rampExpiry_running h]
  cases trace : s.dse.trace with
  | false =>
    rw [if_neg (by decide)]
    refine ⟨st, q, ?_, fun _ => ⟨number, queue⟩, fun k => nomatch k⟩
    simpa only [trace] using hs
  | true =>
    rw [if_pos rfl]
    obtain ⟨r, hr, next, whole, lost⟩ := queueSnapshot_eq (settleCheck (placed s))
    have number' : (settleCheck (placed s)).rpb.snapshot = s.rpb.snapshot := by rw [hs]; exact number
    have queue' := (congrArg (fun t : State => t.rpb.queue) hs).trans queue
    have part (k : Byte) (a b c : UnitNo) (w : Waterway) :
        snapshotPart (settleCheck (placed s)) s.rpb.snapshot k a b c w =
          snapshotPart (placed s) s.rpb.snapshot k a b c w := by rw [hs]; rfl
    rw [number', part, part] at whole
    rw [number'] at next
    rw [show (settleCheck (placed s)).rpb.queue = _ from queue'] at whole lost
    rw [hs] at hr
    have short := settledReport_length s.dse.standing st
    rw [List.length_append, List.length_take] at whole lost
    refine ⟨st, r, by rw [hs, hr], fun k => Bool.noConfusion k, fun _ => ⟨next, fun room => ?_, fun full => ?_⟩⟩
    · unfold ReportRoom at room
      rw [whole (by omega), List.take_of_length_le (by omega)]
    · unfold ReportRoom at full
      obtain ⟨hq, hf⟩ := lost (by omega)
      exact ⟨hf, hq⟩

/-- Settles O54: the stepping by `placed_eq`, each waterway by its crosser or its budget, the reports by
`rampReports`. -/
theorem rampIntervalStepsSetpoints : Obligations.RampIntervalStepsSetpoints := by
  unfold Obligations.RampIntervalStepsSetpoints
  intro s hheld htimer hrun ti cur share ramping us rate zone desired upward candidate toward
  have hrate : rate = activeRate s := funext fun u => (activeRate_eq s u).symm
  have hdesired : desired = desiredMove s := funext fun u => by
    rw [desiredMove_eq, ← congrFun hrate u]
    rfl
  have hcandidate : candidate = fun u => (crossingTo s u).isSome := funext fun u => by
    rw [crossingTo_isSome]
    rfl
  obtain ⟨cmds, units, hp, values, sent⟩ := placed_eq s
  obtain ⟨st, q, ht, silent, traced⟩ := rampReports s hrun
  have hexec : exec .rampIntervalExpiry s = .next (rampExpiry s) :=
    (event_free _ hheld).trans (by rw [if_pos htimer])
  have ramp (u : UnitNo) : (rampExpiry s).ramp u = units.get u := by rw [ht, hp]; rfl
  have crossings (w : Waterway) : (rampExpiry s).rmp.crossings.get w = crossingRecord s w := by
    rw [ht, hp]
    cases w <;> rfl
  refine ⟨rampExpiry s, hexec, by rw [ht, hp], by rw [ht, hp], by rw [ht, hp], by rw [ht, hp], by rw [ht, hp],
    by rw [ht, hp], fun u => ⟨fun h => ?_, fun h => ?_⟩, fun w => ⟨fun x rest h => ?_, fun h hd => ?_, fun h hd => ?_⟩,
    fun u => ?_, ?_⟩
  · rw [ramp u, (values u).1, (values u).2, steppedRamp_idle h]
    exact ⟨rfl, rfl⟩
  · rw [ramp u, (values u).2, hrate, steppedRamp_rate h]
  · rw [hcandidate] at h
    obtain ⟨crossing, others⟩ := waterway_crossing s w h
    simp only [ramp, values, crossings, hdesired]
    exact ⟨crossing, others⟩
  · rw [hcandidate] at h
    rw [hdesired] at hd ⊢
    have within : desiredSum s w ≤ intervalBudget s w := hd
    refine ⟨fun u hu => ?_, ?_⟩
    · rw [ramp u, (values u).1, stepped_shared hu (crosser_none s w h), if_pos within]
      rfl
    · rw [crossings, crossingRecord_shared (crosser_none s w h), if_pos within]
      rfl
  · rw [hcandidate] at h
    rw [hdesired] at hd ⊢
    have beyond : ¬desiredSum s w ≤ intervalBudget s w := Nat.not_le.mpr hd
    refine ⟨fun u hu => ?_, ?_⟩
    · rw [ramp u, (values u).1, stepped_shared hu (crosser_none s w h), if_neg beyond]
      rfl
    · rw [crossings, crossingRecord_shared (crosser_none s w h), if_neg beyond]
      rfl
  · rw [ramp u, ht, hp]
    exact sent u
  · refine ⟨fun off => ?_, fun on => ?_⟩
    · rw [ht]
      exact silent off
    · obtain ⟨number, whole, lost⟩ := traced on
      rw [ht]
      refine ⟨number, fun room => ⟨_, _, whole room, ?_⟩, lost⟩
      obtain ⟨a4, a5, a6, a12, a18, a24, a25, a26, a28⟩ :=
        snapshotPart_fields (placed s) s.rpb.snapshot 1 .u1 .u2 .u3 .w1
      obtain ⟨b4, b5, b6, b12, b18, b24, b25, b26, b28⟩ :=
        snapshotPart_fields (placed s) s.rpb.snapshot 2 .u4 .u5 .u6 .w2
      exact ⟨a4.trans b4.symm, a5, a6, a12, a18,
        ⟨a24, (congrArg BitVec.toNat a25).trans (Crossing.unitByte_toNat _), a26, a28⟩, b5, b6, b12, b18,
        ⟨b24, (congrArg BitVec.toNat b25).trans (Crossing.unitByte_toNat _), b26, b28⟩⟩

end Sys2Proof.Machine
end

section
/-! A band change of one unit: the entry re-examined, the setpoint clamped, and the act of a sequencer that is forced out
(R107, R108, R110, R111, R126 to R131, R178, R179). -/

namespace Sys2Proof.Machine

-- A sequencer that is forced out (R126 to R131) -----------------------------------------------------------

/-- The stable states in which a unit turns. -/
def Running (n : SeqState) : Prop := n = .gOn ∨ n = .gAir ∨ n = .pAir ∨ n = .pOn

/-- The act of a sequencer whose unit is forced out: a running unit stops, a start is abandoned with its report, a lock wait
returns and what it returns to stops, and every other state is kept. -/
structure ForcedTurn (e f : Ev) (u : UnitNo) : Prop where
  running  : Running (e.s.seq u).state → Stopped f.s u
  starting : Starting (e.s.seq u).state → Stopped f.s u ∧
    Queued (.unitState u (e.s.seq u).state .stopping .abandoned (e.s.image u).stage (e.s.image u).fault) f.s
  waits    : (e.s.seq u).state.waitsForLock = true → Stopped f.s u ∨ (((e.s.seq u).state = .gLockwait ∧
    (e.s.seq u).origin ≠ .air) ∧ (f.s.seq u).state = .still ∧ GaveUp f.s u)
  idle     : ¬Running (e.s.seq u).state → ¬Starting (e.s.seq u).state → (e.s.seq u).state.waitsForLock = false → f = e

theorem not_goesOn_still (q : Seq) : ¬GoesOn q .still := by
  unfold GoesOn
  split <;> simp

theorem returns_still (q : Seq) : Returns q .still ↔ q.state.waitsForLock = true := by
  rw [Returns, waitsForLock_iff, and_iff_left (not_goesOn_still q)]

theorem ResourcesHeld.gaveUp {s : State} {u : UnitNo} (h : ResourcesHeld s)
    (hs : (s.seq u).state.holdsNothing = true) : GaveUp s u := by
  simp only [SeqState.holdsNothing, Bool.and_eq_true, Bool.not_eq_true', bne_iff_ne, ne_eq] at hs
  obtain ⟨⟨⟨hl, hw⟩, hq⟩, hg⟩ := hs
  exact ⟨h.not_holder hg, h.not_queued hq, fun w => ⟨h.not_lockHolder hl w, h.not_waiter hw w⟩⟩

theorem queued_reported (r : Report) (s : State) : Queued r (s.reported r) :=
  pushReport_eq_reported r s ▸ queued_pushReport r s

theorem Queued.of_rpb {r : Report} {s t : State} (h : Queued r s) (hq : t.rpb.queue = s.rpb.queue)
    (hf : t.rpb.flags = s.rpb.flags) : Queued r t := by
  unfold Queued
  rw [hq, hf]
  exact h

theorem act_still {u : UnitNo} {e : Ev} (hm : (e.s.entry u).mode = .still) (hr : ¬Running (e.s.seq u).state)
    (hs : ¬Starting (e.s.seq u).state) (hw : (e.s.seq u).state.waitsForLock = false) : act u e = e := by
  unfold act actStable Ev.state
  dsimp only
  rw [hm]
  generalize (e.s.seq u).state = n at hr hs hw
  generalize (e.s.seq u).origin = o
  cases n <;> simp [Running, Starting, SeqState.waitsForLock] at hr hs hw <;> cases o <;> rfl

/-- A running unit that is forced out does not linger: it stops (R128 to R131). -/
theorem ActedFrom.forcedOut {s t : State} {u : UnitNo} {n : SeqState} {e : Entry} {i : Image} {m : Timer} {p : Bool}
    (h : ActedFrom s t u n e i m p) (hn : Running n) (hm : e.mode = .still) (ho : e.forcedOut = true) : Stopped t u := by
  have stays : ¬(0 < (s.unit u).linger ∧ i.perm.air.val = true ∧ i.perm.lockout.val = false ∧ p = false ∧
      e.forcedOut = false) := fun k => by
    rw [ho] at k
    exact nomatch k.2.2.2.2
  unfold ActedFrom at h
  rw [hm] at h
  rcases hn with rfl | rfl | rfl | rfl <;> exact h.2 stays

theorem act_forced {u : UnitNo} {e : Ev} (h : ResourcesHeld e.s) (hm : (e.s.entry u).mode = .still)
    (ho : (e.s.entry u).forcedOut = true) : ForcedTurn e (act u e) u := by
  obtain ⟨turn, held, -, -⟩ := act_turn h u
  obtain ⟨-, stable, returns, abandoned, -⟩ := turn
  rw [hm] at returns abandoned
  refine ⟨fun k => ?_, fun k => ?_, fun k => ?_, act_still hm⟩
  · refine (stable ?_).1.forcedOut k hm ho
    rcases k with k | k | k | k <;> rw [k] <;> rfl
  · obtain ⟨stopped, reports⟩ := abandoned k (not_goesOn_still _)
    have q := queued_reported (.unitState u (e.s.seq u).state .stopping .abandoned (e.s.image u).stage
      (e.s.image u).fault) e.s
    exact ⟨stopped, q.of_rpb (by rw [reports]; rfl) (by rw [reports]; rfl)⟩
  · have acted := (returns ((returns_still _).mpr k)).1
    obtain k | k := (waitsForLock_iff _).mp k
    · rw [if_neg (by rw [k]; decide)] at acted
      by_cases air : (e.s.seq u).origin = .air
      · rw [if_pos air] at acted
        exact .inl (acted.forcedOut (.inr (.inl rfl)) hm ho)
      · rw [if_neg air] at acted
        unfold ActedFrom at acted
        rw [hm] at acted
        exact .inr ⟨⟨k, air⟩, acted, held.gaveUp (by rw [acted]; rfl)⟩
    · rw [if_pos k] at acted
      exact .inl (acted.forcedOut (.inr (.inr (.inl rfl))) hm ho)

-- The entry re-examined (R107, R108) ----------------------------------------------------------------------

/-- The unit's band does not allow the direction that its entry plans (R107, R108). -/
def OutOfBand (s : State) (u : UnitNo) (e : Entry) : Prop :=
  (e.mode = .gen ∧ ¬∃ b, s.bandOf u = some b ∧ b.turb = true) ∨ (e.mode = .pump ∧ ¬∃ b, s.bandOf u = some b ∧ b.pump = true)

theorem reexamined_out {s : State} {u : UnitNo} (h : OutOfBand s u (s.entry u)) :
    reexamined s u = (s.entry u).forceOut := by
  unfold reexamined
  dsimp only
  obtain ⟨hm, hb⟩ | ⟨hm, hb⟩ := h
  · rw [hm, turbineBand_none fun b k => Bool.eq_false_iff.mpr fun j => hb ⟨b, k, j⟩]
  · rw [hm, pumpBand_none fun b k => Bool.eq_false_iff.mpr fun j => hb ⟨b, k, j⟩]
    rfl

theorem reexamined_in {s : State} {u : UnitNo} {b : Band} (h : ¬OutOfBand s u (s.entry u)) (hb : s.bandOf u = some b) :
    reexamined s u = if (s.entry u).mode = .gen
      then { s.entry u with share := (s.entry u).share.map fun v : Nat => b.clamp v } else s.entry u := by
  obtain ⟨gen, pump⟩ := not_or.mp h
  unfold reexamined
  dsimp only
  cases hm : (s.entry u).mode with
  | gen =>
    obtain ⟨c, hc, ht⟩ := not_not.mp fun k => gen ⟨hm, k⟩
    cases hb.symm.trans hc
    rw [turbineBand_some hb ht, if_pos rfl]
    cases (s.entry u).share <;> rfl
  | pump =>
    obtain ⟨c, hc, ht⟩ := not_not.mp fun k => pump ⟨hm, k⟩
    rw [pumpBand_some hc ht]
    rfl
  | _ => rfl

theorem reexamined_noBand {s : State} {u : UnitNo} (h : ¬OutOfBand s u (s.entry u)) (hb : s.bandOf u = none) :
    reexamined s u = s.entry u := by
  obtain ⟨gen, pump⟩ := not_or.mp h
  have none (f : Band → Bool) : ¬∃ b, s.bandOf u = some b ∧ f b = true := by simp [hb]
  unfold reexamined
  dsimp only
  cases hm : (s.entry u).mode with
  | gen => exact absurd ⟨hm, none _⟩ gen
  | pump => exact absurd ⟨hm, none _⟩ pump
  | _ => rfl

theorem reexamined_mode {s : State} {u : UnitNo} (h : ¬OutOfBand s u (s.entry u)) :
    (reexamined s u).mode = (s.entry u).mode := by
  cases hb : s.bandOf u with
  | none => rw [reexamined_noBand h hb]
  | some b =>
    rw [reexamined_in h hb]
    split <;> rfl

theorem forceOut_mode_ne {s : State} {u : UnitNo} (h : OutOfBand s u (s.entry u)) :
    (s.entry u).forceOut.mode ≠ (s.entry u).mode := by
  obtain ⟨hm, -⟩ | ⟨hm, -⟩ := h <;> rw [hm] <;> exact PlanMode.noConfusion

/-- A re-examined entry keeps its origin (R110). -/
theorem reexamined_origin (s : State) (u : UnitNo) : (reexamined s u).originSrc = (s.entry u).originSrc ∧
    (reexamined s u).originId = (s.entry u).originId := by
  by_cases h : OutOfBand s u (s.entry u)
  · rw [reexamined_out h]
    exact ⟨rfl, rfl⟩
  cases hb : s.bandOf u with
  | none =>
    rw [reexamined_noBand h hb]
    exact ⟨rfl, rfl⟩
  | some b =>
    rw [reexamined_in h hb]
    split <;> exact ⟨rfl, rfl⟩

-- The setpoint clamped (R178, R179) -----------------------------------------------------------------------

theorem placeSetpoint_setRamp (u : UnitNo) (v : Nat) (r : RampUnit) (s : State) :
    let w : Waiting := { slot := .setpoint u, dest := (s.unit u).addr, cmd := .setpoint v }
    placeSetpoint u v (s.setRamp u r) = { s with
      rmp := { s.rmp with units := s.rmp.units.set u { r with refresh := some (s.profileOf u).refresh } }
      lpu := { s.lpu with cmds := placeIn w s.lpu.cmds } } := by
  have ramp : (place (.setpoint u) (s.unit u).addr (.setpoint v) (s.setRamp u r)).ramp u = r :=
    State.setRamp_ramp_self _ _ _
  unfold placeSetpoint
  dsimp only
  rw [show ((s.setRamp u r).unit u).addr = (s.unit u).addr from rfl, ramp]
  dsimp only [place, State.setRamp, State.setLpu]
  rw [PerUnit.set_set]
  rfl

theorem reclampSetpoint_other {u : UnitNo} {s : State} (h : (s.seq u).state ≠ .gOn) : reclampSetpoint u s = s := if_neg h

theorem reclampSetpoint_noTurbine {u : UnitNo} {s : State} (h : (s.seq u).state = .gOn)
    (hb : ¬∃ b, s.bandOf u = some b ∧ b.turb = true) : reclampSetpoint u s = s.setRamp u .idle := by
  unfold reclampSetpoint
  rw [if_pos h, turbineBand_none fun b k => Bool.eq_false_iff.mpr fun j => hb ⟨b, k, j⟩]

theorem reclampSetpoint_turbine {u : UnitNo} {s : State} (h : (s.seq u).state = .gOn) {b : Band}
    (hb : s.bandOf u = some b) (ht : b.turb = true) :
    let v := b.clamp (((s.ramp u).setpoint.map fun x : Nat => (x : Int)).getD (s.image u).power)
    reclampSetpoint u s = placeSetpoint u v (s.setRamp u { s.ramp u with setpoint := some v }) := by
  unfold reclampSetpoint
  rw [if_pos h, turbineBand_some hb ht]
  cases hr : (s.ramp u).setpoint with
  | some x => rfl
  | none =>
    show initSetpoint u s = _
    unfold initSetpoint
    rw [turbineBand_some hb ht]
    rfl

/-- Of the state, a unit's ramp state and the setpoint slot change. -/
theorem reclampSetpoint_eq (u : UnitNo) (s : State) : ∃ r q, reclampSetpoint u s = { s with
      rmp := { s.rmp with units := s.rmp.units.set u r }
      lpu := { s.lpu with cmds := q } } ∧
    ∀ k, k ≠ .setpoint u → slotOf k (reclampSetpoint u s) = slotOf k s := by
  by_cases hn : (s.seq u).state = .gOn
  · by_cases hb : ∃ b, s.bandOf u = some b ∧ b.turb = true
    · obtain ⟨b, hb, ht⟩ := hb
      rw [reclampSetpoint_turbine hn hb ht]
      rw [placeSetpoint_setRamp]
      exact ⟨_, _, rfl, fun k hk => placeIn_filter _ _ _ (Ne.symm hk)⟩
    · rw [reclampSetpoint_noTurbine hn hb]
      exact ⟨.idle, s.lpu.cmds, rfl, fun _ _ => rfl⟩
  · refine ⟨s.ramp u, s.lpu.cmds, ?_, fun _ _ => by rw [reclampSetpoint_other hn]⟩
    rw [reclampSetpoint_other hn, State.ramp, PerUnit.set_get]

-- The band change before the act (R107, R110, R178) -------------------------------------------------------

/-- The report of a re-examination that changed a manual unit's entry (R110). -/
def reexaminedReport (u : UnitNo) (s : State) : Report :=
  .manualReplan (reexamined s u).originSrc (reexamined s u).originId u (reexamined s u).mode (reexamined s u).share

theorem reexamine_reported {u : UnitNo} {e : Ev} (h : reexamined e.s u ≠ e.s.entry u ∧ e.s.assignOf u = .manual) :
    reexamine u e = { e with
      s := pushReport (reexaminedReport u e.s) (e.s.setEntry u (reexamined e.s u))
      trig := e.trig || true } := if_pos h

theorem reexamine_quiet {u : UnitNo} {e : Ev} (h : ¬(reexamined e.s u ≠ e.s.entry u ∧ e.s.assignOf u = .manual)) :
    reexamine u e = { e with s := e.s.setEntry u (reexamined e.s u) } := if_neg h

/-- The re-examination writes the entry, and a report where it changed a manual unit's (R110). -/
theorem reexamine_writes (u : UnitNo) (e : Ev) : ∃ q, (reexamine u e).s = { e.s with
      alc := { e.s.alc with entries := e.s.alc.entries.set u (reexamined e.s u) }
      rpb := q } ∧
    (∀ r, Queued r e.s → Queued r (reexamine u e).s) ∧
    (e.s.assignOf u = .manual → reexamined e.s u ≠ e.s.entry u → Queued (.manualReplan (e.s.entry u).originSrc
      (e.s.entry u).originId u (reexamined e.s u).mode (reexamined e.s u).share) (reexamine u e).s) := by
  let t : State := e.s.setEntry u (reexamined e.s u)
  by_cases h : reexamined e.s u ≠ e.s.entry u ∧ e.s.assignOf u = .manual
  · obtain ⟨src, id⟩ := reexamined_origin e.s u
    rw [reexamine_reported h, ← src, ← id]
    refine ⟨(t.reported (reexaminedReport u e.s)).rpb, ?_, fun r hr => ?_, fun _ _ => queued_pushReport _ _⟩
    · rw [pushReport_eq_reported, reported_eq]
      rfl
    · exact Queued.pushReport (s := t) (hr.of_rpb rfl rfl)
  · rw [reexamine_quiet h]
    exact ⟨e.s.rpb, rfl, fun r hr => hr.of_rpb rfl rfl, fun manual changed => absurd ⟨changed, manual⟩ h⟩

/-- A band change before its act: the entry re-examined, the setpoint clamped. -/
def rewritten (u : UnitNo) (e : Ev) : Ev := (reexamine u e).map (reclampSetpoint u)

/-- Of the state, a band change before its act writes the unit's entry, its ramp state, its setpoint slot and reports. -/
structure Rewritten (u : UnitNo) (a c : State) : Prop where
  rest     : c = { a with
               alc := { a.alc with entries := a.alc.entries.set u (reexamined a u) }
               rmp := { a.rmp with units := c.rmp.units }
               lpu := { a.lpu with cmds := c.lpu.cmds }
               rpb := c.rpb }
  ramp     : ∀ v, v ≠ u → c.ramp v = a.ramp v
  slots    : ∀ k, k ≠ .setpoint u → slotOf k c = slotOf k a
  queued   : ∀ r, Queued r a → Queued r c
  reported : a.assignOf u = .manual → reexamined a u ≠ a.entry u → Queued (.manualReplan (a.entry u).originSrc
    (a.entry u).originId u (reexamined a u).mode (reexamined a u).share) c
  other    : (a.seq u).state ≠ .gOn → c.ramp u = a.ramp u
  ended    : (a.seq u).state = .gOn → (¬∃ b, a.bandOf u = some b ∧ b.turb = true) → c.ramp u = .idle
  clamped  : (a.seq u).state = .gOn → ∀ b, a.bandOf u = some b → b.turb = true →
    let v := b.clamp (((a.ramp u).setpoint.map fun x : Nat => (x : Int)).getD (a.image u).power)
    (c.ramp u).setpoint = some v ∧ (c.ramp u).refresh = some (a.profileOf u).refresh ∧
      { slot := .setpoint u, dest := (a.unit u).addr, cmd := .setpoint v } ∈ c.lpu.cmds

theorem rewritten_writes (u : UnitNo) (e : Ev) : Rewritten u e.s (rewritten u e).s := by
  obtain ⟨q, hs, queued, reported⟩ := reexamine_writes u e
  obtain ⟨r, cmds, hc, slots⟩ := reclampSetpoint_eq u (reexamine u e).s
  have same : (rewritten u e).s = reclampSetpoint u (reexamine u e).s := rfl
  have units : (rewritten u e).s.rmp.units = e.s.rmp.units.set u r := by rw [same, hc, hs]
  have rpb : (rewritten u e).s.rpb = (reexamine u e).s.rpb := by rw [same, hc]
  refine ⟨?_, fun v hv => ?_, fun k hk => ?_, fun x hx => ?_, fun hm hx => ?_, fun hn => ?_, fun hn hb => ?_,
    fun hn b hb ht => ?_⟩
  · rw [same, hc, hs]
  · rw [State.ramp, units]
    exact PerUnit.get_set_ne _ _ _ _ hv
  · rw [same, slots k hk, hs]
    rfl
  · exact (queued x hx).of_rpb (congrArg Rpb.queue rpb) (congrArg Rpb.flags rpb)
  · exact (reported hm hx).of_rpb (congrArg Rpb.queue rpb) (congrArg Rpb.flags rpb)
  · rw [same, reclampSetpoint_other (by rw [hs]; exact hn), hs]
    rfl
  · rw [same, reclampSetpoint_noTurbine (by rw [hs]; exact hn) (by rw [hs]; exact hb)]
    exact State.setRamp_ramp_self _ _ _
  · rw [same, reclampSetpoint_turbine (by rw [hs]; exact hn) (b := b) (by rw [hs]; exact hb) ht, placeSetpoint_setRamp,
      hs]
    exact ⟨congrArg RampUnit.setpoint (PerUnit.get_set_self _ _ _), congrArg RampUnit.refresh (PerUnit.get_set_self _ _ _),
      mem_placeIn_self _ _⟩

theorem rewritten_owes (u : UnitNo) (e : Ev) : (rewritten u e).due = e.due ∧ (rewritten u e).settle = e.settle := by
  obtain ⟨-, -, -, -, due, settle⟩ := reexamine_eq u e
  exact ⟨due, settle⟩

section
variable {a c : State} {u : UnitNo} (h : Rewritten u a c)
include h

theorem Rewritten.entry : c.entry u = reexamined a u := by
  rw [h.rest]
  exact PerUnit.get_set_self _ _ _

theorem Rewritten.entry_ne {v : UnitNo} (hv : v ≠ u) : c.entry v = a.entry v := by
  rw [h.rest]
  exact PerUnit.get_set_ne _ _ _ _ hv

theorem Rewritten.seqs : c.seqs = a.seqs := by rw [h.rest]

theorem Rewritten.pra : c.pra = a.pra := by rw [h.rest]

theorem Rewritten.tbs : c.tbs = a.tbs := by rw [h.rest]

theorem Rewritten.uib : c.uib = a.uib := by rw [h.rest]

theorem Rewritten.dse : c.dse = a.dse := by rw [h.rest]

theorem Rewritten.seq (v : UnitNo) : c.seq v = a.seq v := by rw [State.seq, h.seqs, State.seq]

theorem Rewritten.bandOf (v : UnitNo) : c.bandOf v = a.bandOf v := by rw [h.rest]; rfl

theorem Rewritten.profileOf (v : UnitNo) : c.profileOf v = a.profileOf v := by rw [h.rest]; rfl

theorem Rewritten.held (k : ResourcesHeld a) : ResourcesHeld c := by
  rw [h.rest]
  exact ⟨k.queueNodup, k.queueState, k.granted, k.holderState, k.waitersNodup, k.waiterState, k.lockState, k.lockTaken⟩

end

-- The band change (R107 to R111) --------------------------------------------------------------------------

section
variable {u : UnitNo} {e : Ev}

/-- The band change raises a trigger for a present auto unit (R84). -/
def bandTrigger (u : UnitNo) (s : State) : Bool := (s.unit u).present && s.assignOf u == .auto

theorem bandChange_mode (h : ((rewritten u e).s.entry u).mode = (e.s.entry u).mode ∨ u ∈ e.due) :
    bandChange u e = (rewritten u e).trigger (bandTrigger u e.s) := congrArg (Ev.trigger _) (if_pos h)

theorem bandChange_acts (h : ¬(((rewritten u e).s.entry u).mode = (e.s.entry u).mode ∨ u ∈ e.due)) :
    bandChange u e = (act u (rewritten u e)).trigger (bandTrigger u e.s) := congrArg (Ev.trigger _) (if_neg h)

/-- A unit whose band allows its plan does not act. -/
theorem bandChange_in (h : ¬OutOfBand e.s u (e.s.entry u)) : ∃ b, bandChange u e = (rewritten u e).trigger b := by
  have mode : ((rewritten u e).s.entry u).mode = (e.s.entry u).mode := by
    rw [(rewritten_writes u e).entry, reexamined_mode h]
  exact ⟨_, bandChange_mode (.inl mode)⟩

/-- A unit forced out of its plan acts (R111). -/
theorem bandChange_out (hd : e.due = []) (h : OutOfBand e.s u (e.s.entry u)) :
    ∃ b, bandChange u e = (act u (rewritten u e)).trigger b := by
  have mode : ¬((rewritten u e).s.entry u).mode = (e.s.entry u).mode := by
    rw [(rewritten_writes u e).entry, reexamined_out h]
    exact forceOut_mode_ne h
  refine ⟨_, bandChange_acts (not_or.mpr ⟨mode, ?_⟩)⟩
  rw [hd]
  exact List.not_mem_nil

end

section
variable {u : UnitNo} {e : Ev} (h : ResourcesHeld e.s)
include h

/-- The act of a unit forced out, from the state that its band change has written. -/
theorem bandChange_forced (ho : OutOfBand e.s u (e.s.entry u)) :
    ForcedTurn (rewritten u e) (act u (rewritten u e)) u := by
  have w := rewritten_writes u e
  have entry : (rewritten u e).s.entry u = (e.s.entry u).forceOut := by rw [w.entry, reexamined_out ho]
  exact act_forced (w.held h) (by rw [entry]; rfl) (by rw [entry]; rfl)

theorem bandChange_held (hd : e.due = []) : ResourcesHeld (bandChange u e).s := by
  have held := (rewritten_writes u e).held h
  by_cases ho : OutOfBand e.s u (e.s.entry u)
  · obtain ⟨b, eq⟩ := bandChange_out hd ho
    rw [eq]
    exact (act_turn held u).held
  · obtain ⟨b, eq⟩ := bandChange_in ho
    rw [eq]
    exact held

end

/-- A unit in band: its entry's share and its setpoint are clamped, and its sequencer stays (R107, R178, R179). -/
theorem Rewritten.takenIn {a c : State} {u : UnitNo} (w : Rewritten u a c) (ho : ¬OutOfBand a u (a.entry u)) :
    BandChangeTaken a c u := by
  unfold BandChangeTaken
  rw [w.bandOf, w.entry, w.seq]
  refine ⟨fun k => absurd k ho, fun _ b hb => reexamined_in ho hb, fun _ hb => reexamined_noBand ho hb,
    w.reported, fun k => absurd k ho, fun k => absurd k ho, fun k => absurd k ho, fun _ _ => .inl rfl, fun _ _ => rfl,
    w.other, fun hn k => w.ended hn (k.resolve_left ho), fun hn _ b hb ht => ?_⟩
  rw [w.profileOf]
  exact w.clamped hn b hb ht

theorem Queued.foldl_reported {r : Report} {s : State} (h : Queued r s) (l : List Report) :
    Queued r (l.foldl State.reported s) := by
  induction l generalizing s with
  | nil => exact h
  | cons x l ih => exact ih (pushReport_eq_reported x s ▸ h.pushReport)

/-- What was queued stays queued through a sequencer's turn. -/
theorem SequencerTurn.queued {a b : State} {u : UnitNo} (t : SequencerTurn a b u) {r : Report} (h : Queued r a) :
    Queued r b := by
  obtain ⟨-, stable, returns, abandoned, idle⟩ := t
  have of_reports (l : List Report) (k : Reports l a b) : Queued r b := by
    unfold Reports at k
    exact (h.foldl_reported l).of_rpb (by rw [k]) (by rw [k])
  by_cases hs : (a.seq u).state.stable = true
  · exact of_reports _ (stable hs).2
  by_cases hr : Returns (a.seq u) (a.entry u).mode
  · exact of_reports _ (returns hr).2
  by_cases hg : Starting (a.seq u).state ∧ ¬GoesOn (a.seq u) (a.entry u).mode
  · exact of_reports _ (abandoned hg.1 hg.2).2
  · rw [idle (Bool.eq_false_iff.mpr hs) hr hg]
    exact h

/-- A unit forced out: its entry is STILL with the marker, it stops, abandons or returns, and its setpoint ends (R107, R108,
R111, R126 to R131). -/
theorem Rewritten.takenOut {e : Ev} {u : UnitNo} (w : Rewritten u e.s (rewritten u e).s) (h : ResourcesHeld e.s)
    (ho : OutOfBand e.s u (e.s.entry u)) : BandChangeTaken e.s (act u (rewritten u e)).s u := by
  have held := w.held h
  have frame := act_frame u (rewritten u e)
  obtain ⟨turn, held', -, -⟩ := act_turn held u
  obtain ⟨running, starting, waits, idle⟩ := bandChange_forced h ho
  have entry : (act u (rewritten u e)).s.entry u = (e.s.entry u).forceOut := by
    rw [frame.entry_eq, w.entry, reexamined_out ho]
  have image : (rewritten u e).s.image u = e.s.image u := by rw [State.image, w.uib, State.image]
  rw [w.seq] at running starting waits idle
  rw [image] at starting
  unfold BandChangeTaken
  rw [frame.bandOf_eq, w.bandOf, entry]
  refine ⟨fun _ => rfl, fun k => absurd ho k, fun k => absurd ho k, fun hm hx => ?_, fun _ => running, fun _ => starting,
    fun _ k => waits ((waitsForLock_iff _).mpr k), fun k => absurd ho k, fun hw k => ?_, fun hn => ?_, fun hn _ => ?_,
    fun _ k => absurd ho k⟩
  · have report := w.reported hm
    rw [reexamined_out ho] at report
    exact turn.queued (report hx)
  · have rests := not_or.mp (k.resolve_left (not_not.mpr ho))
    rw [idle rests.1 rests.2 (Bool.eq_false_iff.mpr (mt (waitsForLock_iff _).mp hw)), w.seq]
  · rw [turn.1.ramp, w.seq, if_neg fun k => hn k.1]
    exact w.other hn
  · have stopped := (running (.inl hn)).1.1
    rw [turn.1.ramp, w.seq, if_pos ⟨hn, by rw [stopped]; decide⟩]

/-- What a band change does to its unit (R107 to R111, R126, R127, R178, R179). -/
theorem bandChange_taken {u : UnitNo} {e : Ev} (hd : e.due = []) (h : ResourcesHeld e.s) :
    BandChangeTaken e.s (bandChange u e).s u := by
  have w := rewritten_writes u e
  by_cases ho : OutOfBand e.s u (e.s.entry u)
  · obtain ⟨b, eq⟩ := bandChange_out hd ho
    rw [eq]
    exact w.takenOut h ho
  · obtain ⟨b, eq⟩ := bandChange_in ho
    rw [eq]
    exact w.takenIn ho

end Sys2Proof.Machine
end

section
/-! The bands of a profile's units recomputed one after another: what the band change of one unit leaves of another, and
what all of them come to (R35, R36, R89, R107 to R111, R158 to R161). -/

namespace Sys2Proof.Machine

-- A unit while another takes its band change (R158, R160) --------------------------------------------------

/-- What the band changes of other units leave of a unit: all but a lock wait, which may end with the lock granted. -/
structure Aside (v : UnitNo) (a b : State) : Prop where
  tbs      : b.tbs = a.tbs
  dse      : b.dse = a.dse
  entry    : b.entry v = a.entry v
  ramp     : b.ramp v = a.ramp v
  reading  : (b.image v).stage = (a.image v).stage ∧ (b.image v).fault = (a.image v).fault ∧
    (b.image v).power = (a.image v).power
  setpoint : slotOf (.setpoint v) b = slotOf (.setpoint v) a
  stays    : (a.seq v).state.waitsForLock = false → b.seq v = a.seq v ∧ slotOf (.stage v) b = slotOf (.stage v) a
  waits    : (a.seq v).state.waitsForLock = true → b.seq v = a.seq v ∨
    (b.lockOf v).holder = some v ∧ (b.seq v).state.holdsLock = true
  holds    : (a.lockOf v).holder = some v → (b.lockOf v).holder = some v
  queued   : ∀ r, Queued r a → Queued r b

theorem Aside.refl (v : UnitNo) (a : State) : Aside v a a :=
  ⟨rfl, rfl, rfl, rfl, ⟨rfl, rfl, rfl⟩, rfl, fun _ => ⟨rfl, rfl⟩, fun _ => .inl rfl, id, fun _ => id⟩

theorem Aside.trans {v : UnitNo} {a b c : State} (h : Aside v a b) (k : Aside v b c) : Aside v a c where
  tbs := k.tbs.trans h.tbs
  dse := k.dse.trans h.dse
  entry := k.entry.trans h.entry
  ramp := k.ramp.trans h.ramp
  reading := by
    obtain ⟨s1, f1, p1⟩ := h.reading
    obtain ⟨s2, f2, p2⟩ := k.reading
    exact ⟨s2.trans s1, f2.trans f1, p2.trans p1⟩
  setpoint := k.setpoint.trans h.setpoint
  stays hw := by
    obtain ⟨seq, slot⟩ := h.stays hw
    obtain ⟨seq', slot'⟩ := k.stays (by rw [seq]; exact hw)
    exact ⟨seq'.trans seq, slot'.trans slot⟩
  waits hw := by
    obtain seq | ⟨holder, state⟩ := h.waits hw
    · rw [← seq]
      exact k.waits (by rw [seq]; exact hw)
    · exact .inr ⟨k.holds holder, by rw [(k.stays (wait_of_holdsLock state)).1]; exact state⟩
  holds hl := k.holds (h.holds hl)
  queued r hr := k.queued r (h.queued r hr)

theorem Aside.seq_cases {v : UnitNo} {a b : State} (h : Aside v a b) : b.seq v = a.seq v ∨
    (a.seq v).state.waitsForLock = true ∧ (b.lockOf v).holder = some v ∧ (b.seq v).state.holdsLock = true := by
  by_cases hw : (a.seq v).state.waitsForLock = true
  · exact (h.waits hw).imp_right fun k => ⟨hw, k⟩
  · exact .inl (h.stays (Bool.eq_false_iff.mpr hw)).1

theorem Aside.unit {v : UnitNo} {a b : State} (h : Aside v a b) (u : UnitNo) : b.unit u = a.unit u :=
  congrArg (fun t : Tbs => t.units.get u) h.tbs

theorem Aside.profileOf {v : UnitNo} {a b : State} (h : Aside v a b) (u : UnitNo) : b.profileOf u = a.profileOf u :=
  congrArg (fun t : Tbs => t.profiles[(t.units.get u).profile]) h.tbs

section
variable {a b : State} {u v : UnitNo} (hv : v ≠ u)
include hv

theorem Rewritten.aside (w : Rewritten u a b) : Aside v a b where
  tbs := w.tbs
  dse := w.dse
  entry := w.entry_ne hv
  ramp := w.ramp v hv
  reading := by rw [State.image, w.uib]; exact ⟨rfl, rfl, rfl⟩
  setpoint := w.slots _ fun k => hv (Slot.setpoint.inj k)
  stays _ := ⟨w.seq v, w.slots _ fun k => nomatch k⟩
  waits _ := .inl (w.seq v)
  holds hl := by
    rw [w.rest]
    exact hl
  queued := w.queued

/-- A sequencer's turn as a unit that waits for its lock, or does not, sees it. -/
theorem SequencerTurn.aside (t : SequencerTurn a b u) (h : ResourcesHeld a) : Aside v a b := by
  have q := fun r hr => t.queued (r := r) hr
  obtain ⟨f, -⟩ := t
  have rest := f.rest
  obtain ⟨ramp, handed, kept⟩ := f.others v hv
  have unit (x : UnitNo) : b.unit x = a.unit x := by rw [rest]; rfl
  have unhanded (hw : (a.seq v).state.waitsForLock = false) : (a.lockOf u).waiters.head? ≠ some v := fun k =>
    h.not_waiter hw _ (List.mem_of_mem_head? k)
  refine ⟨by rw [rest], by rw [rest], by rw [rest]; rfl, ramp, by rw [rest]; exact ⟨rfl, rfl, rfl⟩,
    f.setpoints v, fun hw => kept fun k => unhanded hw k.2.2, fun hw => ?_, fun hl => ?_, q⟩
  · by_cases k : (a.lockOf u).holder = some u ∧ (b.seq u).state = .stopping ∧ (a.lockOf u).waiters.head? = some v
    · have same := (h.waiterState _ v (List.mem_of_mem_head? k.2.2)).1
      refine .inr ⟨?_, (handed k).holdsLock hw⟩
      rw [State.lockOf, unit, same, f.lock.1 k.1 k.2.1]
      exact k.2.2
    · exact .inl (kept k).1
  · rw [State.lockOf, unit]
    by_cases same : (a.unit v).waterway = (a.unit u).waterway
    · rw [State.lockOf, same] at hl
      rw [same]
      have other : (a.pra.locks.get (a.unit u).waterway).holder ≠ some u := by
        rw [hl]
        exact fun k => hv (Option.some.inj k)
      obtain k | k := (f.lock.2.2.1 other).1
      · rw [k, hl]
      · rw [hl] at k
        exact nomatch k.1
    · rw [f.otherLock _ same]
      exact hl

/-- The band change of one unit, as another sees it. -/
theorem bandChange_aside {e : Ev} (hd : e.due = []) (h : ResourcesHeld e.s) : Aside v e.s (bandChange u e).s := by
  have w := rewritten_writes u e
  by_cases ho : OutOfBand e.s u (e.s.entry u)
  · obtain ⟨b, eq⟩ := bandChange_out hd ho
    rw [eq]
    exact (w.aside hv).trans ((act_turn (w.held h) u).turn.aside hv (w.held h))
  · obtain ⟨b, eq⟩ := bandChange_in ho
    rw [eq]
    exact w.aside hv

end

-- A band change among those of other units ------------------------------------------------------------------

theorem starting_of_holdsLock {n : SeqState} (h : n.holdsLock = true) : Starting n := by
  rw [← rotating_iff]
  cases n <;> first | rfl | cases h

theorem apart_of_wait {n : SeqState} (h : n.waitsForLock = true) : ¬Running n ∧ ¬Starting n ∧ n ≠ .gOn := by
  obtain rfl | rfl := (waitsForLock_iff n).mp h <;> simp [Running, Starting]

/-- A stop stays in force while other units take their band changes. -/
theorem Stopped.aside {u : UnitNo} {b t : State} (h : Stopped b u) (k : Aside u b t) (held : ResourcesHeld t) :
    Stopped t u := by
  obtain ⟨⟨state, timer, prior, command⟩, run, linger, -⟩ := h
  obtain ⟨seq, slot⟩ := k.stays (by rw [state]; rfl)
  refine ⟨⟨by rw [seq]; exact state, ?_, by rw [seq, k.reading.1]; exact prior, ?_⟩, by rw [seq]; exact run,
    by rw [seq]; exact linger, held.gaveUp (by rw [seq, state]; rfl)⟩
  · rw [seq, k.profileOf]
    exact timer
  · rw [k.unit]
    exact mem_cmds_of_slotOf slot command

/-- A unit's band change seen after those that follow it. -/
theorem BandChangeTaken.after {s b t : State} {u : UnitNo} (h : BandChangeTaken s b u) (k : Aside u b t)
    (waterway : (b.unit u).waterway = (s.unit u).waterway) (band : t.bandOf u = b.bandOf u) (held : ResourcesHeld t) :
    BandChangeTaken s t u := by
  unfold BandChangeTaken at h ⊢
  obtain ⟨out, inBand, noBand, report, running, starting, waits, kept, idle, other, ended, clamped⟩ := h
  rw [band, k.entry, k.ramp, k.profileOf]
  refine ⟨out, inBand, noBand, fun hm hx => k.queued _ (report hm hx), fun g n => (running g n).aside k held,
    fun g n => ⟨(starting g n).1.aside k held, k.queued _ (starting g n).2⟩, fun g n => ?_, fun g n => ?_, fun n g => ?_,
    other, ended, fun n g b hb ht => ?_⟩
  · obtain stopped | ⟨still, state, -⟩ := waits g n
    · exact .inl (stopped.aside k held)
    · have seq := (k.stays (by rw [state]; rfl)).1
      exact .inr ⟨still, by rw [seq]; exact state, held.gaveUp (by rw [seq, state]; rfl)⟩
  · obtain seq | holder := kept g n
    · rw [← seq, ← waterway, ← k.unit]
      exact (k.waits (by rw [seq]; exact (waitsForLock_iff _).mpr n)).imp_right And.left
    · rw [← waterway] at holder
      have := k.holds holder
      rw [State.lockOf, k.unit, waterway] at this
      exact .inr this
  · have seq := idle n g
    rw [← seq]
    exact (k.stays (by rw [seq]; exact Bool.eq_false_iff.mpr (mt (waitsForLock_iff _).mp n))).1
  · obtain ⟨setpoint, refresh, command⟩ := clamped n g b hb ht
    exact ⟨setpoint, refresh, mem_cmds_of_slotOf k.setpoint command⟩

/-- A unit that its band keeps in its mode keeps the mode of its entry. -/
theorem BandChangeTaken.mode {s t : State} {u : UnitNo} (h : BandChangeTaken s t u) (ho : ¬OutOfBand t u (s.entry u)) :
    (t.entry u).mode = (s.entry u).mode := by
  obtain ⟨-, inBand, noBand, -⟩ := h
  cases hb : t.bandOf u with
  | none => rw [noBand ho hb]
  | some b =>
    rw [inBand ho b hb]
    split <;> rfl

/-- A unit's band change seen from before those ahead of it. -/
theorem BandChangeTaken.before {s a t : State} {u : UnitNo} (h : BandChangeTaken a t u) (k : Aside u s a)
    (holds : (t.entry u).mode = (a.entry u).mode → (a.lockOf u).holder = some u →
      (t.pra.locks.get (a.unit u).waterway).holder = some u) :
    BandChangeTaken s t u := by
  have mode := h.mode
  unfold BandChangeTaken at h ⊢
  obtain ⟨out, inBand, noBand, report, running, starting, waits, kept, idle, other, ended, clamped⟩ := h
  have assign : a.assignOf u = s.assignOf u := congrArg (fun d : Dse => d.assign.get u) k.dse
  obtain ⟨stage, fault, power⟩ := k.reading
  rw [k.entry] at out inBand noBand report running starting waits kept idle ended clamped mode holds
  rw [assign] at report
  rw [k.unit] at kept clamped holds
  rw [k.ramp] at other clamped
  rw [stage, fault] at starting
  rw [power] at clamped
  obtain seq | ⟨hw, holder, state⟩ := k.seq_cases
  · rw [seq] at running starting waits kept idle other ended clamped
    exact ⟨out, inBand, noBand, report, running, starting, waits, kept, idle, other, ended, clamped⟩
  · obtain ⟨turns, starts, on⟩ := apart_of_wait hw
    have started := starting_of_holdsLock state
    have off : (a.seq u).state ≠ .gOn := fun j => by rw [j] at state; cases state
    exact ⟨out, inBand, noBand, report, fun _ n => absurd n turns, fun _ n => absurd n starts,
      fun g _ => .inl (starting g started).1, fun g _ => .inr (holds (mode g) holder),
      fun n => absurd ((waitsForLock_iff _).mp hw) n, fun _ => other off, fun n => absurd n on, fun n => absurd n on⟩

-- What any band change keeps (R35, R50) ---------------------------------------------------------------------

theorem StableAct.due {u : UnitNo} {e f : Ev} (k : StableAct u e f) : f.due = e.due := by
  cases k with
  | stay => rfl
  | linger x => rfl
  | timed n hn => exact (enterTimed_owes u e hn.runs).2.1
  | ask n o hn _ => exact (enterLockwait_owes o hn).2.1
  | stop => exact (enterStopping_owes u e).2.1

theorem act_due (u : UnitNo) (e : Ev) : (act u e).due = e.due := by
  unfold act
  dsimp only
  split
  · exact (actStable_stableAct u e).due
  split
  · rfl
  split
  · exact (actStable_stableAct u _).due
  split
  · exact (enterStopping_owes u e).2.1
  · rfl

/-- What band changes keep: the setting, the Dispatch Engine, and the reports queued before. -/
structure BandFrame (a b : State) : Prop where
  leaves  : LeavesSetting a b
  dse     : b.dse = a.dse
  summary : b.alc.summary = a.alc.summary
  queue   : ∃ rs, b.rpb.queue = a.rpb.queue ++ rs

theorem BandFrame.refl (s : State) : BandFrame s s :=
  ⟨⟨rfl, rfl, rfl, rfl, rfl, rfl, rfl, rfl, rfl⟩, rfl, rfl, [], (List.append_nil _).symm⟩

theorem BandFrame.trans {a b c : State} (h : BandFrame a b) (k : BandFrame b c) : BandFrame a c := by
  obtain ⟨rs, hrs⟩ := h.queue
  obtain ⟨rs', hrs'⟩ := k.queue
  exact ⟨h.leaves.trans k.leaves, k.dse.trans h.dse, k.summary.trans h.summary, rs ++ rs',
    by rw [hrs', hrs, List.append_assoc]⟩

theorem bandChange_cases (u : UnitNo) (e : Ev) : ∃ b, bandChange u e = (rewritten u e).trigger b ∨
    bandChange u e = (act u (rewritten u e)).trigger b := by
  refine ⟨bandTrigger u e.s, ?_⟩
  by_cases h : ((rewritten u e).s.entry u).mode = (e.s.entry u).mode ∨ u ∈ e.due
  · exact .inl (bandChange_mode h)
  · exact .inr (bandChange_acts h)

theorem bandChange_due (u : UnitNo) (e : Ev) : (bandChange u e).due = e.due := by
  obtain ⟨b, eq | eq⟩ := bandChange_cases u e
  · rw [eq]
    exact (rewritten_owes u e).1
  · rw [eq]
    exact (act_due u _).trans (rewritten_owes u e).1

theorem bandChange_bandFrame (u : UnitNo) (e : Ev) : BandFrame e.s (bandChange u e).s := by
  have frame := bandChange_frame u e
  have w := rewritten_writes u e
  have summary : (rewritten u e).s.alc.summary = e.s.alc.summary := by rw [w.rest]
  refine ⟨frame.leavesSetting, ?_, ?_, frame.queue⟩
  · obtain ⟨b, eq | eq⟩ := bandChange_cases u e
    · rw [eq]
      exact w.dse
    · rw [eq]
      exact (act_frame u _).dse.trans w.dse
  · obtain ⟨b, eq | eq⟩ := bandChange_cases u e
    · rw [eq]
      exact summary
    · rw [eq]
      exact (congrArg Alc.summary (act_frame u _).alc).trans summary

-- One unit's band recomputed (R28, R35) ---------------------------------------------------------------------

/-- The image that a recomputation gives the unit. -/
def newImage (s : State) (u : UnitNo) : Image := s.recomputed u (s.image u)

/-- The unit takes a band change: its band is another than before, or the one rewritten (R35). -/
def TakesChange (s : State) (u : UnitNo) (r : Option (Fin 12)) : Prop :=
  (newImage s u).band ≠ (s.image u).band ∨ ∃ k, r = some k ∧ (newImage s u).band = .num k

/-- The event with the unit's new image. -/
def Ev.reread (u : UnitNo) (e : Ev) : Ev := e.map fun s => s.setImage u (newImage e.s u)

theorem recomputeBand_change {u : UnitNo} {r : Option (Fin 12)} {e : Ev} (h : TakesChange e.s u r) :
    recomputeBand u r e = bandChange u (e.reread u) := by
  unfold TakesChange newImage at h
  refine if_pos ?_
  obtain h | ⟨k, rfl, h⟩ := h
  · rw [Bool.or_eq_true]
    exact .inl (bne_iff_ne.mpr h)
  · rw [h]
    simp

theorem recomputeBand_keep {u : UnitNo} {r : Option (Fin 12)} {e : Ev} (h : ¬TakesChange e.s u r) :
    recomputeBand u r e = e.reread u := by
  unfold TakesChange newImage at h
  obtain ⟨same, other⟩ := not_or.mp h
  refine if_neg ?_
  rw [Bool.or_eq_true, bne_iff_ne, not_or]
  refine ⟨same, fun k => other ?_⟩
  cases r with
  | none => cases k
  | some j =>
    show ∃ i, some j = some i ∧ (e.s.recomputed u (e.s.image u)).band = .num i
    cases hb : (e.s.recomputed u (e.s.image u)).band with
    | num i =>
      rw [hb] at k
      exact ⟨j, rfl, congrArg _ (beq_iff_eq.mp k).symm⟩
    | none =>
      rw [hb] at k
      cases k
    | invalid =>
      rw [hb] at k
      cases k

theorem newImage_reading (s : State) (u : UnitNo) : (newImage s u).stage = (s.image u).stage ∧
    (newImage s u).fault = (s.image u).fault ∧ (newImage s u).power = (s.image u).power := ⟨rfl, rfl, rfl⟩

theorem reread_image (u : UnitNo) (e : Ev) : (e.reread u).s.image u = newImage e.s u := State.setImage_image_self _ _ _

theorem reread_image_ne {u v : UnitNo} (e : Ev) (h : v ≠ u) : (e.reread u).s.image v = e.s.image v :=
  PerUnit.get_set_ne _ _ _ _ h

theorem reread_bandFrame (u : UnitNo) (e : Ev) : BandFrame e.s (e.reread u).s :=
  ⟨⟨rfl, rfl, rfl, rfl, rfl, rfl, rfl, rfl, rfl⟩, rfl, rfl, [], (List.append_nil _).symm⟩

theorem reread_held (u : UnitNo) {e : Ev} (h : ResourcesHeld e.s) : ResourcesHeld (e.reread u).s :=
  ⟨h.queueNodup, h.queueState, h.granted, h.holderState, h.waitersNodup, h.waiterState, h.lockState, h.lockTaken⟩

theorem reread_aside (u v : UnitNo) (e : Ev) : Aside v e.s (e.reread u).s := by
  refine ⟨rfl, rfl, rfl, rfl, ?_, rfl, fun _ => ⟨rfl, rfl⟩, fun _ => .inl rfl, id, fun r h => h.of_rpb rfl rfl⟩
  by_cases hv : v = u
  · subst hv
    rw [reread_image]
    exact newImage_reading e.s v
  · rw [reread_image_ne e hv]
    exact ⟨rfl, rfl, rfl⟩

section
variable (u : UnitNo) (r : Option (Fin 12)) (e : Ev)

theorem recomputeBand_uib : (recomputeBand u r e).s.uib = (e.reread u).s.uib := by
  by_cases h : TakesChange e.s u r
  · rw [recomputeBand_change h]
    exact (bandChange_frame u _).uib
  · rw [recomputeBand_keep h]

theorem recomputeBand_image : (recomputeBand u r e).s.image u = newImage e.s u := by
  rw [State.image, recomputeBand_uib]
  exact reread_image u e

theorem recomputeBand_image_ne {v : UnitNo} (h : v ≠ u) : (recomputeBand u r e).s.image v = e.s.image v := by
  rw [State.image, recomputeBand_uib]
  exact reread_image_ne e h

theorem recomputeBand_due : (recomputeBand u r e).due = e.due := by
  by_cases h : TakesChange e.s u r
  · rw [recomputeBand_change h]
    exact bandChange_due u _
  · rw [recomputeBand_keep h]
    rfl

theorem recomputeBand_bandFrame : BandFrame e.s (recomputeBand u r e).s := by
  by_cases h : TakesChange e.s u r
  · rw [recomputeBand_change h]
    exact (reread_bandFrame u e).trans (bandChange_bandFrame u _)
  · rw [recomputeBand_keep h]
    exact reread_bandFrame u e

end

-- Settling occasions (R82) ----------------------------------------------------------------------------------

/-- A settling occasion is raised by a lock wait that returns to STILL, and by nothing else; and no unit begins to wait. -/
structure Settles (e f : Ev) : Prop where
  kept     : e.settle = true → f.settle = true
  returned : f.settle = true → e.settle = true ∨
    ∃ u, (e.s.seq u).state.waitsForLock = true ∧ (f.s.seq u).state.waitsForLock = false
  entered  : ∀ u, (f.s.seq u).state ≠ (e.s.seq u).state → (f.s.seq u).state.stable = true → f.settle = true
  waits    : ∀ u, (f.s.seq u).state.waitsForLock = true → (e.s.seq u).state.waitsForLock = true

theorem Settles.refl (e : Ev) : Settles e e := ⟨id, .inl, fun _ h => absurd rfl h, fun _ => id⟩

theorem Settles.trans {e f g : Ev} (h : Settles e f) (k : Settles f g) : Settles e g where
  kept hs := k.kept (h.kept hs)
  returned hs := by
    have back {u : UnitNo} (hw : (f.s.seq u).state.waitsForLock = false) : (g.s.seq u).state.waitsForLock = false :=
      Bool.eq_false_iff.mpr fun j => by rw [k.waits u j] at hw; cases hw
    obtain hs | ⟨u, hw, hn⟩ := k.returned hs
    · exact (h.returned hs).imp_right fun ⟨u, hw, hn⟩ => ⟨u, hw, back hn⟩
    · exact .inr ⟨u, h.waits u hw, hn⟩
  entered u hne hs := by
    by_cases same : (g.s.seq u).state = (f.s.seq u).state
    · rw [same] at hne hs
      exact k.kept (h.entered u hne hs)
    · exact k.entered u same hs
  waits u hw := h.waits u (k.waits u hw)

theorem stopping_of_stopped {s : State} {u : UnitNo} (h : Stopped s u) : (s.seq u).state = .stopping := h.1.1

/-- An event in which one unit moves and the others stay aside. -/
theorem Settles.of_aside {u : UnitNo} {e f : Ev} (aside : ∀ v, v ≠ u → Aside v e.s f.s)
    (kept : e.settle = true → f.settle = true)
    (own : (f.s.seq u).state = (e.s.seq u).state ∧ (f.settle = true → e.settle = true) ∨
      (f.s.seq u).state = .stopping ∧ (f.settle = true → e.settle = true) ∨
      (e.s.seq u).state.waitsForLock = true ∧ (f.s.seq u).state.waitsForLock = false ∧ f.settle = true) :
    Settles e f where
  kept := kept
  returned hs := by
    obtain ⟨-, k⟩ | ⟨-, k⟩ | ⟨hw, hn, -⟩ := own
    · exact .inl (k hs)
    · exact .inl (k hs)
    · exact .inr ⟨u, hw, hn⟩
  entered v hne hs := by
    by_cases hv : v = u
    · subst hv
      obtain ⟨k, -⟩ | ⟨k, -⟩ | ⟨-, -, k⟩ := own
      · exact absurd k hne
      · rw [k] at hs
        cases hs
      · exact k
    · obtain seq | ⟨-, -, state⟩ := (aside v hv).seq_cases
      · exact absurd (congrArg Seq.state seq) hne
      · rw [stable_of_holdsLock state] at hs
        cases hs
  waits v hw := by
    by_cases hv : v = u
    · subst hv
      obtain ⟨k, -⟩ | ⟨k, -⟩ | ⟨k, -, -⟩ := own
      · rw [← k]
        exact hw
      · rw [k] at hw
        cases hw
      · exact k
    · obtain seq | ⟨k, -, -⟩ := (aside v hv).seq_cases
      · rw [← seq]
        exact hw
      · exact k

theorem bandChange_settles {u : UnitNo} {e : Ev} (hd : e.due = []) (h : ResourcesHeld e.s) :
    Settles e (bandChange u e) := by
  have w := rewritten_writes u e
  have aside := fun v hv => bandChange_aside (u := u) (v := v) hv hd h
  have owes := (rewritten_owes u e).2
  by_cases ho : OutOfBand e.s u (e.s.entry u)
  · obtain ⟨b, eq⟩ := bandChange_out hd ho
    rw [eq] at aside ⊢
    have settle := (act_turn (w.held h) u).settle
    have entry : ((rewritten u e).s.entry u).mode = .still := by rw [w.entry, reexamined_out ho]; rfl
    rw [entry, returns_still, owes, w.seq] at settle
    obtain ⟨running, starting, waits, idle⟩ := bandChange_forced h ho
    rw [w.seq] at running starting waits idle
    refine .of_aside aside (fun hs => settle.mpr (.inl hs)) ?_
    by_cases hw : (e.s.seq u).state.waitsForLock = true
    · refine .inr (.inr ⟨hw, ?_, settle.mpr (.inr hw)⟩)
      obtain stopped | ⟨-, state, -⟩ := waits hw
      · show ((act u (rewritten u e)).s.seq u).state.waitsForLock = false
        rw [stopping_of_stopped stopped]
        rfl
      · show ((act u (rewritten u e)).s.seq u).state.waitsForLock = false
        rw [state]
        rfl
    · have quiet := fun hs => (settle.mp hs).resolve_right hw
      by_cases hr : Running (e.s.seq u).state
      · exact .inr (.inl ⟨stopping_of_stopped (running hr), quiet⟩)
      by_cases hs : Starting (e.s.seq u).state
      · exact .inr (.inl ⟨stopping_of_stopped (starting hs).1, quiet⟩)
      · refine .inl ⟨?_, quiet⟩
        show ((act u (rewritten u e)).s.seq u).state = _
        rw [idle hr hs (Bool.eq_false_iff.mpr hw), w.seq]
  · obtain ⟨b, eq⟩ := bandChange_in ho
    rw [eq] at aside ⊢
    exact .of_aside aside (fun hs => owes.trans hs) (.inl ⟨congrArg Seq.state (w.seq u), fun hs => owes.symm.trans hs⟩)

-- The bands of a profile's units (R35, R36) -----------------------------------------------------------------

/-- A band change taken, and a lock kept where the planned mode is. -/
structure ChangeTaken (s t : State) (u : UnitNo) : Prop where
  taken : BandChangeTaken s t u
  holds : (t.entry u).mode = (s.entry u).mode → (s.lockOf u).holder = some u → (t.lockOf u).holder = some u

theorem ChangeTaken.after {s b t : State} {u : UnitNo} (h : ChangeTaken s b u) (k : Aside u b t)
    (waterway : (b.unit u).waterway = (s.unit u).waterway) (band : t.bandOf u = b.bandOf u) (held : ResourcesHeld t) :
    ChangeTaken s t u :=
  ⟨h.taken.after k waterway band held, fun hm hl => k.holds (h.holds (by rw [← k.entry]; exact hm) hl)⟩

theorem ChangeTaken.before {s a t : State} {u : UnitNo} (h : ChangeTaken a t u) (k : Aside u s a)
    (unit : t.unit u = a.unit u) : ChangeTaken s t u := by
  refine ⟨h.taken.before k fun hm hl => ?_, fun hm hl => h.holds (by rw [k.entry]; exact hm) (k.holds hl)⟩
  have := h.holds hm hl
  rw [State.lockOf, unit] at this
  exact this

theorem bandChange_changeTaken {u : UnitNo} {e : Ev} (hd : e.due = []) (h : ResourcesHeld e.s) :
    ChangeTaken e.s (bandChange u e).s u := by
  refine ⟨bandChange_taken hd h, fun hm hl => ?_⟩
  have w := rewritten_writes u e
  by_cases ho : OutOfBand e.s u (e.s.entry u)
  · obtain ⟨b, eq⟩ := bandChange_out hd ho
    rw [eq] at hm
    have entry : (act u (rewritten u e)).s.entry u = (e.s.entry u).forceOut := by
      rw [(act_frame u _).entry_eq, w.entry, reexamined_out ho]
    exact absurd ((congrArg Entry.mode entry).symm.trans hm) (forceOut_mode_ne ho)
  · obtain ⟨b, eq⟩ := bandChange_in ho
    rw [eq]
    show ((rewritten u e).s.lockOf u).holder = some u
    rw [w.rest]
    exact hl

section
variable {u : UnitNo} {r : Option (Fin 12)} {e : Ev} (hd : e.due = []) (h : ResourcesHeld e.s)
include hd h

theorem recomputeBand_held : ResourcesHeld (recomputeBand u r e).s := by
  by_cases hc : TakesChange e.s u r
  · rw [recomputeBand_change hc]
    exact bandChange_held (reread_held u h) hd
  · rw [recomputeBand_keep hc]
    exact reread_held u h

theorem recomputeBand_settles : Settles e (recomputeBand u r e) := by
  have reread : Settles e (e.reread u) := ⟨id, .inl, fun _ k => absurd rfl k, fun _ => id⟩
  by_cases hc : TakesChange e.s u r
  · rw [recomputeBand_change hc]
    exact reread.trans (bandChange_settles hd (reread_held u h))
  · rw [recomputeBand_keep hc]
    exact reread

theorem recomputeBand_aside {v : UnitNo} (hv : v ≠ u) : Aside v e.s (recomputeBand u r e).s := by
  by_cases hc : TakesChange e.s u r
  · rw [recomputeBand_change hc]
    exact (reread_aside u v e).trans (bandChange_aside hv hd (reread_held u h))
  · rw [recomputeBand_keep hc]
    exact reread_aside u v e

theorem recomputeBand_taken (hc : TakesChange e.s u r) : ChangeTaken e.s (recomputeBand u r e).s u := by
  rw [recomputeBand_change hc]
  exact (bandChange_changeTaken (e := e.reread u) hd (reread_held u h)).before (reread_aside u u e)
    (congrArg (fun t : Tbs => t.units.get u) (bandChange_frame u (e.reread u)).tbs)

omit hd h in
theorem recomputeBand_unchanged (hc : ¬TakesChange e.s u r) : Aside u e.s (recomputeBand u r e).s := by
  rw [recomputeBand_keep hc]
  exact reread_aside u u e

end

/-- The bands of these units recomputed one after another. -/
def recomputeAll (r : Option (Fin 12)) (us : List UnitNo) (e : Ev) : Ev := us.foldl (fun e u => recomputeBand u r e) e

theorem recomputeAll_cons (r : Option (Fin 12)) (u : UnitNo) (us : List UnitNo) (e : Ev) :
    recomputeAll r (u :: us) e = recomputeAll r us (recomputeBand u r e) := rfl

theorem recomputeAll_due (r : Option (Fin 12)) (us : List UnitNo) (e : Ev) : (recomputeAll r us e).due = e.due := by
  induction us generalizing e with
  | nil => rfl
  | cons u us ih => exact (ih _).trans (recomputeBand_due u r e)

theorem recomputeAll_bandFrame (r : Option (Fin 12)) (us : List UnitNo) (e : Ev) :
    BandFrame e.s (recomputeAll r us e).s := by
  induction us generalizing e with
  | nil => exact .refl _
  | cons u us ih => exact (recomputeBand_bandFrame u r e).trans (ih _)

theorem recomputeAll_image_ne (r : Option (Fin 12)) {us : List UnitNo} (e : Ev) {v : UnitNo} (h : v ∉ us) :
    (recomputeAll r us e).s.image v = e.s.image v := by
  induction us generalizing e with
  | nil => rfl
  | cons u us ih =>
    obtain ⟨hv, hvs⟩ := not_or.mp (mt List.mem_cons.mpr h)
    exact (ih _ hvs).trans (recomputeBand_image_ne u r e hv)

theorem newImage_eq_retaken (s : State) (u : UnitNo) : newImage s u = retaken s.tbs (s.unit u).profile (s.image u) :=
  recomputed_eq_retaken s u _

/-- A unit's new image depends on the tables and its own image alone. -/
theorem newImage_congr {s t : State} {u : UnitNo} (tbs : t.tbs = s.tbs) (image : t.image u = s.image u) :
    newImage t u = newImage s u := by
  rw [newImage_eq_retaken, newImage_eq_retaken, State.unit, State.unit, tbs, image]

theorem recomputeAll_image (r : Option (Fin 12)) {us : List UnitNo} (distinct : us.Nodup) (e : Ev) {v : UnitNo}
    (h : v ∈ us) : (recomputeAll r us e).s.image v = newImage e.s v := by
  induction us generalizing e with
  | nil => cases h
  | cons u us ih =>
    obtain ⟨fresh, distinct⟩ := List.nodup_cons.mp distinct
    rw [recomputeAll_cons]
    by_cases hv : v = u
    · subst hv
      rw [recomputeAll_image_ne r _ fresh, recomputeBand_image]
    · rw [ih distinct _ ((List.mem_cons.mp h).resolve_left hv)]
      exact newImage_congr (recomputeBand_bandFrame u r e).leaves.tbs (recomputeBand_image_ne u r e hv)

/-- A unit's band depends on the tables and its image alone. -/
theorem bandOf_congr {s t : State} {u : UnitNo} (tbs : t.tbs = s.tbs) (image : t.image u = s.image u) :
    t.bandOf u = s.bandOf u := by
  unfold State.bandOf
  rw [image]
  simp only [State.unit, tbs]

/-- What the recomputation of these units' bands comes to, with the resources agreeing with the sequencers. -/
structure Recomputed (r : Option (Fin 12)) (us : List UnitNo) (e f : Ev) : Prop where
  held      : ResourcesHeld f.s
  settles   : Settles e f
  changed   : ∀ u ∈ us, TakesChange e.s u r → ChangeTaken e.s f.s u
  unchanged : ∀ u, u ∉ us ∨ ¬TakesChange e.s u r → Aside u e.s f.s

theorem takesChange_congr {s t : State} {u : UnitNo} {r : Option (Fin 12)} (tbs : t.tbs = s.tbs)
    (image : t.image u = s.image u) : TakesChange t u r ↔ TakesChange s u r := by
  unfold TakesChange
  rw [newImage_congr tbs image, image]

theorem recomputeAll_recomputed (r : Option (Fin 12)) {us : List UnitNo} (distinct : us.Nodup) {e : Ev}
    (hd : e.due = []) (h : ResourcesHeld e.s) : Recomputed r us e (recomputeAll r us e) := by
  induction us generalizing e with
  | nil => exact ⟨h, .refl e, fun _ k => (nomatch k), fun u _ => .refl u e.s⟩
  | cons u us ih =>
    obtain ⟨fresh, distinct⟩ := List.nodup_cons.mp distinct
    have hd' : (recomputeBand u r e).due = [] := (recomputeBand_due u r e).trans hd
    have k := ih distinct hd' (recomputeBand_held hd h)
    have step := (recomputeBand_bandFrame u r e).leaves.tbs
    have rest := (recomputeAll_bandFrame r us (recomputeBand u r e)).leaves.tbs
    have same {v : UnitNo} (hv : v ≠ u) : TakesChange (recomputeBand u r e).s v r ↔ TakesChange e.s v r :=
      takesChange_congr step (recomputeBand_image_ne u r e hv)
    have after := k.unchanged u (.inl fresh)
    refine ⟨k.held, (recomputeBand_settles hd h).trans k.settles, fun v hv hc => ?_, fun v hv => ?_⟩
    · by_cases hvu : v = u
      · subst hvu
        exact (recomputeBand_taken hd h hc).after after (by rw [State.unit, step]; rfl)
          (bandOf_congr rest (recomputeAll_image_ne r _ fresh)) k.held
      · refine (k.changed v ((List.mem_cons.mp hv).resolve_left hvu) ((same hvu).mpr hc)).before
          (recomputeBand_aside hd h hvu) ?_
        rw [State.unit, rest]
        rfl
    · by_cases hvu : v = u
      · subst hvu
        exact (recomputeBand_unchanged (hv.resolve_left (not_not.mpr List.mem_cons_self))).trans after
      · refine (recomputeBand_aside hd h hvu).trans (k.unchanged v (hv.imp ?_ (mt (same hvu).mp)))
        exact fun hn hm => hn (List.mem_cons_of_mem _ hm)

end Sys2Proof.Machine
end

section
/-! The band changes of an event do not read the standing order's state: with another state they come to the same, but for
that state (R35, R36, R85). -/

namespace Sys2Proof.Machine

/-- The event with another state of the standing order. -/
def Ev.orderIs (x : OrderState) (e : Ev) : Ev := e.map (setOrderState x)

section
variable (x : OrderState) (u : UnitNo)

-- Reports and setpoints -----------------------------------------------------------------------------------

theorem pushReport_orderIs (r : Report) (s : State) :
    pushReport r (setOrderState x s) = setOrderState x (pushReport r s) := by
  unfold pushReport
  by_cases h : s.rpb.queue.length < Config.reportCapacity
  · rw [if_pos h, if_pos (show (setOrderState x s).rpb.queue.length < Config.reportCapacity from h)]
    rfl
  · rw [if_neg h, if_neg (show ¬(setOrderState x s).rpb.queue.length < Config.reportCapacity from h)]
    rfl

theorem reclampSetpoint_orderIs (s : State) :
    reclampSetpoint u (setOrderState x s) = setOrderState x (reclampSetpoint u s) := by
  by_cases hn : (s.seq u).state = .gOn
  · by_cases hb : ∃ b, s.bandOf u = some b ∧ b.turb = true
    · obtain ⟨b, hb, ht⟩ := hb
      rw [reclampSetpoint_turbine hn hb ht, reclampSetpoint_turbine (s := setOrderState x s) hn hb ht]
      rfl
    · rw [reclampSetpoint_noTurbine hn hb, reclampSetpoint_noTurbine (s := setOrderState x s) hn hb]
      rfl
  · rw [reclampSetpoint_other hn, reclampSetpoint_other (s := setOrderState x s) hn]

theorem reexamine_orderIs (e : Ev) : reexamine u (e.orderIs x) = (reexamine u e).orderIs x := by
  by_cases h : reexamined e.s u ≠ e.s.entry u ∧ e.s.assignOf u = .manual
  · rw [reexamine_reported h, reexamine_reported (e := e.orderIs x) h]
    exact congrArg (fun t : State => ({ s := t, trig := e.trig || true, settle := e.settle, due := e.due } : Ev))
      (pushReport_orderIs x _ (e.s.setEntry u (reexamined e.s u)))
  · rw [reexamine_quiet h, reexamine_quiet (e := e.orderIs x) h]
    rfl

theorem rewritten_orderIs (e : Ev) : rewritten u (e.orderIs x) = (rewritten u e).orderIs x := by
  unfold rewritten
  rw [reexamine_orderIs]
  exact congrArg (fun s => ({ (reexamine u e) with s := s } : Ev)) (reclampSetpoint_orderIs x u _)

-- Entering a state ----------------------------------------------------------------------------------------

theorem moveTo_orderIs (n : SeqState) (e : Ev) : moveTo u n (e.orderIs x) = (moveTo u n e).orderIs x := by
  have moved (t : State) : driveAlert (setOrderState x t) = setOrderState x (driveAlert t) := rfl
  have inner := apply_ite (setOrderState x) ((e.s.seq u).state = .gOn)
    ((e.s.setSeq u ((e.s.seq u).leaveFor n)).setRamp u .idle) (e.s.setSeq u ((e.s.seq u).leaveFor n))
  exact congrArg (fun t : State => ({ s := t, trig := e.trig, settle := e.settle || n.stable, due := e.due } : Ev))
    ((congrArg driveAlert inner.symm).trans (moved _))

theorem enterTimed_orderIs (n : SeqState) (e : Ev) : enterTimed u n (e.orderIs x) = (enterTimed u n e).orderIs x := by
  unfold enterTimed
  rw [moveTo_orderIs]
  cases n.command <;> rfl

-- Locks and the converter -----------------------------------------------------------------------------------

theorem grantLock_orderIs (e : Ev) : grantLock u (e.orderIs x) = (grantLock u e).orderIs x := by
  rw [grantLock_eq, grantLock_eq]
  exact enterTimed_orderIs x u _ e

theorem requestLock_orderIs (e : Ev) : requestLock u (e.orderIs x) = (requestLock u e).orderIs x := by
  let w := (e.s.unit u).waterway
  let l := e.s.pra.locks.get w
  unfold requestLock
  dsimp only
  cases h : (e.s.pra.locks.get (e.s.unit u).waterway).holder with
  | none =>
    rw [show ((e.orderIs x).s.pra.locks.get ((e.orderIs x).s.unit u).waterway).holder = none from h]
    exact grantLock_orderIs x u (e.map fun s => s.setLock w { l with holder := some u })
  | some v =>
    rw [show ((e.orderIs x).s.pra.locks.get ((e.orderIs x).s.unit u).waterway).holder = some v from h]
    rfl

theorem releaseLock_orderIs (e : Ev) : releaseLock u (e.orderIs x) = (releaseLock u e).orderIs x := by
  by_cases h : (e.s.lockOf u).holder = some u
  · rw [releaseLock_of_holder h, releaseLock_of_holder (e := e.orderIs x) h]
    show (match (e.s.lockOf u).waiters.head? with
      | none => _
      | some v => _) = _
    cases (e.s.lockOf u).waiters.head? with
    | none => rfl
    | some v => exact enterTimed_orderIs x v _ (e.map fun s => s.setLock (e.s.unit u).waterway (e.s.lockOf u).passedOn)
  · refine (if_neg h).trans (congrArg (Ev.orderIs x) ?_)
    exact (if_neg h).symm

theorem endGrant_orderIs (e : Ev) : endGrant u (e.orderIs x) = (endGrant u e).orderIs x := by
  by_cases h : HoldsGrant u e.s
  · rw [endGrant_of_holder h, endGrant_of_holder (e := e.orderIs x) h]
    rfl
  · rw [endGrant_of_not h, endGrant_of_not (e := e.orderIs x) h]

theorem leaving_orderIs (e : Ev) : (e.orderIs x).leaving u = (e.leaving u).orderIs x := by
  unfold Ev.leaving Ev.stopping
  rw [enterTimed_orderIs]
  rfl

theorem enterStopping_orderIs (e : Ev) : enterStopping u (e.orderIs x) = (enterStopping u e).orderIs x := by
  show endGrant u (releaseLock u ((e.orderIs x).leaving u)) = (endGrant u (releaseLock u (e.leaving u))).orderIs x
  rw [leaving_orderIs, releaseLock_orderIs, endGrant_orderIs]

theorem enterLockwait_orderIs (n : SeqState) (o : Origin) (e : Ev) :
    enterLockwait u n o (e.orderIs x) = (enterLockwait u n o e).orderIs x := by
  unfold enterLockwait
  rw [enterTimed_orderIs]
  exact requestLock_orderIs x u ((enterTimed u n e).setSeq u fun q => { q with origin := o })

-- Acting --------------------------------------------------------------------------------------------------

theorem lingerOrStop_orderIs (e : Ev) : lingerOrStop u (e.orderIs x) = (lingerOrStop u e).orderIs x := by
  unfold lingerOrStop
  rw [show mayLinger u (e.orderIs x).s = mayLinger u e.s from rfl, enterStopping_orderIs, apply_ite (Ev.orderIs x)]
  rfl

theorem actStable_orderIs (e : Ev) : actStable u (e.orderIs x) = (actStable u e).orderIs x := by
  have free : freeToStart u (e.orderIs x).s = freeToStart u e.s := rfl
  have may : mayLinger u (e.orderIs x).s = mayLinger u e.s := rfl
  have still : stopLinger u (e.orderIs x) = (stopLinger u e).orderIs x := rfl
  unfold actStable
  rw [show (e.orderIs x).state u = e.state u from rfl,
    show ((e.orderIs x).s.entry u).mode = (e.s.entry u).mode from rfl]
  split <;> simp only [enterTimed_orderIs, enterStopping_orderIs, enterLockwait_orderIs, lingerOrStop_orderIs,
    still, free, may, apply_ite (Ev.orderIs x)]

theorem returnToOrigin_orderIs (c : Cause) (e : Ev) :
    returnToOrigin u c (e.orderIs x) = (returnToOrigin u c e).orderIs x := by
  have back : (e.orderIs x).returned u = (e.returned u).orderIs x := moveTo_orderIs x u _ (leaveWaits u e)
  rw [returnToOrigin_eq, returnToOrigin_eq, back]
  exact congrArg (fun t : State => ({ (e.returned u) with s := t } : Ev)) (pushReport_orderIs x _ (e.returned u).s)

theorem stopWithReport_orderIs (c : Cause) (e : Ev) :
    stopWithReport u c (e.orderIs x) = (stopWithReport u c e).orderIs x := by
  unfold stopWithReport
  rw [enterStopping_orderIs]
  exact congrArg (fun t : State => ({ (enterStopping u e) with s := t } : Ev))
    (pushReport_orderIs x _ (enterStopping u e).s)

theorem act_orderIs (e : Ev) : act u (e.orderIs x) = (act u e).orderIs x := by
  unfold act
  dsimp only
  rw [show (e.orderIs x).state u = e.state u from rfl, show (e.orderIs x).s.seq u = e.s.seq u from rfl,
    show (e.orderIs x).s.entry u = e.s.entry u from rfl, actStable_orderIs, returnToOrigin_orderIs, actStable_orderIs,
    stopWithReport_orderIs]
  simp only [apply_ite (Ev.orderIs x)]

theorem bandChange_orderIs (e : Ev) : bandChange u (e.orderIs x) = (bandChange u e).orderIs x := by
  have w := rewritten_orderIs x u e
  by_cases h : ((rewritten u e).s.entry u).mode = (e.s.entry u).mode ∨ u ∈ e.due
  · have h' : ((rewritten u (e.orderIs x)).s.entry u).mode = ((e.orderIs x).s.entry u).mode ∨ u ∈ (e.orderIs x).due := by
      rw [w]
      exact h
    rw [bandChange_mode h, bandChange_mode h', w]
    rfl
  · have h' : ¬(((rewritten u (e.orderIs x)).s.entry u).mode = ((e.orderIs x).s.entry u).mode ∨
        u ∈ (e.orderIs x).due) := by
      rw [w]
      exact h
    rw [bandChange_acts h, bandChange_acts h', w, act_orderIs]
    rfl

theorem recomputeBand_orderIs (r : Option (Fin 12)) (e : Ev) :
    recomputeBand u r (e.orderIs x) = (recomputeBand u r e).orderIs x := by
  by_cases h : TakesChange e.s u r
  · rw [recomputeBand_change h, recomputeBand_change (e := e.orderIs x) h]
    exact bandChange_orderIs x u (e.reread u)
  · rw [recomputeBand_keep h, recomputeBand_keep (e := e.orderIs x) h]
    rfl

theorem recomputeAll_orderIs (r : Option (Fin 12)) (us : List UnitNo) (e : Ev) :
    recomputeAll r us (e.orderIs x) = (recomputeAll r us e).orderIs x := by
  induction us generalizing e with
  | nil => rfl
  | cons u us ih => rw [recomputeAll_cons, recomputeBand_orderIs, ih, recomputeAll_cons]

end

end Sys2Proof.Machine
end

section
/-! A stored PROFILE or BAND write: the bands of the profile's units taken at once, their band changes, and the run under a
standing order (R20, R21, R30, R32, R35, R36, R85). -/

namespace Sys2Proof.Machine

/-- An event that owes no action and meets no standing order ends as it stands. -/
theorem closeEvent_noOrder {e : Ev} (hd : e.due = []) (ho : e.s.orderStands = false) : closeEvent e = e.s := by
  have settling : closeSettling e = e.s := by
    unfold closeSettling settleCheck
    split
    · refine if_neg fun k => ?_
      rw [State.orderStands, k.1, k.2.1] at ho
      cases ho
    · rfl
  unfold closeEvent
  rw [if_neg (by rw [ho, Bool.and_false]; decide)]
  show closeSettling (UnitNo.all.foldl (actTurn e.s.alc.entries) e) = e.s
  rw [foldl_actTurn_of_notDue UnitNo.all fun u _ => by rw [hd]; exact List.not_mem_nil, settling]

-- The event of a stored write (R21, R35, R36) ---------------------------------------------------------------

/-- The state with the contents stored and the write answered. -/
def storedContents (tbs : Tbs) (a : Report) (s : State) : State := ({ s.withLinkUp .up with tbs := tbs } : State).reported a

/-- The event with the bands of the profile's units recomputed. -/
def contentsEvent (tbs : Tbs) (a : Report) (p : Fin 4) (r : Option (Fin 12)) (s : State) : Ev :=
  recomputeAll r (unitsOfProfile (storedContents tbs a s) p) (.start (storedContents tbs a s))

/-- The state that the write leaves. -/
def afterContents (tbs : Tbs) (a : Report) (p : Fin 4) (r : Option (Fin 12)) (s : State) : State :=
  closeEvent ((contentsEvent tbs a p r s).trigger true)

section
variable {s : State} {tbs : Tbs} (a : Report) (p : Fin 4) (r : Option (Fin 12))

theorem storedContents_eq (s : State) (tbs : Tbs) : storedContents tbs a s =
    { s.withLinkUp .up with tbs := tbs, rpb := (storedContents tbs a s).rpb } := reported_eq _ a

theorem storedContents_dse : (storedContents tbs a s).dse = s.dse := by rw [storedContents_eq]; rfl

theorem storedContents_seq (u : UnitNo) : (storedContents tbs a s).seq u = s.seq u := by rw [storedContents_eq]; rfl

theorem storedContents_image (u : UnitNo) : (storedContents tbs a s).image u = s.image u := by
  rw [storedContents_eq]; rfl

theorem storedContents_tbs : (storedContents tbs a s).tbs = tbs := by rw [storedContents_eq]

theorem storedContents_orderIs (x : OrderState) :
    storedContents tbs a (setOrderState x s) = setOrderState x (storedContents tbs a s) := by
  unfold storedContents
  rw [← pushReport_eq_reported, ← pushReport_eq_reported]
  exact pushReport_orderIs x a { s.withLinkUp .up with tbs := tbs }

theorem contentsEvent_orderIs (x : OrderState) :
    contentsEvent tbs a p r (setOrderState x s) = (contentsEvent tbs a p r s).orderIs x := by
  unfold contentsEvent
  rw [storedContents_orderIs]
  exact recomputeAll_orderIs x r _ (.start (storedContents tbs a s))

theorem contentsEvent_frame : BandFrame (storedContents tbs a s) (contentsEvent tbs a p r s).s :=
  recomputeAll_bandFrame r _ (.start (storedContents tbs a s))

theorem contentsEvent_due : (contentsEvent tbs a p r s).due = [] :=
  recomputeAll_due r _ (.start (storedContents tbs a s))

theorem contentsEvent_dse : (contentsEvent tbs a p r s).s.dse = s.dse :=
  (contentsEvent_frame a p r).dse.trans (storedContents_dse a)

theorem contentsEvent_orderStands : (contentsEvent tbs a p r s).s.orderStands = s.orderStands := by
  rw [State.orderStands, contentsEvent_dse, State.orderStands]

theorem afterContents_noOrder (h : s.orderStands = false) :
    afterContents tbs a p r s = (contentsEvent tbs a p r s).s :=
  closeEvent_noOrder (e := (contentsEvent tbs a p r s).trigger true) (contentsEvent_due a p r)
    ((contentsEvent_orderStands a p r).trans h)

theorem storedContents_unit (hu : tbs.units = s.tbs.units) (u : UnitNo) :
    (storedContents tbs a s).unit u = s.unit u := by
  rw [State.unit, storedContents_tbs, hu, State.unit]

theorem mem_unitsOfProfile (s : State) (u : UnitNo) : u ∈ unitsOfProfile s p ↔
    (s.unit u).present = true ∧ (s.unit u).profile = p := by
  simp [unitsOfProfile, UnitNo.mem_all]

theorem mem_contentsUnits (hu : tbs.units = s.tbs.units) (u : UnitNo) :
    u ∈ unitsOfProfile (storedContents tbs a s) p ↔ (s.unit u).present = true ∧ (s.unit u).profile = p := by
  rw [mem_unitsOfProfile, storedContents_unit a hu]

theorem unitsOfProfile_nodup (s : State) : (unitsOfProfile s p).Nodup := (by decide : UnitNo.all.Nodup).filter _

/-- The images after the write. -/
theorem afterContents_image (hu : tbs.units = s.tbs.units) (u : UnitNo) : (afterContents tbs a p r s).image u =
    if (s.unit u).present = true ∧ (s.unit u).profile = p then retaken tbs p (s.image u) else s.image u := by
  have closed : (afterContents tbs a p r s).image u = (contentsEvent tbs a p r s).s.image u :=
    congrArg (fun x : Uib => x.images.get u) (closeEvent_frame _).uib
  have member := mem_contentsUnits a p hu u
  rw [closed]
  by_cases h : u ∈ unitsOfProfile (storedContents tbs a s) p
  · rw [if_pos (member.mp h)]
    refine (recomputeAll_image r (unitsOfProfile_nodup p _) _ h).trans ?_
    show newImage (storedContents tbs a s) u = _
    rw [newImage_eq_retaken, storedContents_tbs, storedContents_image, storedContents_unit a hu,
      (member.mp h).2]
  · rw [if_neg (mt member.mpr h)]
    exact (recomputeAll_image_ne r _ h).trans (storedContents_image a u)

theorem afterContents_leaves : LeavesSetting { s.withLinkUp .up with tbs := tbs } (afterContents tbs a p r s) :=
  ((reported_event _ a).leavesSetting.trans (contentsEvent_frame a p r).leaves).trans
    (closeEvent_frame ((contentsEvent tbs a p r s).trigger true)).leavesSetting

theorem afterContents_engine : (afterContents tbs a p r s).dse.engine = s.dse.engine := by
  have frame := (closeEvent_frame ((contentsEvent tbs a p r s).trigger true)).dse
  rw [afterContents, frame]
  show (contentsEvent tbs a p r s).s.dse.engine = _
  rw [contentsEvent_dse]

theorem afterContents_order : (afterContents tbs a p r s).dse.standing.order = s.dse.standing.order :=
  (closeEvent_order _).trans (congrArg (fun d : Dse => d.standing.order) (contentsEvent_dse a p r))

theorem afterContents_queue (room : ReportRoom 1 s) :
    ∃ rs, (afterContents tbs a p r s).rpb.queue = s.rpb.queue ++ a :: rs := by
  obtain ⟨rs, hrs⟩ := (contentsEvent_frame a p r).queue (a := storedContents tbs a s)
  obtain ⟨rs', hrs'⟩ := (closeEvent_frame ((contentsEvent tbs a p r s).trigger true)).queue
  refine ⟨rs ++ rs', hrs'.trans ?_⟩
  show (contentsEvent tbs a p r s).s.rpb.queue ++ rs' = _
  rw [hrs, storedContents, reported_room { s.withLinkUp .up with tbs := tbs } a room]
  simp [State.withLinkUp]

-- Where no order stands (R35) -------------------------------------------------------------------------------

theorem ResourcesAgree.storedContents (h : ResourcesAgree s) (hu : tbs.units = s.tbs.units) :
    ResourcesHeld (storedContents tbs a s) :=
  ((h.withLinkUp .up).held.withTables hu).reported a

theorem contentsEvent_recomputed (h : ResourcesAgree s) (hu : tbs.units = s.tbs.units) :
    Recomputed r (unitsOfProfile (storedContents tbs a s) p) (.start (storedContents tbs a s))
      (contentsEvent tbs a p r s) :=
  recomputeAll_recomputed r (unitsOfProfile_nodup p _) rfl (h.storedContents a hu)

/-- A band change from the state with the contents stored is one from the state before. -/
theorem BandChangeTaken.ofStored {t : State} {u : UnitNo} (h : BandChangeTaken (storedContents tbs a s) t u)
    (hu : tbs.units = s.tbs.units) : BandChangeTaken s t u := by
  have unit := storedContents_unit a hu u
  unfold BandChangeTaken at h ⊢
  rw [unit] at h
  rw [storedContents_eq] at h
  exact h

/-- The units after a write that no order stands at: those whose band changed, and the others (R35, R36). -/
theorem contents_taken (ho : s.orderStands = false) (h : ResourcesAgree s) (hu : tbs.units = s.tbs.units) :
    ContentsTaken s (afterContents tbs a p r s) p r := by
  have frame := contentsEvent_frame (s := s) (tbs := tbs) a p r
  obtain ⟨-, -, changed, unchanged⟩ := contentsEvent_recomputed a p r h hu
  rw [afterContents_noOrder a p r ho]
  refine ⟨contentsEvent_dse a p r, frame.summary.trans ?_, fun u => ?_⟩
  · rw [storedContents_eq]
    rfl
  have member := mem_contentsUnits (s := s) a p hu u
  have takes (hm : u ∈ unitsOfProfile (storedContents tbs a s) p) : TakesChange (storedContents tbs a s) u r ↔
      (((contentsEvent tbs a p r s).s.image u).band ≠ (s.image u).band ∨
        ∃ k, r = some k ∧ ((contentsEvent tbs a p r s).s.image u).band = .num k) := by
    have image : (contentsEvent tbs a p r s).s.image u = newImage (storedContents tbs a s) u :=
      recomputeAll_image r (unitsOfProfile_nodup p _) _ hm
    rw [image, TakesChange, storedContents_image]
  refine ⟨fun ⟨present, profile, change⟩ => ?_, fun keep => ?_⟩
  · have hm := member.mpr ⟨present, profile⟩
    exact (changed u hm ((takes hm).mpr change)).taken.ofStored a hu
  · have aside : Aside u (storedContents tbs a s) (contentsEvent tbs a p r s).s := by
      refine unchanged u (or_iff_not_imp_left.mpr fun hm change => ?_)
      obtain ⟨present, profile⟩ := member.mp (not_not.mp hm)
      exact keep ⟨present, profile, (takes (not_not.mp hm)).mp change⟩
    have entry := aside.entry
    have ramp := aside.ramp
    have seq := aside.seq_cases
    rw [State.lockOf, aside.unit, storedContents_unit a hu, storedContents_seq] at seq
    rw [storedContents_eq] at entry ramp
    exact ⟨entry, ramp, seq.imp_right fun k => ⟨k.1, k.2.1⟩⟩

-- Under a standing order (R36, R85) -------------------------------------------------------------------------

/-- The run that a write calls for under a standing order (R36, R82, R85, R89). -/
theorem contents_run (ho : s.orderStands = true) (hu : tbs.units = s.tbs.units) {i : Instr}
    (hexec : exec i (setOrderState .none s) = .next (afterContents tbs a p r (setOrderState .none s))) :
    RunAfter i s (afterContents tbs a p r s) := by
  let e := contentsEvent tbs a p r s
  have noOrder : (setOrderState .none s).orderStands = false := by
    rw [State.orderStands]
    exact Bool.and_false _
  have left : afterContents tbs a p r (setOrderState .none s) = setOrderState .none e.s := by
    rw [afterContents_noOrder a p r noOrder, contentsEvent_orderIs]
    rfl
  have state : ({ setOrderState .none e.s with dse := s.dse } : State) = e.s := by
    rw [← contentsEvent_dse (tbs := tbs) a p r]
    rfl
  have trig : ((e.trigger true).trig && (e.trigger true).s.orderStands) = true := by
    show ((e.trig || true) && e.s.orderStands) = true
    rw [contentsEvent_orderStands, ho, Bool.or_true]
    rfl
  have dse : e.s.dse = s.dse := contentsEvent_dse a p r
  refine ⟨setOrderState .none e.s, hexec.trans (congrArg _ left), ?_, ?_, fun room => ?_, fun agree => ?_⟩
  · rw [state, afterContents, closeEvent_alc, if_pos trig]
    rfl
  · have replanned := closeEvent_replanned trig
    unfold Replanned at replanned ⊢
    rw [show (e.trigger true).s.dse = s.dse from dse] at replanned
    exact replanned
  · have queue := closeEvent_replanned_queue trig room
    unfold replannedReport at queue ⊢
    rw [show (e.trigger true).s.dse = s.dse from dse] at queue
    exact queue
  · obtain ⟨held, settles, -, -⟩ := contentsEvent_recomputed a p r agree hu
    have start (u : UnitNo) : (Ev.start (storedContents tbs a s)).s.seq u = s.seq u := storedContents_seq a u
    refine ⟨e.settle = true, fun entered => ?_, fun ⟨u, hne, hs⟩ => ?_, ?_⟩
    · obtain begun | ⟨u, hw, hn⟩ := settles.returned entered
      · cases begun
      · refine ⟨u, fun k => ?_⟩
        rw [start] at hw
        rw [show (contentsEvent tbs a p r s).s.seq u = s.seq u from k, hw] at hn
        cases hn
    · exact settles.entered u (by rw [start]; exact hne) hs
    · rw [state]
      have ran := closeEvent_ranFrom (e := e.trigger true) held trig (entered := e.settle = true) Iff.rfl
      rw [show (e.trigger true).due = [] from contentsEvent_due a p r] at ran
      exact ran

end

-- The decisions (R20, R30, R32) -----------------------------------------------------------------------------

theorem unitsOfProfile_eq_nil {s : State} {p : Fin 4} (h : ∀ u, (s.unit u).present = true → (s.unit u).profile ≠ p) :
    unitsOfProfile s p = [] :=
  List.eq_nil_iff_forall_not_mem.mpr fun u hu =>
    have ⟨present, profile⟩ := (mem_unitsOfProfile p s u).mp hu
    h u present profile

theorem Profile.runFault_eq_none {n : Profile} (ht : ∀ x ∈ n.timeouts, x.2 ≠ 0) (hr : n.rate0 ≠ 0) (hb : n.bandCount ≠ 0) :
    n.runFault = none := by
  refine firstZero_eq_none.mpr fun x hx => ?_
  obtain hx | hx := List.mem_append.mp hx
  · exact ht x hx
  · rcases List.mem_pair.mp hx with rfl | rfl
    · exact hr
    · exact hb

theorem Profile.needed_sorted (n : Profile) :
    (n.timeouts ++ [(11, n.rate0), (16, n.bandCount)]).Pairwise fun (x y : Nat × Nat) => x.1 < y.1 := by
  simp [Profile.timeouts]

theorem decideProfile_stores {s : State} {index : Byte} {f : ProfileFields} {p : Fin 4} (hi : index.toNat = p.val)
    (h : let n := Profile.ofFields f
      s.dse.engine = .paused ∨ (∀ u, (s.unit u).present = true → (s.unit u).profile ≠ p) ∨
        (∀ x ∈ n.timeouts, x.2 ≠ 0) ∧ n.rate0 ≠ 0 ∧ n.bandCount ≠ 0) :
    decideProfile s index f = .store (profileClamped f) (p, .ofFields f) := by
  unfold decideProfile
  rw [profileIndex_val index p hi]
  dsimp only
  split
  · next k =>
    obtain paused | empty | ⟨ht, hr, hb⟩ := h
    · exact absurd paused k.1
    · exact absurd (unitsOfProfile_eq_nil empty) k.2
    · rw [Profile.runFault_eq_none ht hr hb]
  · rfl

theorem decideProfile_refuses {s : State} {index : Byte} {f : ProfileFields} {p : Fin 4} (hi : index.toNat = p.val)
    (he : s.dse.engine ≠ .paused) {u : UnitNo} (present : (s.unit u).present = true) (profile : (s.unit u).profile = p)
    {k : Nat} (fault : (Profile.ofFields f).runFault = some k) : decideProfile s index f = .refuse .invalid k := by
  unfold decideProfile
  rw [profileIndex_val index p hi]
  dsimp only
  rw [if_pos ⟨he, List.ne_nil_of_mem ((mem_unitsOfProfile p s u).mpr ⟨present, profile⟩)⟩, fault]

theorem decideBand_stores {profile band : Byte} {f : BandFields} {p : Fin 4} {k : Fin 12} (hp : profile.toNat = p.val)
    (hk : band.toNat = k.val) : decideBand profile band f = .store (bandClamped f) (p, k, .ofFields f) := by
  rw [decideBand, profileIndex_val profile p hp, bandIndex_val band k hk]

-- The writes ------------------------------------------------------------------------------------------------

theorem storeProfile_stored (p : Fin 4) (n : Profile) (s : State) (a : Report) :
    storeProfile p n ((s.withLinkUp .up).reported a) =
      afterContents { s.tbs with profiles := s.tbs.profiles.set p n } a p none s := by
  unfold storeProfile
  rw [reported_tbs, setTbs_reported]
  rfl

theorem storeBand_stored (p : Fin 4) (k : Fin 12) (n : Band) (s : State) (a : Report) :
    storeBand p k n ((s.withLinkUp .up).reported a) =
      afterContents { s.tbs with bands := s.tbs.bands.set p ((s.tbs.bands[p]).set k n) } a p (some k) s := by
  unfold storeBand
  rw [reported_tbs, setTbs_reported]
  rfl

/-- A PROFILE write that is stored is answered, and then has its effect (R21). -/
theorem profileWrite_stored {h : Hdr} {index : Byte} {f : ProfileFields} {s : State} {p : Fin 4}
    (hd : DeliveredToPart (cellProfileWrite h index f) s) (hg : s.tbs.gateOpen = true) (hi : index.toNat = p.val)
    (ok : let n := Profile.ofFields f
      s.dse.engine = .paused ∨ (∀ u, (s.unit u).present = true → (s.unit u).profile ≠ p) ∨
        (∀ x ∈ n.timeouts, x.2 ≠ 0) ∧ n.rate0 ≠ 0 ∧ n.bandCount ≠ 0) :
    exec (.profileWrite h index f) s = .next (afterContents { s.tbs with profiles := s.tbs.profiles.set p (.ofFields f) }
      (writeAnswer h tableProfile index 0 (if profileClamped f = 0 then .accepted else .clamped) (profileClamped f))
      p none s) := by
  refine (arriveUp_toPart (takeProfileWrite h index f) hd.1 hd.2.1).trans (congrArg Host.Outcome.next ?_)
  rw [takeProfileWrite, decideProfile_stores (s := s.withLinkUp .up) hi ok,
    takeWrite_store _ _ _ _ _ (s.withLinkUp .up) hg, pushReport_eq_reported]
  exact storeProfile_stored p _ s _

theorem profileWrite_refused {h : Hdr} {index : Byte} {f : ProfileFields} {s : State}
    (hd : DeliveredToPart (cellProfileWrite h index f) s) (hg : s.tbs.gateOpen = true) {code : MgtCode} {k : Nat}
    (refused : decideProfile (s.withLinkUp .up) index f = .refuse code k) : exec (.profileWrite h index f) s = .next
      ((s.withLinkUp .up).reported (writeAnswer h tableProfile index 0 code k)) := by
  refine (arriveUp_toPart (takeProfileWrite h index f) hd.1 hd.2.1).trans (congrArg Host.Outcome.next ?_)
  rw [takeProfileWrite, refused, takeWrite, pushReport_eq_reported]
  exact if_pos hg

/-- A BAND write is answered, and then has its effect (R21). -/
theorem bandWrite_stored {h : Hdr} {profile band : Byte} {f : BandFields} {pad : BitVec 72} {s : State} {p : Fin 4}
    {k : Fin 12} (hd : DeliveredToPart (cellBandWrite h profile band f pad) s) (hg : s.tbs.gateOpen = true)
    (hp : profile.toNat = p.val) (hk : band.toNat = k.val) :
    exec (.bandWrite h profile band f pad) s = .next (afterContents
      { s.tbs with bands := s.tbs.bands.set p ((s.tbs.bands[p]).set k (.ofFields f)) }
      (writeAnswer h tableBand profile band (if bandClamped f = 0 then .accepted else .clamped) (bandClamped f))
      p (some k) s) := by
  refine (arriveUp_toPart (takeBandWrite h profile band f) hd.1 hd.2.1).trans (congrArg Host.Outcome.next ?_)
  rw [takeBandWrite, decideBand_stores hp hk, takeWrite_store _ _ _ _ _ (s.withLinkUp .up) hg, pushReport_eq_reported]
  exact storeBand_stored p k _ s _

/-- Settles O23: the bands recomputed one after another, each band change set aside from the others' (`Aside`), and the
run from the same event with no order standing (`contentsEvent_orderIs`). -/
theorem profileAndBandWriteStored : Obligations.ProfileAndBandWriteStored := by
  refine ⟨?_, ?_, ?_⟩
  · intro h index f p s hd hg hi n tbs ok
    have units : tbs.units = s.tbs.units := rfl
    let a : Report :=
      writeAnswer h tableProfile index 0 (if profileClamped f = 0 then .accepted else .clamped) (profileClamped f)
    have free : exec (.profileWrite h index f) (setOrderState .none s) =
        .next (afterContents tbs a p none (setOrderState .none s)) :=
      profileWrite_stored (s := setOrderState .none s) hd hg hi ok
    exact ⟨afterContents tbs a p none s, profileWrite_stored hd hg hi ok, (afterContents_leaves a p none).tbs,
      afterContents_image a p none units, afterContents_leaves a p none, afterContents_engine a p none,
      afterContents_order a p none, fun ho agree => contents_taken a p none ho agree units,
      fun ho => contents_run a p none ho units free, afterContents_queue a p none⟩
  · intro h index f p u s hd hg hi he present profile n needed x hx zero first
    obtain ⟨k, v⟩ := x
    obtain rfl : v = 0 := zero
    have fault : n.runFault = some k := firstZero_eq_some n.needed_sorted hx first
    exact profileWrite_refused hd hg (decideProfile_refuses hi he present profile fault)
  · intro h profile band f pad p k s hd hg hp hk tbs
    have units : tbs.units = s.tbs.units := rfl
    let a : Report :=
      writeAnswer h tableBand profile band (if bandClamped f = 0 then .accepted else .clamped) (bandClamped f)
    have free : exec (.bandWrite h profile band f pad) (setOrderState .none s) =
        .next (afterContents tbs a p (some k) (setOrderState .none s)) :=
      bandWrite_stored (s := setOrderState .none s) hd hg hp hk
    exact ⟨afterContents tbs a p (some k) s, bandWrite_stored hd hg hp hk, (afterContents_leaves a p (some k)).tbs,
      afterContents_image a p (some k) units, afterContents_leaves a p (some k), afterContents_engine a p (some k),
      afterContents_order a p (some k), fun ho agree => contents_taken a p (some k) ho agree units,
      fun ho => contents_run a p (some k) ho units free, afterContents_queue a p (some k)⟩

end Sys2Proof.Machine
end

section
/-! UNIT_EVENTs and the flags behind them: what a departure clears and offers, what WATCH makes due, and the end of an
identity wait (R51 to R53, R55, R57, R185 to R187). -/

namespace Sys2Proof.Machine

-- A departure (R53, R187) ---------------------------------------------------------------------------------

/-- The unit has event flags set and no UNIT_EVENT waiting (R187). -/
def pendingUnit (s : State) (u : UnitNo) : Bool := (s.image u).anyEvent && !eventWaiting u s

theorem offerPending_room {s : State} {u : UnitNo} (h : pendingUnit s u = true) (room : s.rpb.queue.length < 16) :
    offerPending s u = s.setRpb { s.rpb with queue := s.rpb.queue ++ [unitEventOf u s] } := by
  refine (if_pos ?_).trans (pushReport_room _ _ room)
  rw [show ((s.image u).anyEvent && !eventWaiting u s) = true from h]
  exact decide_eq_true room

theorem offerPending_none {s : State} {u : UnitNo} (h : pendingUnit s u = true → 16 ≤ s.rpb.queue.length) :
    offerPending s u = s := by
  refine if_neg fun k => ?_
  obtain ⟨pending, room⟩ := Bool.and_eq_true_iff.mp k
  exact absurd (of_decide_eq_true room) (Nat.not_lt.mpr (h pending))

/-- A UNIT_EVENT queued for one unit leaves whether another is pending. -/
theorem pendingUnit_queued {s : State} {u v : UnitNo} (h : v ≠ u) :
    pendingUnit (s.setRpb { s.rpb with queue := s.rpb.queue ++ [unitEventOf u s] }) v = pendingUnit s v := by
  have other : (unitEventOf u s).isEventOf v = false := beq_eq_false_iff_ne.mpr h.symm
  show ((s.image v).anyEvent && !(s.rpb.queue ++ [unitEventOf u s]).any (Report.isEventOf v)) = _
  rw [List.any_append, List.any_cons, other, List.any_nil, Bool.or_false, Bool.or_false]
  rfl

/-- The pending units of a list take the places left in the queue, in the list's order (R187). -/
theorem foldl_offerPending {us : List UnitNo} (distinct : us.Nodup) {s : State} (bound : s.rpb.queue.length ≤ 16) :
    us.foldl offerPending s = s.setRpb { s.rpb with queue := s.rpb.queue ++
      ((us.filter (pendingUnit s)).take (16 - s.rpb.queue.length)).map fun u => unitEventOf u s } := by
  induction us generalizing s with
  | nil => simp [State.setRpb]
  | cons u us ih =>
    obtain ⟨apart, distinct⟩ := List.nodup_cons.mp distinct
    rw [List.foldl_cons]
    by_cases pending : pendingUnit s u = true
    · rw [List.filter_cons_of_pos pending]
      by_cases room : s.rpb.queue.length < 16
      · obtain ⟨k, places⟩ : ∃ k, 16 - s.rpb.queue.length = k + 1 := ⟨15 - s.rpb.queue.length, by omega⟩
        let t : State := s.setRpb { s.rpb with queue := s.rpb.queue ++ [unitEventOf u s] }
        have length : t.rpb.queue.length = s.rpb.queue.length + 1 := List.length_append
        have left : 16 - t.rpb.queue.length = k := by omega
        have same : us.filter (pendingUnit t) = us.filter (pendingUnit s) :=
          List.filter_congr fun v hv => pendingUnit_queued (ne_of_mem_of_not_mem hv apart)
        rw [offerPending_room pending room, ih distinct (s := t) (by omega), left, same, places, List.take_succ_cons,
          List.map_cons, List.append_cons]
        rfl
      · have full : 16 - s.rpb.queue.length = 0 := by omega
        rw [offerPending_none fun _ => Nat.not_lt.mp room, ih distinct bound, full, List.take_zero, List.take_zero]
    · rw [List.filter_cons_of_neg pending, offerPending_none fun k => absurd k pending, ih distinct bound]

/-- The image of a unit whose UNIT_EVENT has departed with these flags (R53). -/
def Image.cleared (i : Image) (ev : BitVec 8) (verify : Bool) : Image :=
  { i with events := i.events &&& ~~~ev, verifyEvent := i.verifyEvent && !verify }

/-- A unit's image after the departure of a report. -/
def Image.departed (i : Image) (u : UnitNo) : Report → Image
  | .unitEvent v ev verify => if v = u then i.cleared ev verify else i
  | _ => i

theorem clearDeparted_rpb (r : Report) (s : State) : (clearDeparted r s).rpb = s.rpb := by
  cases r <;> rfl

theorem clearDeparted_image (r : Report) (s : State) (u : UnitNo) :
    (clearDeparted r s).image u = (s.image u).departed u r := by
  cases r with
  | unitEvent v ev verify =>
    by_cases h : v = u
    · subst h
      exact (State.setImage_image_self _ _ _).trans (if_pos rfl).symm
    · exact (State.setImage_image_ne _ _ _ _ (Ne.symm h)).trans (if_neg h).symm
  | _ => rfl

/-- Settles O13: the departure clears the flags, and the pending units then take the places left one after another. -/
theorem departureClearsCarriedEvents : Obligations.DepartureClearsCarriedEvents := by
  intro r s bound cleared pending
  have rpb := clearDeparted_rpb r s
  have images : ∀ u, (clearDeparted r s).image u = cleared u := clearDeparted_image r s
  have offered : ∀ u, pendingUnit (clearDeparted r s) u = pending u := fun u => by
    unfold pendingUnit eventWaiting
    rw [images, rpb, List.not_any_eq_all_not]
    rfl
  have event : ∀ u, unitEventOf u (clearDeparted r s) = .unitEvent u (cleared u).events (cleared u).verifyEvent :=
    fun u => by rw [unitEventOf, images]
  have offers : afterDeparture r s = _ := foldl_offerPending (s := clearDeparted r s) (us := UnitNo.all) (by decide)
    (by rw [rpb]; exact bound)
  rw [offers]
  refine ⟨?_, images⟩
  show (clearDeparted r s).rpb.queue ++ _ = _
  rw [rpb, funext offered, funext event]
  rfl

-- Interlock flags set (R52, R186) -------------------------------------------------------------------------

/-- The unit's image with interlock event flags set. -/
def Image.flagged (i : Image) (ev : BitVec 8) : Image := { i with events := i.events ||| ev }

section
variable {u : UnitNo} {ev : BitVec 8} {s : State}

theorem raiseEvents_known (h : ev &&& ~~~(s.image u).events = 0) : raiseEvents u ev false s = s := if_pos ⟨h, rfl⟩

/-- Flags that were clear join the UNIT_EVENT that waits (R186). -/
theorem raiseEvents_waiting (h : ev &&& ~~~(s.image u).events ≠ 0) (w : eventWaiting u s = true) :
    raiseEvents u ev false s = (s.setImage u ((s.image u).flagged ev)).setRpb { s.rpb with
      queue := s.rpb.queue.map (Report.mergeEvent u (ev &&& ~~~(s.image u).events) false) } := by
  unfold raiseEvents
  dsimp only
  rw [if_neg fun k => h k.1, if_pos w, Bool.or_false]
  rfl

/-- Flags that were clear are reported in a UNIT_EVENT where none waits (R186). -/
theorem raiseEvents_new (h : ev &&& ~~~(s.image u).events ≠ 0) (w : eventWaiting u s = false) :
    raiseEvents u ev false s = (s.setImage u ((s.image u).flagged ev)).reported
      (.unitEvent u ((s.image u).events ||| ev) (s.image u).verifyEvent) := by
  unfold raiseEvents
  dsimp only
  rw [if_neg fun k => h k.1, if_neg (Bool.eq_false_iff.mp w), Bool.or_false, pushReport_eq_reported, unitEventOf,
    State.setImage_image_self]
  rfl

end

-- WATCH (R51) ---------------------------------------------------------------------------------------------

theorem setImage_reported (s : State) (r : Report) (u : UnitNo) (i : Image) :
    (s.reported r).setImage u i = (s.setImage u i).reported r := by
  unfold State.reported
  exact apply_ite (fun x : State => x.setImage u i) _ _ _

theorem setImage_setImage (s : State) (u : UnitNo) (i j : Image) : (s.setImage u i).setImage u j = s.setImage u j :=
  congrArg (fun x => ({ s with uib := { s.uib with images := x } } : State)) (PerUnit.set_set _ _ _ _)

/-- A report of another kind leaves whether a UNIT_EVENT waits. -/
theorem eventWaiting_reported (u : UnitNo) (s : State) {r : Report} (h : r.isEventOf u = false) :
    eventWaiting u (s.reported r) = eventWaiting u s := by
  unfold eventWaiting State.reported
  split
  · rw [List.any_append, List.any_cons, h, List.any_nil, Bool.or_false, Bool.or_false]
  · rfl

/-- Setting flags sets those of them that were clear. -/
theorem or_fresh (e ev : BitVec 8) : e ||| ev &&& ~~~e = e ||| ev := by
  ext k hk
  simp only [BitVec.getElem_or, BitVec.getElem_and, BitVec.getElem_not]
  cases e[k] <;> simp

/-- Flags that are set already change nothing. -/
theorem flagged_known {i : Image} {ev : BitVec 8} (h : ev &&& ~~~i.events = 0) : i.flagged ev = i := by
  unfold Image.flagged
  rw [← or_fresh, h]
  exact congrArg (fun e => { i with events := e }) BitVec.or_zero

theorem setImage_self (s : State) (u : UnitNo) : s.setImage u (s.image u) = s :=
  congrArg (fun x => ({ s with uib := { s.uib with images := x } } : State)) (PerUnit.set_get _ _)

theorem mergeEvent_flags (u v : UnitNo) (ev e : BitVec 8) (verify : Bool) :
    Report.mergeEvent u ev false (.unitEvent v e verify) =
      if v = u then .unitEvent v (e ||| ev) verify else .unitEvent v e verify := by
  rw [Report.mergeEvent, Bool.or_false]

theorem presentUnit_number {unit : Byte} {s : State} {u : UnitNo} (h : unit.toNat = u.number)
    (present : (s.unit u).present = true) : presentUnit unit s = some u := by
  rw [presentUnit, h, ofNumber_number, Option.filter_some, if_pos present]

theorem presentUnit_absent {unit : Byte} {s : State} {u : UnitNo} (h : unit.toNat = u.number)
    (absent : (s.unit u).present = false) : presentUnit unit s = none := by
  rw [presentUnit, h, ofNumber_number, Option.filter_some, if_neg (Bool.eq_false_iff.mp absent)]

theorem presentUnit_outside {unit : Byte} {s : State} (h : unit = 0 ∨ 6 < unit.toNat) : presentUnit unit s = none := by
  rw [presentUnit, ofNumber_eq_none (h.imp_left fun k => by rw [k]; rfl), Option.filter_none]

/-- Settles O36: the mask replaced and the answer queued, then the event flags of the active bits newly watched set. -/
theorem watchSetsMask : Obligations.WatchSetsMask := by
  intro h unit mask pad s delivered
  have taken : exec (.watch h unit mask pad) s = .next (takeWatch h unit mask (s.withLinkUp .up)) :=
    arriveUp_toPart _ delivered.1 delivered.2.1
  refine ⟨fun u number present => ?_, fun refused => ?_⟩
  · intro i fresh waits answered joined
    let ev : BitVec 8 := mask &&& ~~~i.watch &&& i.activeInterlocks
    let answer : Report := watchAnswer h unit .accepted 0
    let masked : State := ((s.withLinkUp .up).setImage u { i with watch := mask }).reported answer
    have take : takeWatch h unit mask (s.withLinkUp .up) = raiseEvents u ev false masked := by
      rw [takeWatch, presentUnit_number (s := s.withLinkUp .up) number present]
      exact congrArg (raiseEvents u ev false) (pushReport_eq_reported answer _)
    have image : masked.image u = { i with watch := mask } := by
      rw [State.image, reported_uib]
      exact State.setImage_image_self _ _ _
    have events : ev &&& ~~~(masked.image u).events = fresh := by rw [image]
    have flagged : masked.setImage u ((masked.image u).flagged ev) = answered := by
      rw [setImage_reported, setImage_setImage, image]
      show State.reported ((s.withLinkUp .up).setImage u { i with watch := mask, events := i.events ||| ev }) answer = _
      rw [← or_fresh]
      rfl
    have waiting : eventWaiting u masked = true ↔ waits := by
      rw [eventWaiting_reported _ _ rfl]
      exact List.any_eq_true
    rw [taken, take]
    refine ⟨fun none => ?_, fun some w => ?_, fun some w => ?_⟩
    · have clear := events.trans none
      rw [raiseEvents_known clear, ← flagged, flagged_known clear, setImage_self]
    · have merged : Report.mergeEvent u fresh false = joined := funext fun r => by
        cases r with
        | unitEvent v e verify => exact mergeEvent_flags u v fresh e verify
        | _ => rfl
      have rpb : masked.rpb = answered.rpb := by rw [← flagged, State.setImage_rpb]
      rw [raiseEvents_waiting (events ▸ some) (waiting.mpr w), flagged, events, merged, rpb]
      rfl
    · have report : (masked.image u).events ||| ev = i.events ||| fresh := by rw [← or_fresh, events, image]
      rw [raiseEvents_new (events ▸ some) (Bool.eq_false_iff.mpr (mt waiting.mp w)), flagged, report, image]
  · have none : presentUnit unit (s.withLinkUp .up) = .none := by
      obtain zero | above | ⟨u, number, absent⟩ := refused
      · exact presentUnit_outside (.inl zero)
      · exact presentUnit_outside (.inr above)
      · exact presentUnit_absent number absent
    rw [taken, takeWatch, none, pushReport_eq_reported]
    rfl

-- The identity wait (R55) ---------------------------------------------------------------------------------

/-- A command placed keeps the places of those that wait, and takes a new one where its slot had none (R9). -/
theorem placeIn_map_slot (w : Waiting) (q : List Waiting) : (placeIn w q).map Waiting.slot =
    if w.slot ∈ q.map Waiting.slot then q.map Waiting.slot else q.map Waiting.slot ++ [w.slot] := by
  have member : q.any (fun x => x.slot == w.slot) = true ↔ w.slot ∈ q.map Waiting.slot := by
    simp [List.any_eq_true, List.mem_map]
  have keeps : Waiting.slot ∘ (fun x => if x.slot = w.slot then w else x) = Waiting.slot := by
    funext x
    show (if x.slot = w.slot then w else x).slot = x.slot
    split
    · next h => exact h.symm
    · rfl
  by_cases h : w.slot ∈ q.map Waiting.slot
  · rw [placeIn, if_pos (member.mpr h), if_pos h, List.map_map, keeps]
  · rw [placeIn, if_neg (mt member.mp h), if_neg h, List.map_append]
    rfl

/-- Settles O49: another request placed, or the exchange concluded in ABSENT. -/
theorem identityWaitExpiry : Obligations.IdentityWaitExpiry := by
  intro u s held wait runs i
  have taken : exec (.identityWaitExpiry u) s = .next (identityWaitExpired u s) :=
    (event_free _ held).trans (congrArg Host.Outcome.next (if_pos ⟨runs, wait⟩))
  refine ⟨fun (count : (s.image u).identCount = 1 ∨ (s.image u).identCount = 2) => ⟨_, taken, ?_⟩,
    fun (count : (s.image u).identCount = 3) => ⟨_, taken, ?_⟩⟩
  · let j : Image := { i with identCount := i.identCount + 1, identTimer := some s.tbs.plant.identWait }
    let w : Waiting := { slot := .stage u, dest := (s.unit u).addr, cmd := .identReq }
    have again : identityWaitExpired u s = placeStage u .identReq (s.setImage u j) := if_pos (by omega)
    have cmds : (placeStage u .identReq (s.setImage u j)).lpu.cmds = placeIn w s.lpu.cmds := rfl
    rw [again, cmds]
    exact ⟨State.setImage_image_self s u j, fun v hv => State.setImage_image_ne s u j v hv, mem_placeIn_self w _,
      placeIn_map_slot w _, placeIn_others w _, rfl⟩
  · have absent : identityWaitExpired u s = concludeExchange u .absent s := if_neg (by omega)
    rw [absent]
    exact ⟨concludeExchange_image_self u _ s, fun v hv => concludeExchange_image_ne u _ s hv, concludeExchange_lpu u _ s,
      concludeExchange_dse u _ s, concludeExchange_seqs u _ s, concludeExchange_alc u _ s, concludeExchange_pra u _ s,
      concludeExchange_rmp u _ s, concludeExchange_leaves u _ s⟩

end Sys2Proof.Machine
end

section
/-! Head bands and debounced bits: the candidate band of a head with its region and judgement, and each bit of a taken
UNIT_STATUS against its run of cells (R43, R47, R48). -/

namespace Sys2Proof.Machine

-- The candidate band (R47) --------------------------------------------------------------------------------

/-- The last of an ascending list is its greatest member. -/
theorem getLast?_eq_some_iff_greatest {n : Nat} {l : List (Fin n)} (ascending : l.Pairwise (· < ·)) {k : Fin n} :
    l.getLast? = some k ↔ k ∈ l ∧ ∀ j ∈ l, j ≤ k := by
  have last {m : Fin n} (h : l.getLast? = some m) : m ∈ l ∧ ∀ j ∈ l, j ≤ m := by
    obtain ⟨before, rfl⟩ := List.getLast?_eq_some_iff.mp h
    refine ⟨by simp, fun j hj => ?_⟩
    obtain hj | hj := List.mem_append.mp hj
    · exact le_of_lt ((List.pairwise_append.mp ascending).2.2 j hj m (List.mem_singleton_self m))
    · exact le_of_eq (List.mem_singleton.mp hj)
  refine ⟨last, fun ⟨mem, greatest⟩ => ?_⟩
  obtain ⟨m, hm⟩ := Option.isSome_iff_exists.mp (List.getLast?_isSome.mpr (List.ne_nil_of_mem mem))
  obtain ⟨member, bound⟩ := last hm
  rw [hm, le_antisymm (greatest m member) (bound k mem)]

section
variable (bands : Vector Band 12) (count head : Nat)

/-- The bands in use whose lower bound is no greater than the head, in ascending order. -/
def reachedBands : List (Fin 12) :=
  bandNumbers.filter fun k => decide (k.val < count) && decide (bands[k].lower ≤ head)

theorem mem_reachedBands (k : Fin 12) : k ∈ reachedBands bands count head ↔ k.val < count ∧ bands[k].lower ≤ head := by
  have all : k ∈ bandNumbers := by revert k; decide
  simp [reachedBands, List.mem_filter, all]

theorem candidate_eq_some_iff (k : Fin 12) : candidate bands count head = some k ↔ k.val < count ∧
    bands[k].lower ≤ head ∧ ∀ j : Fin 12, k < j → j.val < count → head < bands[j].lower := by
  have ascending : (reachedBands bands count head).Pairwise (· < ·) := (by decide : bandNumbers.Pairwise (· < ·)).filter _
  refine (getLast?_eq_some_iff_greatest ascending).trans ?_
  rw [mem_reachedBands, and_assoc]
  refine and_congr_right fun _ => and_congr_right fun _ => forall_congr' fun j => ?_
  rw [mem_reachedBands]
  constructor
  · intro greatest above use
    by_contra reached
    exact absurd (greatest ⟨use, Nat.not_lt.mp reached⟩) (not_le.mpr above)
  · rintro unreached ⟨use, reached⟩
    by_contra above
    exact absurd (unreached (not_le.mp above) use) (Nat.not_lt.mpr reached)

theorem candidate_eq_none_iff :
    candidate bands count head = none ↔ ∀ k : Fin 12, k.val < count → head < bands[k].lower := by
  refine List.getLast?_eq_none_iff.trans (List.eq_nil_iff_forall_not_mem.trans (forall_congr' fun k => ?_))
  refine (not_congr (mem_reachedBands bands count head k)).trans ?_
  rw [not_and, Nat.not_le]

-- Its region (R47) ----------------------------------------------------------------------------------------

theorem candidateRegion_top {k : Fin 12} (h : k.val + 1 = count) : (candidateRegion bands count (some k)).hi = none :=
  if_neg (by omega)

theorem candidateRegion_below {k j : Fin 12} (h : j.val = k.val + 1) (use : j.val < count) :
    (candidateRegion bands count (some k)).hi = some bands[j].lower := by
  refine (if_pos (h ▸ use)).trans ?_
  rw [← h, getElem?_pos bands j.val j.isLt]
  rfl

theorem candidateRegion_none (h : 0 < count) : (candidateRegion bands count none).hi = some bands[(0 : Fin 12)].lower :=
  if_neg (Nat.ne_of_gt h)

/-- The candidate's region contains the head. -/
theorem candidateRegion_contains (bound : count ≤ 12) : let r := candidateRegion bands count (candidate bands count head)
    r.lo ≤ head ∧ ∀ hi, r.hi = some hi → head < hi := by
  dsimp only
  cases c : candidate bands count head with
  | none =>
    have unreached := (candidate_eq_none_iff bands count head).mp c
    refine ⟨Nat.zero_le _, fun hi h => ?_⟩
    by_cases use : 0 < count
    · rw [candidateRegion_none bands count use] at h
      obtain rfl := Option.some.inj h
      exact unreached 0 use
    · rw [show (candidateRegion bands count none).hi = none from if_pos (by omega)] at h
      cases h
  | some k =>
    obtain ⟨use, reached, unreached⟩ := (candidate_eq_some_iff bands count head k).mp c
    refine ⟨reached, fun hi h => ?_⟩
    by_cases top : k.val + 1 = count
    · rw [candidateRegion_top bands count top] at h
      cases h
    · have next : k.val + 1 < count := by omega
      let j : Fin 12 := ⟨k.val + 1, by omega⟩
      rw [candidateRegion_below bands count (j := j) rfl next] at h
      obtain rfl := Option.some.inj h
      exact unreached j (Nat.lt_succ_self _) next

end

-- Its judgement (R48) -------------------------------------------------------------------------------------

/-- The lower bound below the band's is less than its own. -/
theorem lowerAscends_iff (bands : Vector Band 12) (k : Fin 12) :
    (k.val == 0 || (bands[k.val - 1]?).any fun below => decide (below.lower < bands[k].lower)) = true ↔
      ∀ j : Fin 12, j.val + 1 = k.val → bands[j].lower < bands[k].lower := by
  by_cases zero : k.val = 0
  · exact iff_of_true (by rw [beq_iff_eq.mpr zero, Bool.true_or]) fun j hj => absurd hj (by omega)
  have below : k.val - 1 < 12 := by omega
  rw [beq_eq_false_iff_ne.mpr zero, Bool.false_or, getElem?_pos bands _ below, Option.any_some, decide_eq_true_iff]
  constructor
  · intro h j hj
    obtain rfl : j = ⟨k.val - 1, below⟩ := Fin.ext (show j.val = k.val - 1 by omega)
    exact h
  · exact fun h => h ⟨k.val - 1, below⟩ (by show k.val - 1 + 1 = k.val; omega)

/-- The judgement's check, as R48 words it. -/
theorem bandPasses_iff (bands : Vector Band 12) (k : Fin 12) : bandPasses bands k = true ↔
    (∀ j : Fin 12, j.val + 1 = k.val → bands[j].lower < bands[k].lower) ∧ bands[k].gmin ≤ bands[k].gmax ∧
      (bands[k].rzlo ≠ 0 ∨ bands[k].rzhi ≠ 0 →
        bands[k].gmin < bands[k].rzlo ∧ bands[k].rzlo < bands[k].rzhi ∧ bands[k].rzhi < bands[k].gmax) := by
  unfold bandPasses
  dsimp only
  rw [Bool.and_eq_true, Bool.and_eq_true, lowerAscends_iff, and_assoc, decide_eq_true_iff, ← hasZone_iff]
  simp [and_assoc, or_iff_not_imp_left]

/-- Settles O45: the candidate, its region and its judgement, each as its rule words it. -/
theorem bandCandidateAndJudgement : Obligations.BandCandidateAndJudgement := by
  intro bands count head bound c r
  obtain ⟨low, high⟩ := candidateRegion_contains bands count head bound
  refine ⟨candidate_eq_some_iff bands count head, candidate_eq_none_iff bands count head, fun k hk => ?_, fun hc => ?_,
    low, high, rfl, fun hc => by rw [hc]; rfl, fun k hk => ?_⟩
  · have region : r = candidateRegion bands count (some k) := congrArg (candidateRegion bands count) hk
    rw [region]
    exact ⟨rfl, candidateRegion_top bands count, fun j => candidateRegion_below bands count⟩
  · have region : r = candidateRegion bands count none := congrArg (candidateRegion bands count) hc
    rw [region]
    exact ⟨rfl, fun unused => if_pos unused, candidateRegion_none bands count⟩
  · rw [hk]
    exact ⟨fun passes => if_pos ((bandPasses_iff bands k).mpr passes),
      fun fails => if_neg (mt (bandPasses_iff bands k).mp fails)⟩

-- Debounced bits (R43) ------------------------------------------------------------------------------------

/-- The three cases of a taken bit, and the bound on its run count (R43). -/
theorem Debounced.take_cases (d : Nat) (reported : Bool) (b : Debounced) :
    (reported = b.val → b.take d reported = { val := b.val, run := 0 }) ∧
    (reported ≠ b.val → d ≤ b.run + 1 → b.take d reported = { val := reported, run := 0 }) ∧
    (reported ≠ b.val → b.run + 1 < d → b.take d reported = { val := b.val, run := b.run + 1 }) ∧
    (d ≤ 4 → b.run ≤ 3 → (b.take d reported).run ≤ 3) := by
  have same (h : reported = b.val) : b.take d reported = { val := b.val, run := 0 } := if_pos h
  have changes (h : reported ≠ b.val) (ripe : d ≤ b.run + 1) : b.take d reported = { val := reported, run := 0 } :=
    (if_neg h).trans (if_pos ripe)
  have counts (h : reported ≠ b.val) (unripe : b.run + 1 < d) :
      b.take d reported = { val := b.val, run := b.run + 1 } := (if_neg h).trans (if_neg (Nat.not_le.mpr unripe))
  refine ⟨same, changes, counts, fun bound _ => ?_⟩
  by_cases h : reported = b.val
  · rw [same h]
    exact Nat.zero_le _
  by_cases ripe : d ≤ b.run + 1
  · rw [changes h ripe]
    exact Nat.zero_le _
  · rw [counts h (Nat.not_le.mp ripe)]
    show b.run + 1 ≤ 3
    omega

/-- The debounced bits of an image. -/
def Image.bits (i : Image) : Permissives × Octet Debounced := (i.perm, i.interlocks)

theorem raiseEvents_bits (u : UnitNo) (ev : BitVec 8) (verify : Bool) (s : State) :
    ((raiseEvents u ev verify s).image u).bits = (s.image u).bits := by
  let i : Image := { s.image u with
    events := (s.image u).events ||| ev
    verifyEvent := (s.image u).verifyEvent || verify }
  have flagged : ((s.setImage u i).image u).bits = (s.image u).bits :=
    (congrArg Image.bits (State.setImage_image_self s u i)).trans rfl
  unfold raiseEvents
  dsimp only
  split
  · rfl
  · split
    · exact flagged
    · rw [State.image, (pushReport_frame _ _).uib]
      exact flagged

theorem startExchange_bits (u : UnitNo) (s : State) : ((startExchange u s).image u).bits = (s.image u).bits := by
  obtain ⟨q, hs, -⟩ := startExchange_eq u s
  have image := PerUnit.get_set_self s.uib.images u { s.image u with
    identity := .identWait, identCount := 1, identTimer := some s.tbs.plant.identWait, verifyEvent := true }
  rw [hs]
  exact (congrArg Image.bits image).trans rfl

/-- What follows the image's update in the event of a UNIT_STATUS leaves the debounced bits (R46). -/
theorem statusEvent_bits (u : UnitNo) (st : Stage) (n : Image) (s : State) :
    ((statusEvent u st n s).image u).bits = n.bits := by
  unfold statusEvent
  dsimp only
  generalize hw : raiseEvents u (newlyActive (s.image u) n &&& (s.image u).watch) false (s.setImage u n) = s1
  have watched : (s1.image u).bits = n.bits := by
    rw [← hw, raiseEvents_bits, State.setImage_image_self]
  generalize hx : (if (s.image u).identity = .absent then startExchange u s1 else s1) = s2
  have exchanged : (s2.image u).bits = n.bits := by
    rw [← hx]
    split
    · rw [startExchange_bits, watched]
    · exact watched
  generalize hh : (if (s.image u).identity = .verified then handToSequencer u (s.image u) n st (.start s2)
    else .start s2) = e1
  have handed : e1.s.uib = s2.uib := by
    rw [← hh]
    split
    · exact (handToSequencer_frame u (s.image u) n st (.start s2)).uib
    · rfl
  generalize hb : (if n.band = (s.image u).band then e1 else bandChange u e1) = e2
  have changed : e2.s.uib = e1.s.uib := by
    rw [← hb]
    split
    · rfl
    · exact (bandChange_frame u e1).uib
  rw [State.image, (closeEvent_frame _).uib, trigger_s, changed, handed]
  exact exchanged

/-- A unit at a cell's source address is snooped (R5, R41). -/
theorem snooped_of_unitAt {src : Byte} {s : State} {u : UnitNo} (h : unitAt src s = some u) : snooped src s = true := by
  have found : UnitNo.all.find? (fun u => (s.unit u).present && (s.unit u).addr == src.toNat) = some u := h
  have here := List.find?_some found
  exact Bool.or_eq_true_iff.mpr (.inl (List.any_eq_true.mpr ⟨u, UnitNo.mem_all u, here⟩))

theorem Stage.ofCode_of_le {b : Byte} (h : b.toNat ≤ 8) : ∃ st, Stage.ofCode b = some st := by
  obtain ⟨n, rfl⟩ : ∃ n : Fin 9, b = BitVec.ofNat 8 n := 
    ⟨⟨b.toNat, Nat.lt_succ_of_le h⟩, BitVec.eq_of_toNat_eq (by simp)⟩
  exact Option.isSome_iff_exists.mp ((by decide : ∀ n : Fin 9, (Stage.ofCode (BitVec.ofNat 8 n)).isSome) n)

/-- Settles O44: the event of the cell begins with the debounced bits taken one by one, and leaves them so. -/
theorem debounceCountsCells : Obligations.DebounceCountsCells := by
  intro h stage fault power head perm interlocks pad u s c past hu known d taken
  obtain ⟨st, code⟩ := Stage.ofCode_of_le known
  let s0 := s.withLinkUp .dn
  let n := s0.evaluated u ((s.image u).take s.tbs.plant st fault power head perm interlocks)
  have snoop : snoopUnitStatus h stage fault power head perm interlocks s0 = statusEvent u st n s0 := by
    rw [snoopUnitStatus, show unitAt h.src s0 = some u from hu, code]
    rfl
  have event : exec (.unitStatus h stage fault power head perm interlocks pad) s =
      .next ((statusEvent u st n s0).forwardedUp c) := by
    refine (arriveDn_past (fun s => s) (snoopUnitStatus h stage fault power head perm interlocks) past.1 past.2).trans ?_
    rw [if_pos (show snooped c.src s = true from snooped_of_unitAt hu), snoop]
  refine ⟨_, event, ?_⟩
  have image : ((statusEvent u st n s0).forwardedUp c).image u = (statusEvent u st n s0).image u := by
    rw [State.image, forwardedUp_uib, State.image]
  have bits : ((statusEvent u st n s0).image u).bits = n.bits := statusEvent_bits u st n s0
  obtain ⟨perms, locks⟩ := Prod.ext_iff.mp bits
  dsimp only
  rw [image, show ((statusEvent u st n s0).image u).perm = n.perm from perms,
    show ((statusEvent u st n s0).image u).interlocks = n.interlocks from locks]
  have each (reported : Bool) (b : Debounced) : taken reported b (b.take d reported) := Debounced.take_cases d reported b
  exact ⟨each _ _, each _ _, each _ _, each _ _, each _ _, each _ _, each _ _, each _ _, each _ _, each _ _, each _ _,
    each _ _⟩

end Sys2Proof.Machine
end

section
/-! Expiry of the stale, min-run and min-still timers: what is left where no order stands, the start that an expiry in STILL
lets begin, and the run under a standing order (R45, R81, R84, R85, R89, R117, R128, R132). -/

namespace Sys2Proof.Machine

-- The end of an event with a trigger ------------------------------------------------------------------------

section
variable {e : Ev}

/-- Where each sequencer that the event owes an action has none to take, no sequencer moves in its turn. -/
theorem actAll_of_idleActs (h : ∀ u ∈ e.due, act u e = e) : actAll e.s.alc.entries e = e := by
  have turn (u : UnitNo) : actTurn e.s.alc.entries e u = e := by
    by_cases due : u ∈ e.due
    · exact (actTurn_due due).trans (h u due)
    · exact actTurn_of_notDue due
  unfold actAll
  induction UnitNo.all with
  | nil => rfl
  | cons u us ih => rw [List.foldl_cons, turn, ih]

theorem closeSettling_of_unsettled (h : e.settle = false) : closeSettling e = e.s := if_neg (Bool.eq_false_iff.mp h)

theorem closeEvent_eq_turns (stands : e.s.orderStands = false) :
    closeEvent e = closeSettling (actAll e.s.alc.entries e) := by
  rw [closeEvent, if_neg (by rw [stands, Bool.and_false]; decide)]

/-- An event that takes no sequencer anywhere ends as it stands where no order does. -/
theorem closeEvent_of_idleActs (stands : e.s.orderStands = false) (settle : e.settle = false)
    (h : ∀ u ∈ e.due, act u e = e) : closeEvent e = e.s := by
  rw [closeEvent_eq_turns stands, actAll_of_idleActs h, closeSettling_of_unsettled settle]

/-- What a trigger raised under a standing order brings at the end of an event that has settled nothing (R84, R85, R89). -/
structure RunMade (e : Ev) (t : State) : Prop where
  alc       : t.alc = plan e.s
  replanned : Replanned e.s t
  queue     : ReportRoom 1 e.s → ∃ rs, t.rpb.queue = e.s.rpb.queue ++ replannedReport e.s t :: rs
  ran       : ResourcesHeld e.s → RanFrom e.s e.due False t

theorem closeEvent_runMade (trig : e.trig = true) (stands : e.s.orderStands = true) (settle : e.settle = false) :
    RunMade e (closeEvent e) := by
  have runs : (e.trig && e.s.orderStands) = true := by rw [trig, stands]; rfl
  refine ⟨by rw [closeEvent_alc, if_pos runs], closeEvent_replanned runs, closeEvent_replanned_queue runs, fun held => ?_⟩
  exact closeEvent_ranFrom held runs (by rw [settle]; decide)

end

/-- The agreement of resources and sequencers reads the arbiter, the tables and the sequencers' states. -/
theorem ResourcesHeld.congr {a b : State} (h : ResourcesHeld a) (pra : b.pra = a.pra) (tbs : b.tbs = a.tbs)
    (states : ∀ u, (b.seq u).state = (a.seq u).state) : ResourcesHeld b := by
  have unit (u : UnitNo) : b.unit u = a.unit u := by rw [State.unit, tbs, State.unit]
  refine ⟨pra ▸ h.queueNodup, fun u hu => ?_, pra ▸ h.granted, fun u hu => ?_, pra ▸ h.waitersNodup, fun w u hu => ?_,
    fun w u hu => ?_, pra ▸ h.lockTaken⟩
  all_goals rw [pra] at hu; rw [states]
  · exact h.queueState u hu
  · exact h.holderState u hu
  · rw [unit]
    exact h.waiterState w u hu
  · rw [unit]
    exact h.lockState w u hu

/-- PLANT_ALERT_N's condition reads of each sequencer only whether its state alerts. -/
theorem alertDue_of_alerts {s t : State} (held : t.held = s.held) (tbs : t.tbs = s.tbs)
    (alerts : ∀ u, (t.seq u).state.alerts = (s.seq u).state.alerts) (arb : t.pra.arb = s.pra.arb) :
    t.alertDue = s.alertDue := by
  simp only [State.alertDue, State.unit, held, tbs, alerts, arb]

-- The stale timer (R45) -----------------------------------------------------------------------------------

/-- The event of a stale timer's expiry. -/
def Ev.stale (u : UnitNo) (s : State) : Ev :=
  (Ev.start (s.setImage u { s.image u with stale := true, staleTimer := none })).trigger
    ((s.unit u).present && !(s.image u).stale)

theorem staleExpiry_expires {u : UnitNo} {s : State} (held : s.held = false) (runs : (s.image u).staleTimer.isSome = true) :
    exec (.staleExpiry u) s = .next (closeEvent (.stale u s)) :=
  (event_free _ held).trans (congrArg Host.Outcome.next (if_pos runs))

theorem staleExpiry_stopped {u : UnitNo} {s : State} (held : s.held = false) (stopped : (s.image u).staleTimer = none) :
    exec (.staleExpiry u) s = .next s :=
  (event_free _ held).trans (congrArg Host.Outcome.next (if_neg (by rw [stopped]; decide)))

theorem setImage_leaves (s : State) (u : UnitNo) (i : Image) : LeavesSetting s (s.setImage u i) :=
  ⟨rfl, rfl, rfl, rfl, rfl, rfl, rfl, rfl, rfl⟩

-- The min-run and min-still timers (R132) -----------------------------------------------------------------

/-- The event of a min-run timer's expiry. -/
def Ev.minRun (u : UnitNo) (s : State) : Ev := (Ev.start (s.setSeq u { s.seq u with minRun := none })).trigger true

theorem minRunExpiry_expires {u : UnitNo} {s : State} (held : s.held = false) (runs : (s.seq u).minRun.isSome = true) :
    exec (.minRunExpiry u) s = .next (closeEvent (.minRun u s)) :=
  (event_free _ held).trans (congrArg Host.Outcome.next (if_pos runs))

theorem minRunExpiry_stopped {u : UnitNo} {s : State} (held : s.held = false) (stopped : (s.seq u).minRun = none) :
    exec (.minRunExpiry u) s = .next s :=
  (event_free _ held).trans (congrArg Host.Outcome.next (if_neg (by rw [stopped]; decide)))

/-- The event of a min-still timer's expiry, which owes a sequencer in STILL an action. -/
def Ev.minStill (u : UnitNo) (s : State) : Ev :=
  { s := s.setSeq u { s.seq u with minStill := none }, trig := true, settle := false,
    due := if (s.seq u).state = .still then [u] else [] }

theorem minStillExpiry_expires {u : UnitNo} {s : State} (held : s.held = false)
    (runs : (s.seq u).minStill.isSome = true) : exec (.minStillExpiry u) s = .next (closeEvent (.minStill u s)) := by
  refine (event_free _ held).trans (congrArg Host.Outcome.next ((if_pos runs).trans ?_))
  have state : ((s.setSeq u { s.seq u with minStill := none }).seq u).state = (s.seq u).state := by
    rw [State.setSeq_seq_self]
  unfold minStillExpired Ev.minStill
  dsimp only
  refine congrArg closeEvent ?_
  show (if ((s.setSeq u { s.seq u with minStill := none }).seq u).state = .still then _ else _) = _
  rw [state]
  by_cases still : (s.seq u).state = .still
  · rw [if_pos still, if_pos still]
    rfl
  · rw [if_neg still, if_neg still]
    rfl

theorem minStillExpiry_stopped {u : UnitNo} {s : State} (held : s.held = false) (stopped : (s.seq u).minStill = none) :
    exec (.minStillExpiry u) s = .next s :=
  (event_free _ held).trans (congrArg Host.Outcome.next (if_neg (by rw [stopped]; decide)))

theorem setSeq_leaves (s : State) (u : UnitNo) (q : Seq) : LeavesSetting s (s.setSeq u q) :=
  ⟨rfl, rfl, rfl, rfl, rfl, rfl, rfl, rfl, rfl⟩

theorem ResourcesHeld.setSeq {s : State} (h : ResourcesHeld s) {u : UnitNo} {q : Seq}
    (state : q.state = (s.seq u).state) : ResourcesHeld (s.setSeq u q) :=
  h.congr rfl rfl fun v => by
    by_cases hv : v = u
    · subst hv
      rw [State.setSeq_seq_self, state]
    · rw [State.setSeq_seq_ne _ _ _ _ hv]

/-- What a STILL sequencer comes to by acting is no state that alerts. -/
theorem ActedFrom.still_quiet {s t : State} {u : UnitNo} {e : Entry} {i : Image} {m : Timer} {p : Bool}
    (h : ActedFrom s t u .still e i m p) : (t.seq u).state.alerts = false := by
  have stays (k : (t.seq u).state = .still) : (t.seq u).state.alerts = false := by rw [k]; rfl
  have turbine (k : AskedLock s t u .gLockwait .gRunup .still .goTurbine (s.profileOf u).tRunup) :
      (t.seq u).state.alerts = false := by
    by_cases free : (s.pra.locks.get (s.unit u).waterway).holder = none
    · rw [(k.1 free).1.1]
      rfl
    · rw [(k.2 free).1]
      rfl
  have pump (k : Entered t u .pDewater .dewater (s.profileOf u).tDewater) : (t.seq u).state.alerts = false := by
    rw [k.1]
    rfl
  unfold ActedFrom at h
  by_cases free : (∀ k, m = some k → k = 0) ∧ i.perm.lockout.val = false ∧ p = false
  · cases hm : e.mode <;> rw [hm] at h
    · exact stays h
    · exact turbine (h.1 free)
    · exact pump (h.1 free)
    · exact turbine (h.1 free)
    · exact pump (h.1 free)
  · cases hm : e.mode <;> rw [hm] at h
    · exact stays h
    all_goals exact stays (h.2 free)

section
variable {u : UnitNo} {s : State} (stands : s.orderStands = false)
include stands

/-- No start is owed: the timer stops, and nothing else happens. -/
theorem closeEvent_minStill_idle (h : (s.seq u).state ≠ .still ∨ (s.entry u).mode = .still) :
    closeEvent (.minStill u s) = s.setSeq u { s.seq u with minStill := none } := by
  refine closeEvent_of_idleActs (e := .minStill u s) stands rfl fun v due => ?_
  by_cases still : (s.seq u).state = .still
  · obtain rfl : v = u := List.mem_singleton.mp ((if_pos still : (Ev.minStill u s).due = [u]) ▸ due)
    have state : ((Ev.minStill v s).s.seq v).state = .still := by
      show ((s.setSeq v _).seq v).state = _
      rw [State.setSeq_seq_self]
      exact still
    refine act_still (h.resolve_left (not_not.mpr still)) ?_ ?_ ?_
    · rw [state]
      simp [Running]
    · rw [state]
      simp [Starting]
    · rw [state]
      rfl
  · rw [show (Ev.minStill u s).due = [] from if_neg still] at due
    cases due

/-- The sequencer that the expiry finds in STILL takes its turn alone (R117, R132). -/
theorem closeEvent_minStill_acts (agree : ResourcesAgree s) (still : (s.seq u).state = .still) :
    closeEvent (.minStill u s) = (act u (.minStill u s)).s := by
  have held : ResourcesHeld (Ev.minStill u s).s := agree.held.setSeq rfl
  have state : ((Ev.minStill u s).s.seq u).state = .still := by
    show ((s.setSeq u _).seq u).state = _
    rw [State.setSeq_seq_self]
    exact still
  rw [closeEvent_eq_turns (e := .minStill u s) stands, actAll_single held (if_pos still)]
  refine closeSettling_of_unsettled (Bool.eq_false_iff.mpr fun settles => ?_)
  obtain settled | ⟨wait, -⟩ := (act_turn held u).settle.mp settles
  · cases settled
  · rw [state] at wait
    simp at wait

end

/-- What the start owed leaves of the rest (R128, R132). -/
theorem minStill_acted {u : UnitNo} {s : State} (agree : ResourcesAgree s) (still : (s.seq u).state = .still) :
    let t := (act u (.minStill u s)).s
    ActedFrom s t u .still (s.entry u) (s.image u) none (s.seq u).pendLockout ∧
      (∀ v, v ≠ u → t.seq v = s.seq v) ∧ t.alc = s.alc ∧ t.dse = s.dse ∧ t.rmp = s.rmp ∧
      t.rpb = { s.rpb with alertLow := t.rpb.alertLow } ∧ (QueuesAndAlert s → t.rpb = s.rpb) := by
  intro t
  let a : State := s.setSeq u { s.seq u with minStill := none }
  have held : ResourcesHeld a := agree.held.setSeq rfl
  have own : a.seq u = { s.seq u with minStill := none } := State.setSeq_seq_self _ _ _
  have state : (a.seq u).state = .still := by rw [own]; exact still
  obtain ⟨frame, stable, -⟩ := (act_turn (e := .minStill u s) held u).turn
  obtain ⟨acted, reports⟩ := stable (by rw [show ((Ev.minStill u s).s.seq u).state = .still from state]; rfl)
  have rest : SeqFrame a t := act_frame u (.minStill u s)
  have turned : ActedFrom s t u .still (s.entry u) (s.image u) none (s.seq u).pendLockout := by
    have k : ActedFrom a t u .still (s.entry u) (s.image u) (a.seq u).minStill (a.seq u).pendLockout := state ▸ acted
    rw [own] at k
    exact k.congr rfl rfl rfl
  have holdsNot : (a.lockOf u).holder ≠ some u := held.not_lockHolder (by rw [state]; rfl) _
  have others : ∀ v, v ≠ u → t.seq v = s.seq v := fun v hv =>
    (frame.other hv fun k => absurd k holdsNot).trans (State.setSeq_seq_ne _ _ _ _ hv)
  have rmp : t.rmp = s.rmp := by
    have units : t.rmp.units = s.rmp.units := PerUnit.ext_get _ _ fun v => by
      by_cases hv : v = u
      · subst hv
        refine frame.ramp.trans (if_neg fun k => ?_)
        have gOn : (a.seq v).state = .gOn := k.1
        rw [state] at gOn
        cases gOn
      · exact (frame.others v hv).1
    have kept : t.rmp = { a.rmp with units := t.rmp.units } := congrArg State.rmp frame.rest
    rw [kept, units]
    rfl
  have silent : t.rpb = { s.rpb with alertLow := t.rpb.alertLow } := reports
  refine ⟨turned, others, rest.alc, rest.dse, rmp, silent, fun sound => ?_⟩
  have arb : t.pra.arb = s.pra.arb := (frame.converter (.inl (held.not_holder (by rw [state]; decide)))).1
  have driven (x : State) (alerts : ∀ v, (x.seq v).state.alerts = (s.seq v).state.alerts) (hh : x.held = s.held)
      (ht : x.tbs = s.tbs) (ha : x.pra.arb = s.pra.arb) : x.alertDue = s.alertDue := alertDue_of_alerts hh ht alerts ha
  have before : a.alertDue = s.alertDue := driven a (fun v => by
    by_cases hv : v = u
    · subst hv
      rw [own]
    · rw [show a.seq v = s.seq v from State.setSeq_seq_ne _ _ _ _ hv]) rfl rfl rfl
  have after : t.alertDue = s.alertDue := driven t (fun v => by
    by_cases hv : v = u
    · subst hv
      rw [turned.still_quiet, still]
      rfl
    · rw [others v hv]) rest.held rest.tbs arb
  rw [silent, rest.alert (sound.alert.trans before.symm), after, ← sound.alert]

-- The statement ---------------------------------------------------------------------------------------------

/-- An event that has changed nothing but images or sequencers before its end. -/
structure Ev.OwnState (e : Ev) (s : State) : Prop where
  leaves : LeavesSetting s e.s
  dse    : e.s.dse = s.dse
  rpb    : e.s.rpb = s.rpb
  settle : e.settle = false

section
variable {e : Ev} {s : State}

theorem Ev.OwnState.orderStands (h : e.OwnState s) : e.s.orderStands = s.orderStands := by
  rw [State.orderStands, h.dse, State.orderStands]

theorem Ev.OwnState.closed (h : e.OwnState s) :
    LeavesSetting s (closeEvent e) ∧
      (closeEvent e).dse = { s.dse with standing := (closeEvent e).dse.standing } := by
  have frame := closeEvent_frame e
  refine ⟨h.leaves.trans frame.leavesSetting, ?_⟩
  rw [← h.dse]
  exact frame.dse

/-- The record and the report that a run leaves are those for the state before the event. -/
theorem Ev.OwnState.runs (h : e.OwnState s) (trig : e.trig = true) (stands : s.orderStands = true) :
    (closeEvent e).alc = plan e.s ∧
      (Replanned s (closeEvent e) ∧ (ReportRoom 1 s →
        ∃ rs, (closeEvent e).rpb.queue = s.rpb.queue ++ replannedReport s (closeEvent e) :: rs)) ∧
      (ResourcesHeld e.s → RanFrom e.s e.due False (closeEvent e)) := by
  obtain ⟨alc, replanned, queue, ran⟩ := closeEvent_runMade trig (h.orderStands.trans stands) h.settle
  refine ⟨alc, ⟨?_, fun room => ?_⟩, ran⟩
  · unfold Replanned at replanned ⊢
    rw [← h.dse]
    exact replanned
  · unfold ReportRoom at queue
    unfold replannedReport at queue ⊢
    rw [h.rpb, h.dse] at queue
    exact queue room

end

theorem stale_ownState (u : UnitNo) (s : State) : (Ev.stale u s).OwnState s := ⟨setImage_leaves s u _, rfl, rfl, rfl⟩

theorem minRun_ownState (u : UnitNo) (s : State) : (Ev.minRun u s).OwnState s := ⟨setSeq_leaves s u _, rfl, rfl, rfl⟩

theorem minStill_ownState (u : UnitNo) (s : State) : (Ev.minStill u s).OwnState s := ⟨setSeq_leaves s u _, rfl, rfl, rfl⟩

/-- A sequencer whose timer has stopped, as its clause says it. -/
theorem setSeq_stopped {s t : State} {u : UnitNo} {q : Seq} (h : t = s.setSeq u q) :
    t.seq u = q ∧ t = { s with seqs := t.seqs } ∧ ∀ v, v ≠ u → t.seq v = s.seq v := by
  subst h
  exact ⟨State.setSeq_seq_self _ _ _, rfl, fun v hv => State.setSeq_seq_ne _ _ _ _ hv⟩

/-- Settles O53. -/
theorem staleAndMinimumTimers : Obligations.StaleAndMinimumTimers := by
  unfold Obligations.StaleAndMinimumTimers
  intro u s free replans
  refine ⟨fun runs => ?_, staleExpiry_stopped free, fun runs => ?_, minRunExpiry_stopped free, fun runs => ?_,
    minStillExpiry_stopped free⟩
  · have own := stale_ownState u s
    have uib : (closeEvent (.stale u s)).uib = (Ev.stale u s).s.uib := (closeEvent_frame _).uib
    have marked : { s with uib := (closeEvent (.stale u s)).uib } = (Ev.stale u s).s := by
      rw [uib]
      rfl
    refine ⟨_, staleExpiry_expires free runs, ?_, fun v hv => ?_, own.closed.1, own.closed.2, fun stands => ?_,
      fun stands present fresh => ?_⟩
    · rw [State.image, uib]
      exact State.setImage_image_self _ _ _
    · rw [State.image, uib]
      exact State.setImage_image_ne _ _ _ _ hv
    · rw [marked]
      exact closeEvent_noOrder rfl stands
    · have trig : (Ev.stale u s).trig = true := by
        show (false || ((s.unit u).present && !(s.image u).stale)) = true
        rw [present, fresh]
        rfl
      obtain ⟨alc, replanned, ran⟩ := own.runs trig stands
      rw [marked]
      exact ⟨alc, replanned, fun agree => ran (agree.held.congr rfl rfl fun _ => rfl)⟩
  · have own := minRun_ownState u s
    refine ⟨_, minRunExpiry_expires free runs, (closeEvent_frame _).uib, own.closed.1, own.closed.2, fun stands => ?_,
      fun stands => ?_⟩
    · exact setSeq_stopped (closeEvent_noOrder (e := .minRun u s) rfl stands)
    · obtain ⟨alc, replanned, ran⟩ := own.runs rfl stands
      exact ⟨alc, replanned, fun agree => ran (agree.held.setSeq rfl)⟩
  · have own := minStill_ownState u s
    refine ⟨_, minStillExpiry_expires free runs, (closeEvent_frame _).uib, own.closed.1, own.closed.2,
      fun stands idle => setSeq_stopped (closeEvent_minStill_idle stands idle), fun stands agree still => ?_, fun stands => ?_⟩
    · rw [closeEvent_minStill_acts stands agree still]
      exact minStill_acted agree still
    · obtain ⟨alc, replanned, ran⟩ := own.runs rfl stands
      exact ⟨alc, replanned, fun agree => ran (agree.held.setSeq rfl)⟩

end Sys2Proof.Machine
end

section
/-! A UNIT_STATUS under a standing order that brings a sequencer back to the record it started from: the settling check that
the event owes is still made (R82, R118, R126), while the run clause of O43 allows none. -/

namespace Sys2Proof.Machine

-- A run on whose plan no sequencer has a turn ----------------------------------------------------------------

/-- With no unit to act and none that lingers in air, the pass over the sequencers is the settling check alone (R89). -/
theorem InTurn.settlesIf_of_idle {old : PerUnit Entry} {entered : Prop} {s t : State} {us : List UnitNo}
    (same : ∀ u, (old.get u).mode = (s.entry u).mode) (still : ∀ u, (s.seq u).linger = none)
    (turns : InTurn old [] us entered s t) : SettlesIf entered s t := by
  induction us generalizing entered with
  | nil => exact turns
  | cons u us ih =>
    obtain ⟨b, ⟨-, -, idle⟩, rest⟩ := turns
    have notToAct : ¬ToAct old [] s u := fun act => act.elim (fun differs => differs (same u)) List.not_mem_nil
    have notMarked : ¬((s.entry u).mode = .still ∧ (s.entry u).forcedOut = true ∧ (old.get u).forcedOut = false ∧
        (s.seq u).linger.isSome = true ∧ ((s.seq u).state = .gAir ∨ (s.seq u).state = .pAir)) := by
      rintro ⟨-, -, -, lingers, -⟩
      rw [still u] at lingers
      cases lingers
    obtain rfl : b = s := idle notToAct notMarked
    have unmoved : (entered ∨ ToAct old [] b u ∧ Returns (b.seq u) (b.entry u).mode) = entered :=
      propext ⟨fun k => k.resolve_right fun act => notToAct act.1, .inl⟩
    rw [unmoved] at rest
    exact ih rest

theorem SettlesIf.unchanged {s t : State} {entered : Prop} (h : SettlesIf entered s t) (unmoved : ¬entered) : t = s :=
  h.2 fun passes => unmoved passes.1

theorem afterRun_active (s : State) : s.afterRun.dse.standing.state = .active := by
  unfold State.afterRun
  rw [reported_dse]

theorem afterRun_alc (s : State) : s.afterRun.alc = plan s := by
  unfold State.afterRun
  rw [reported_eq]

theorem afterRun_seqs (s : State) : s.afterRun.seqs = s.seqs := by
  unfold State.afterRun
  rw [reported_eq]

/-- A run that changes no unit's mode, where no sequencer has entered a stable state, leaves the order ACTIVE (R81, R82). -/
theorem RanFrom.active_of_idle {s t : State} {entered : Prop} (ran : RanFrom s [] entered t) (unmoved : ¬entered)
    (same : ∀ u, (s.alc.entries.get u).mode = ((plan s).entries.get u).mode) (still : ∀ u, (s.seq u).linger = none) :
    t.dse.standing.state = .active := by
  have settles : SettlesIf entered s.afterRun t := by
    refine InTurn.settlesIf_of_idle (fun u => ?_) (fun u => ?_) ran
    · rw [State.entry, afterRun_alc]
      exact same u
    · rw [State.seq, afterRun_seqs]
      exact still u
  rw [settles.unchanged unmoved, afterRun_active]

theorem plan_withDse {s t : State} (d : Dse) (tbs : t.tbs = s.tbs) (uib : t.uib = s.uib) (alc : t.alc = s.alc)
    (seqs : t.seqs = s.seqs) : plan { t with dse := d } = plan { s with dse := d } :=
  plan_congr tbs uib rfl alc seqs

/-- The state that a command leads to. -/
def reached (i : Instr) (s : State) : State :=
  match exec i s with
  | .next t => t
  | _       => s

theorem reached_eq {i : Instr} {s t : State} (h : exec i s = .next t) : reached i s = t := by
  rw [reached, h]

-- The state and the cell ------------------------------------------------------------------------------------

namespace AbandonedStart

/-- A manual unit planned GEN is stopping, its min-still period over and its lock free; it has run in band 0, and its
image is stale. The order that stands is ACTIVE. -/
def stopping : State :=
  let s := State.cold 5
  let band : Band := { Band.cold with gmax := 3000, turb := true }
  let ready : Debounced := { val := true, run := 0 }
  { s with
    tbs := { s.tbs with
      units := s.tbs.units.set .u1 { UnitEntry.cold with present := true, addr := 11 }
      profiles := s.tbs.profiles.set 0
        { Profile.cold with tLockwait := 60, tRunup := 60, tStop := 120, bandCount := 2 }
      bands := s.tbs.bands.set 0 (((s.tbs.bands[(0 : Fin 4)]).set 0 band).set 1 { Band.cold with lower := 5000 }) }
    uib := { s.uib with
      images := s.uib.images.set .u1
        { Image.cold with
          identity := .verified
          stage := some .still
          head := some 1000
          band := .num 0
          region := some { lo := 0, hi := some 5000 }
          stale := true
          perm := { ready := ready, air := ready, remote := ready, lockout := .cold } } }
    dse := { s.dse with
      engine := .running
      standing := { Standing.cleared with state := .active }
      assign := s.dse.assign.set .u1 .manual }
    alc := { s.alc with entries := s.alc.entries.set .u1 { Entry.cold with mode := .gen, share := some 1000 } }
    seqs := s.seqs.set .u1
      { Seq.cold with state := .stopping, prior := some .still, stageTimer := some 120, minStill := some 0 } }

/-- The same state with no order standing. -/
def unordered : State :=
  { stopping with dse := { stopping.dse with standing := { stopping.dse.standing with state := .none } } }

def header : Hdr := { dest := 0x00, src := 0x0b, crc := 0xc1a0 }

/-- The unit has come to STILL, at a head whose band lets it neither turbine nor pump. -/
def cell : Cell := cellUnitStatus header 0 0 0 6000 7 0 0

def status : Instr := .unitStatus header 0 0 0 6000 7 0 0

theorem delivered : Delivered cell stopping := by
  unfold Delivered
  decide +kernel

/-- No unit waits for or holds anything, and only the stopping one is not DORMANT. -/
theorem resourcesAgree : ResourcesAgree stopping := by
  have locks (w : Waterway) : stopping.pra.locks.get w = { holder := none, waiters := [] } := by cases w <;> rfl
  constructor
  case queueNodup => exact List.nodup_nil
  case queueState => exact fun _ waits => nomatch waits
  case granted => rfl
  case holderState => exact fun _ holds => nomatch holds
  case waitersNodup => exact fun w => locks w ▸ List.nodup_nil
  case waiterState =>
    intro w u waits
    rw [locks w] at waits
    cases waits
  case lockState =>
    intro w u holds
    rw [locks w] at holds
    cases holds
  case lockTaken => exact fun w _ => by rw [locks w]
  case awake =>
    intro u awake
    cases u
    case u1 => decide
    all_goals exact absurd rfl awake

/-- What the cell leaves while no order stands. -/
def left : State := reached status unordered

/-- The cell is taken, the start that follows is abandoned at the band change, and the sequencer is where it was. -/
theorem left_seq : left.seq .u1 = stopping.seq .u1 := by decide +kernel

theorem left_linger (u : UnitNo) : (left.seq u).linger = none := by cases u <;> decide +kernel

/-- The run under the order keeps every unit's mode. -/
theorem left_planned (u : UnitNo) :
    (left.alc.entries.get u).mode = ((plan { left with dse := stopping.dse }).entries.get u).mode := by
  cases u <;> decide +kernel

/-- Under the order, the settling check that the arrival in STILL owes settles it. -/
theorem settled {t : State} (h : exec status stopping = .next t) : t.dse.standing.state = .settled := by
  rw [← reached_eq h]
  decide +kernel

/-- A run on the state that the cell leaves while no order stands does not settle the order where the settling check is
bound to a change of the sequencer. -/
theorem ran_active {r e : State} {entered : Prop} (leads : exec status unordered = .next (r.forwardedUp cell))
    (moved : entered → r.seq .u1 ≠ stopping.seq .u1)
    (ran : RanFrom { r with dse := stopping.dse } [] entered e) : e.dse.standing.state = .active := by
  have reach : left = r.forwardedUp cell := reached_eq leads
  have tbs : r.tbs = left.tbs := by rw [reach, forwardedUp_tbs]
  have uib : r.uib = left.uib := by rw [reach, forwardedUp_uib]
  have alc : r.alc = left.alc := by rw [reach, forwardedUp_alc]
  have seqs : r.seqs = left.seqs := by rw [reach, forwardedUp_seqs]
  have seq (u : UnitNo) : r.seq u = left.seq u := congrArg (fun x : PerUnit Seq => x.get u) seqs
  refine ran.active_of_idle (fun entered => moved entered ((seq .u1).trans left_seq)) (fun u => ?_) fun u => ?_
  · rw [plan_withDse _ tbs uib alc seqs]
    exact (congrArg (fun a : Alc => (a.entries.get u).mode) alc).trans (left_planned u)
  · exact (congrArg Seq.linger (seq u)).trans (left_linger u)

end AbandonedStart

/-- Refutes O43, in its clause on the run under a standing order. A sequencer in STOPPING whose unit reports STILL arrives
in STILL and so owes the event its settling check; its min-still period is over, so it starts at once, and the band change
of the same cell abandons that start: the sequencer stands where it stood, though it has entered a stable state. The clause
lets the check be made only where the sequencer has changed, and the model makes it and settles the order. -/
theorem not_unitStatusUpdatesImage : ¬ Obligations.UnitStatusUpdatesImage := by
  unfold Obligations.UnitStatusUpdatesImage
  intro holds
  open AbandonedStart in
  obtain ⟨-, -, taken⟩ := holds header 0 0 0 6000 7 0 0 stopping delivered
  obtain ⟨t, exec_t, -, -, -, -, -, -, -, -, -, -, run, -⟩ :=
    taken .u1 .still (by decide +kernel) (by decide +kernel) rfl
  obtain ⟨r, exec_r, clause⟩ := run (by decide) (by decide) (by decide)
  obtain ⟨onTrigger, -⟩ := clause resourcesAgree
  obtain ⟨entered, e, moved, -, ran, ends⟩ := onTrigger (.inl rfl)
  have active : e.dse.standing.state = .active := ran_active exec_r moved ran
  have settles : t.dse.standing.state = .settled := settled exec_t
  rw [ends, forwardedUp_dse, active] at settles
  cases settles

end Sys2Proof.Machine
end

section
/-! One unit on its way from one state to another, set apart from what the arbiter holds: waits left, the lock passed on and the
grant ended, the arbiter agrees with every sequencer again (R125, R139, R142, R149, R156, R160, R161). -/

namespace Sys2Proof.Machine

/-- What the arbiter holds agrees with the sequencers but for the state of one unit. -/
structure HeldBut (u : UnitNo) (s : State) : Prop where
  queueNodup   : s.pra.startQueue.Nodup
  queueState   : ∀ v ∈ s.pra.startQueue, v ≠ u → (s.seq v).state = .pConvwait
  granted      : s.pra.arb.granted = s.pra.holder.isSome
  holderState  : ∀ v, s.pra.holder = some v → v ≠ u → (s.seq v).state = .pRunup
  waitersNodup : ∀ w, (s.pra.locks.get w).waiters.Nodup
  waiterState  : ∀ w, ∀ v ∈ (s.pra.locks.get w).waiters,
                   (s.unit v).waterway = w ∧ (v ≠ u → (s.seq v).state.waitsForLock = true)
  lockState    : ∀ w v, (s.pra.locks.get w).holder = some v →
                   (s.unit v).waterway = w ∧ (v ≠ u → (s.seq v).state.holdsLock = true)
  lockTaken    : ∀ w, (s.pra.locks.get w).holder = none → (s.pra.locks.get w).waiters = []

theorem ResourcesHeld.but {a b : State} {u : UnitNo} (h : ResourcesHeld a) (pra : b.pra = a.pra) (tbs : b.tbs = a.tbs)
    (others : ∀ v, v ≠ u → (b.seq v).state = (a.seq v).state) : HeldBut u b := by
  have unit (v : UnitNo) : b.unit v = a.unit v := by rw [State.unit, tbs, State.unit]
  refine ⟨pra ▸ h.queueNodup, fun v hv hu => ?_, pra ▸ h.granted, fun v hv hu => ?_, pra ▸ h.waitersNodup,
    fun w v hv => ?_, fun w v hv => ?_, pra ▸ h.lockTaken⟩
  all_goals rw [pra] at hv
  · rw [others v hu]
    exact h.queueState v hv
  · rw [others v hu]
    exact h.holderState v hv
  · obtain ⟨way, state⟩ := h.waiterState w v hv
    exact ⟨by rw [unit, way], fun hu => by rw [others v hu, state]⟩
  · obtain ⟨way, state⟩ := h.lockState w v hv
    exact ⟨by rw [unit, way], fun hu => by rw [others v hu, state]⟩

section
variable {u : UnitNo} {s : State} (h : HeldBut u s)
include h

/-- The unit set apart is where its state belongs. -/
theorem HeldBut.held (queue : u ∈ s.pra.startQueue → (s.seq u).state = .pConvwait)
    (grant : s.pra.holder = some u → (s.seq u).state = .pRunup)
    (waits : u ∈ (s.lockOf u).waiters → (s.seq u).state.waitsForLock = true)
    (lock : (s.lockOf u).holder = some u → (s.seq u).state.holdsLock = true) : ResourcesHeld s := by
  refine ⟨h.queueNodup, fun v hv => ?_, h.granted, fun v hv => ?_, h.waitersNodup, fun w v hv => ?_, fun w v hv => ?_,
    h.lockTaken⟩
  all_goals by_cases hu : v = u
  · exact hu ▸ queue (hu ▸ hv)
  · exact h.queueState v hv hu
  · exact hu ▸ grant (hu ▸ hv)
  · exact h.holderState v hv hu
  · obtain ⟨rfl, -⟩ := h.waiterState w v hv
    subst hu
    exact ⟨rfl, waits hv⟩
  · exact ⟨(h.waiterState w v hv).1, (h.waiterState w v hv).2 hu⟩
  · obtain ⟨rfl, -⟩ := h.lockState w v hv
    subst hu
    exact ⟨rfl, lock hv⟩
  · exact ⟨(h.lockState w v hv).1, (h.lockState w v hv).2 hu⟩

theorem HeldBut.heldNothing (k : HoldsNothing u s) : ResourcesHeld s :=
  h.held (fun hu => absurd hu k.waits.2) (fun hu => absurd hu k.grant) (fun hu => absurd hu (k.waits.1 _))
    fun hu => absurd hu k.lock

end

/-- A sequencer that is DORMANT stays so. -/
def Asleep (a b : State) : Prop := ∀ v, (a.seq v).state = .dormant → (b.seq v).state = .dormant

theorem Asleep.refl (s : State) : Asleep s s := fun _ => id

theorem Asleep.trans {a b c : State} (h : Asleep a b) (k : Asleep b c) : Asleep a c := fun v d => k v (h v d)

theorem Asleep.of_seqs {a b : State} (h : b.seqs = a.seqs) : Asleep a b := fun v d => by rw [State.seq, h]; exact d

section
variable {u : UnitNo} {e : Ev} (h : HeldBut u e.s)
include h

theorem HeldBut.leaveWaits : HeldBut u (leaveWaits u e).s ∧ WaitsNowhere u (leaveWaits u e).s := by
  have lock (w : Waterway) : ((Machine.leaveWaits u e).s.pra.locks.get w).holder = (e.s.pra.locks.get w).holder ∧
      ((Machine.leaveWaits u e).s.pra.locks.get w).waiters =
        if w = (e.s.unit u).waterway then (e.s.pra.locks.get w).waiters.filter fun v => v != u
        else (e.s.pra.locks.get w).waiters := by
    rw [leaveWaits_s]
    by_cases hw : w = (e.s.unit u).waterway
    · subst hw
      exact ⟨(congrArg Lock.holder (PerWaterway.get_set_self _ _ _)).trans rfl,
        (congrArg Lock.waiters (PerWaterway.get_set_self _ _ _)).trans (if_pos rfl).symm⟩
    · exact ⟨congrArg Lock.holder (PerWaterway.get_set_ne _ _ _ _ hw),
        (congrArg Lock.waiters (PerWaterway.get_set_ne _ _ _ _ hw)).trans (if_neg hw).symm⟩
  have kept {w : Waterway} {v : UnitNo} (hv : v ∈ ((Machine.leaveWaits u e).s.pra.locks.get w).waiters) :
      v ∈ (e.s.pra.locks.get w).waiters ∧ v ≠ u := by
    rw [(lock w).2] at hv
    split at hv
    · exact ⟨(List.mem_filter.mp hv).1, by simpa using (List.mem_filter.mp hv).2⟩
    · next hw => exact ⟨hv, fun k => hw (k ▸ (h.waiterState w v hv).1.symm)⟩
  have queued {v : UnitNo} (hv : v ∈ (Machine.leaveWaits u e).s.pra.startQueue) : v ∈ e.s.pra.startQueue ∧ v ≠ u :=
    ⟨(List.mem_filter.mp hv).1, by simpa using (List.mem_filter.mp hv).2⟩
  refine ⟨⟨h.queueNodup.filter _, fun v hv hu => h.queueState v (queued hv).1 hu, h.granted, h.holderState,
    fun w => ?_, fun w v hv => h.waiterState w v (kept hv).1, fun w v hv => h.lockState w v ((lock w).1 ▸ hv),
    fun w hw => ?_⟩, fun w hu => (kept hu).2 rfl, fun hu => (queued hu).2 rfl⟩
  · rw [(lock w).2]
    split
    · exact (h.waitersNodup w).filter _
    · exact h.waitersNodup w
  · rw [(lock w).1] at hw
    rw [(lock w).2, h.lockTaken w hw, List.filter_nil, ite_self]

/-- The lock passed on to a unit that waits for it, or free. -/
theorem HeldBut.releaseLock (hw : u ∉ (e.s.lockOf u).waiters) : HeldBut u (releaseLock u e).s ∧
    ((releaseLock u e).s.lockOf u).holder ≠ some u ∧ (releaseLock u e).s.seq u = e.s.seq u ∧
    Asleep e.s (releaseLock u e).s := by
  by_cases hl : (e.s.lockOf u).holder = some u
  swap
  · rw [releaseLock_of_ne hl]
    exact ⟨h, hl, rfl, .refl _⟩
  have frame := releaseLock_frame u e
  have pra := (releaseLock_pra u e).trans (if_pos hl)
  have own : (Machine.releaseLock u e).s.seq u = e.s.seq u :=
    (releaseLock_others fun k => hw (List.mem_of_mem_head? k.2)).1
  have way {v : UnitNo} (hv : v ∈ (e.s.lockOf u).waiters) : (e.s.unit v).waterway = (e.s.unit u).waterway ∧ v ≠ u :=
    ⟨(h.waiterState _ v hv).1, fun k => hw (k ▸ hv)⟩
  have waits {v : UnitNo} (hv : v ∈ (e.s.lockOf u).waiters) : (e.s.seq v).state.waitsForLock = true :=
    (h.waiterState _ v hv).2 (way hv).2
  have other {v : UnitNo} (hv : (e.s.lockOf u).waiters.head? ≠ some v) :
      (Machine.releaseLock u e).s.seq v = e.s.seq v := (releaseLock_others fun k => hv k.2).1
  have idle {v : UnitNo} (hv : v ≠ u) (hs : (e.s.seq v).state.waitsForLock = false) :
      (Machine.releaseLock u e).s.seq v = e.s.seq v := other fun k => by
    have := waits (List.mem_of_mem_head? k)
    rw [hs] at this
    cases this
  have handed {v : UnitNo} (hv : (e.s.lockOf u).waiters.head? = some v) :
      ((Machine.releaseLock u e).s.seq v).state.holdsLock = true :=
    (releaseLock_handed hl hv (waits (List.mem_of_mem_head? hv)) rfl rfl rfl).1.holdsLock
      (waits (List.mem_of_mem_head? hv))
  have lockHere : (Machine.releaseLock u e).s.pra.locks.get (e.s.unit u).waterway = (e.s.lockOf u).passedOn := by
    rw [pra]
    exact PerWaterway.get_set_self _ _ _
  have lockThere {w : Waterway} (h : w ≠ (e.s.unit u).waterway) :
      (Machine.releaseLock u e).s.pra.locks.get w = e.s.pra.locks.get w := by
    rw [pra]
    exact PerWaterway.get_set_ne _ _ _ _ h
  have away {w : Waterway} {v : UnitNo} (hw : w ≠ (e.s.unit u).waterway) (hv : (e.s.unit v).waterway = w) :
      (Machine.releaseLock u e).s.seq v = e.s.seq v :=
    other fun k => hw (hv.symm.trans (way (List.mem_of_mem_head? k)).1)
  have asleep : Asleep e.s (Machine.releaseLock u e).s := fun v hv => by
    by_cases hu : v = u
    · subst hu
      rw [own]
      exact hv
    · rw [idle hu (by rw [hv]; rfl)]
      exact hv
  have lock : ((Machine.releaseLock u e).s.lockOf u).holder ≠ some u := by
    rw [State.lockOf, frame.unit_eq, lockHere]
    exact fun k => hw (List.mem_of_mem_head? k)
  have queueNodup : (Machine.releaseLock u e).s.pra.startQueue.Nodup := by
    rw [pra]
    exact h.queueNodup
  have queueState (v : UnitNo) (hv : v ∈ (Machine.releaseLock u e).s.pra.startQueue) (hu : v ≠ u) :
      ((Machine.releaseLock u e).s.seq v).state = .pConvwait := by
    rw [pra] at hv
    have hs := h.queueState v hv hu
    rw [idle hu (by rw [hs]; rfl), hs]
  have granted : (Machine.releaseLock u e).s.pra.arb.granted = (Machine.releaseLock u e).s.pra.holder.isSome := by
    rw [pra]
    exact h.granted
  have holderState (v : UnitNo) (hv : (Machine.releaseLock u e).s.pra.holder = some v) (hu : v ≠ u) :
      ((Machine.releaseLock u e).s.seq v).state = .pRunup := by
    rw [pra] at hv
    have hs := h.holderState v hv hu
    rw [idle hu (by rw [hs]; rfl), hs]
  refine ⟨⟨queueNodup, queueState, granted, holderState, fun w => ?_, fun w v hv => ?_, fun w v hv => ?_,
    fun w hw' => ?_⟩, lock, own, asleep⟩
  all_goals by_cases hh : w = (e.s.unit u).waterway
  · rw [hh, lockHere]
    exact (h.waitersNodup _).tail
  · rw [lockThere hh]
    exact h.waitersNodup w
  · subst hh
    rw [lockHere] at hv
    have hm := List.mem_of_mem_tail hv
    rw [frame.unit_eq, other fun k => ?_]
    · exact ⟨(way hm).1, fun _ => waits hm⟩
    · obtain ⟨rest, hr⟩ := List.head?_eq_some_iff.mp k
      have nodup := h.waitersNodup (e.s.unit u).waterway
      rw [← State.lockOf, hr] at nodup
      rw [show (e.s.lockOf u).passedOn.waiters = (e.s.lockOf u).waiters.tail from rfl, hr] at hv
      exact (List.nodup_cons.mp nodup).1 hv
  · rw [lockThere hh] at hv
    rw [frame.unit_eq, away hh (h.waiterState w v hv).1]
    exact h.waiterState w v hv
  · subst hh
    rw [lockHere] at hv
    rw [frame.unit_eq]
    exact ⟨(way (List.mem_of_mem_head? hv)).1, fun _ => handed hv⟩
  · rw [lockThere hh] at hv
    rw [frame.unit_eq, away hh (h.lockState w v hv).1]
    exact h.lockState w v hv
  · subst hh
    rw [lockHere] at hw' ⊢
    have none : (e.s.lockOf u).waiters = [] := List.head?_eq_none_iff.mp hw'
    show (e.s.lockOf u).waiters.tail = []
    rw [none, List.tail_nil]
  · rw [lockThere hh] at hw' ⊢
    exact h.lockTaken w hw'

/-- A grant that the unit holds is one of CONNECTING or IN_USE, and ends (R149). -/
theorem HeldBut.endGrant : HeldBut u (endGrant u e).s ∧ (endGrant u e).s.pra.holder ≠ some u := by
  by_cases hg : HoldsGrant u e.s
  · rw [endGrant_of_holder hg]
    exact ⟨⟨h.queueNodup, h.queueState, rfl, fun v hv => (nomatch hv), h.waitersNodup, h.waiterState, h.lockState,
      h.lockTaken⟩, fun k => (nomatch k)⟩
  · rw [endGrant_of_not hg]
    refine ⟨h, fun k => hg ⟨k, ?_⟩⟩
    have granted := h.granted
    rw [k, ConvState.granted, Option.isSome_some, Bool.or_eq_true, beq_iff_eq, beq_iff_eq] at granted
    exact granted

/-- Everything given up, the arbiter agrees with every sequencer (R125, R139, R142). -/
theorem HeldBut.giveUp : ResourcesHeld (giveUp u e).s ∧
    (giveUp u e).s.seq u = e.s.seq u ∧ Asleep e.s (giveUp u e).s := by
  obtain ⟨left, nowhere⟩ := h.leaveWaits
  obtain ⟨released, lock, own, asleep⟩ := left.releaseLock (nowhere.1 _)
  obtain ⟨ended, grant⟩ := released.endGrant
  have lists := endGrant_lists u (Machine.releaseLock u (Machine.leaveWaits u e))
  have seqs := endGrant_seqs u (Machine.releaseLock u (Machine.leaveWaits u e))
  have frame := endGrant_frame u (Machine.releaseLock u (Machine.leaveWaits u e))
  have pra := releaseLock_pra u (Machine.leaveWaits u e)
  have seq : (Machine.giveUp u e).s.seq u = e.s.seq u := (endGrant_seq u _ u).trans own
  have queue : u ∉ (Machine.giveUp u e).s.pra.startQueue := by
    show u ∉ (Machine.endGrant u _).s.pra.startQueue
    rw [lists.2, pra]
    split <;> exact nowhere.2
  have waiters : u ∉ ((Machine.giveUp u e).s.lockOf u).waiters := by
    show u ∉ ((Machine.endGrant u _).s.pra.locks.get ((Machine.endGrant u _).s.unit u).waterway).waiters
    rw [lists.1, frame.unit_eq, (releaseLock_frame u _).unit_eq, pra]
    split
    · dsimp only
      rw [(leaveWaits_frame u e).unit_eq, PerWaterway.get_set_self]
      exact fun k => nowhere.1 _ (List.mem_of_mem_tail k)
    · exact nowhere.1 _
  have holder : ((Machine.giveUp u e).s.lockOf u).holder ≠ some u := by
    show ((Machine.endGrant u _).s.pra.locks.get ((Machine.endGrant u _).s.unit u).waterway).holder ≠ some u
    rw [lists.1, frame.unit_eq]
    exact lock
  refine ⟨ended.held (fun k => absurd k queue) (fun k => absurd k grant) (fun k => absurd k waiters)
    fun k => absurd k holder, seq, asleep.trans (.of_seqs seqs)⟩

end

end Sys2Proof.Machine
end

section
/-! Every operation on an event in progress keeps the arbiter in agreement with the sequencers, and wakes no sequencer that is
DORMANT but by adoption (R62, R114, R146, R149, R155, R158, R160). -/

namespace Sys2Proof.Machine

-- How an agreement is carried ------------------------------------------------------------------------------

section
variable {a b : State} (h : ResourcesAgree a)
include h

/-- Nobody wakes, and what being awake asks for stays: engine, presence and identity. -/
theorem ResourcesAgree.keep (held : ResourcesHeld b) (asleep : Asleep a b)
    (engine : b.dse.engine = a.dse.engine) (units : b.tbs.units = a.tbs.units)
    (identity : ∀ u, (a.image u).identity = .verified → (b.image u).identity = .verified) : ResourcesAgree b :=
  ⟨held.queueNodup, held.queueState, held.granted, held.holderState, held.waitersNodup, held.waiterState, held.lockState,
    held.lockTaken, fun u awake => by
      obtain ⟨runs, present, verified⟩ := h.awake u fun d => awake (asleep u d)
      rw [engine, State.unit, units]
      exact ⟨runs, present, identity u verified⟩⟩

theorem ResourcesAgree.event (frame : EventFrame a b) (held : ResourcesHeld b) (asleep : Asleep a b) : ResourcesAgree b :=
  h.keep held asleep (by rw [frame.dse]) (by rw [frame.tbs]) fun u k => by rw [State.image, frame.uib]; exact k

theorem ResourcesAgree.congr (pra : b.pra = a.pra) (units : b.tbs = a.tbs) (seqs : b.seqs = a.seqs)
    (engine : b.dse.engine = a.dse.engine) (images : b.uib.images = a.uib.images) : ResourcesAgree b :=
  h.keep (h.held.congr pra units fun u => by rw [State.seq, seqs, State.seq]) (.of_seqs seqs) engine (by rw [units])
    fun u k => by rw [State.image, images]; exact k

theorem ResourcesAgree.pushed (r : Report) : ResourcesAgree (pushReport r a) :=
  h.event (pushReport_frame r a).event (h.held.withReport r) (.of_seqs (pushReport_seqs r a))

theorem ResourcesAgree.setState {u : UnitNo} {q : Seq} (state : q.state = (a.seq u).state) :
    ResourcesAgree (a.setSeq u q) :=
  h.event (setSeq_frame u q a state).event (h.held.setSeq state) fun v d => by
    by_cases hv : v = u
    · subst hv
      rw [State.setSeq_seq_self, state]
      exact d
    · rw [State.setSeq_seq_ne _ _ _ _ hv]
      exact d

theorem ResourcesAgree.initSetpoint (u : UnitNo) : ResourcesAgree (initSetpoint u a) :=
  have frame := initSetpoint_frame u a
  h.congr (initSetpoint_pra u a) frame.tbs (initSetpoint_seqs u a) (by rw [frame.dse]) (by rw [frame.uib])

end

/-- One unit alone moved: everyone else sleeps on. -/
theorem Asleep.but {a b : State} {u : UnitNo} (awake : (a.seq u).state ≠ .dormant)
    (others : ∀ v, v ≠ u → b.seq v = a.seq v) : Asleep a b := fun v d => by
  by_cases hv : v = u
  · exact absurd (hv ▸ d) awake
  · rw [others v hv]
    exact d

/-- A turn's acting unit aside, a turn moves only a unit that waited. -/
theorem TurnFrame.asleep {a b : State} {u : UnitNo} (t : TurnFrame a b u) (h : ResourcesHeld a)
    (awake : (a.seq u).state ≠ .dormant) : Asleep a b := fun v d => by
  by_cases hv : v = u
  · exact absurd (hv ▸ d) awake
  · rw [t.notWaiting h hv (by rw [d]; rfl)]
    exact d

theorem ne_dormant_of_stable {n : SeqState} (h : n.stable = true) : n ≠ .dormant := by
  rintro rfl
  cases h

/-- Out of the stable states there is nothing to act on (R128). -/
theorem actStable_unstable {u : UnitNo} {e : Ev} (h : (e.s.seq u).state.stable = false) : actStable u e = e := by
  unfold actStable Ev.state
  cases hs : (e.s.seq u).state with
  | still | gOn | pOn | gAir | pAir =>
    rw [hs] at h
    cases h
  | _ => rfl

-- Acting, stopping, tripping -------------------------------------------------------------------------------

section
variable {u : UnitNo} {e f : Ev} (h : ResourcesAgree e.s)
include h

theorem Turned.agrees (t : Turned e f u) (frame : SeqFrame e.s f.s) (awake : (e.s.seq u).state ≠ .dormant) :
    ResourcesAgree f.s := h.event frame.event t.held (t.frame.asleep h.held awake)

theorem ResourcesAgree.actStable (u : UnitNo) : ResourcesAgree (actStable u e).s := by
  by_cases hs : (e.s.seq u).state.stable = true
  · exact ((actStable_stableAct u e).turned h.held hs).agrees h (actStable_frame u e) (ne_dormant_of_stable hs)
  · rw [actStable_unstable (Bool.not_eq_true _ ▸ hs)]
    exact h

theorem ResourcesAgree.act (u : UnitNo) : ResourcesAgree (act u e).s := by
  by_cases hd : (e.s.seq u).state = .dormant
  · rw [act_dormant hd]
    exact h
  · have turn := act_turn h.held u
    exact h.event (act_frame u e).event turn.held (turn.turn.1.asleep h.held hd)

theorem ResourcesAgree.enterStopping (awake : (e.s.seq u).state ≠ .dormant) (moves : (e.s.seq u).state ≠ .stopping) :
    ResourcesAgree (enterStopping u e).s :=
  (Turned.stop h.held moves).agrees h (enterStopping_frame u e) awake

theorem ResourcesAgree.stopWithReport (c : Cause) (awake : (e.s.seq u).state ≠ .dormant)
    (moves : (e.s.seq u).state ≠ .stopping) : ResourcesAgree (stopWithReport u c e).s :=
  (h.enterStopping awake moves).pushed _

/-- A sequencer that has left its state gives up what it held. -/
theorem ResourcesAgree.gaveUp (awake : (e.s.seq u).state ≠ .dormant) (frame : SeqFrame e.s f.s)
    (pra : f.s.pra = e.s.pra) (others : ∀ v, v ≠ u → f.s.seq v = e.s.seq v) : ResourcesAgree (giveUp u f).s := by
  have but : HeldBut u f.s := h.held.but pra frame.tbs fun v hv => by rw [others v hv]
  obtain ⟨held, -, asleep⟩ := but.giveUp
  exact h.event (frame.trans (giveUp_frame u f)).event held ((Asleep.but awake others).trans asleep)

end

/-- A sequencer that has entered a state with its record then changed, before it gives anything up. -/
def Ev.moved (u : UnitNo) (n : SeqState) (f : Seq → Seq) (e : Ev) : Ev := (moveTo u n e).setSeq u f

section
variable (u : UnitNo) (n : SeqState) {f : Seq → Seq} (e : Ev)

theorem moved_seq_self : (e.moved u n f).s.seq u = f ((e.s.seq u).leaveFor n) := by
  show ((moveTo u n e).s.setSeq u (f ((moveTo u n e).s.seq u))).seq u = _
  rw [State.setSeq_seq_self, State.seq, moveTo_seqs, PerUnit.get_set_self]

theorem moved_seq_ne {v : UnitNo} (hv : v ≠ u) : (e.moved u n f).s.seq v = e.s.seq v := by
  show ((moveTo u n e).s.setSeq u _).seq v = _
  rw [State.setSeq_seq_ne _ _ _ _ hv, State.seq, moveTo_seqs, PerUnit.get_set_ne _ _ _ _ hv, State.seq]

theorem moved_pra : (e.moved u n f).s.pra = e.s.pra := moveTo_pra u n e

theorem moved_frame (state : ∀ q, (f q).state = q.state) : SeqFrame e.s (e.moved u n f).s :=
  (moveTo_frame u n e).trans (evSetSeq_frame u f _ (state _))

end

/-- An arrival in G_ON or P_ON before the sequencer acts there. -/
def Ev.arrivedOn (u : UnitNo) (n : SeqState) (e : Ev) : Ev :=
  let e1 := (releaseLock u (moveTo u n e)).setSeq u fun q => { q with minRun := some (e.s.unit u).minRun }
  let e2 := e1.map (pushUnitState u (e.state u) n .reached)
  (if n = .gOn then e2.map (initSetpoint u) else e2).trigger true

/-- An arrival in air before the sequencer acts there. -/
def Ev.arrivedAir (u : UnitNo) (n : SeqState) (e : Ev) : Ev :=
  (endGrant u (moveTo u n e)).map (pushUnitState u (e.state u) n .reached)

/-- An arrival in STILL before the sequencer acts there. -/
def Ev.arrivedStill (u : UnitNo) (e : Ev) : Ev :=
  ((e.moved u .still fun q => { q with minStill := some (e.s.unit u).minStill }).map
    (pushUnitState u (e.state u) .still .reached)).trigger true

theorem arriveOn_eq (u : UnitNo) (n : SeqState) (e : Ev) : arriveOn u n e = actStable u (e.arrivedOn u n) := rfl

theorem arriveAir_eq (u : UnitNo) (n : SeqState) (e : Ev) : arriveAir u n e = actStable u (e.arrivedAir u n) := rfl

theorem arriveStill_eq (u : UnitNo) (e : Ev) : arriveStill u e = actStable u (e.arrivedStill u) := rfl

section
variable {u : UnitNo} {e : Ev} (h : ResourcesAgree e.s)
include h

/-- A sequencer that holds nothing moves to a state that holds nothing, its record changed there. -/
theorem ResourcesAgree.moved {n : SeqState} {f : Seq → Seq} (state : ∀ q, (f q).state = q.state)
    (nothing : (e.s.seq u).state.holdsNothing = true) (awake : (e.s.seq u).state ≠ .dormant) :
    ResourcesAgree (e.moved u n f).s := by
  have but : HeldBut u (e.moved u n f).s :=
    h.held.but (moved_pra u n e) (moved_frame u n e state).tbs fun v hv => by rw [moved_seq_ne u n e hv]
  exact h.event (moved_frame u n e state).event
    (but.heldNothing ((h.held.holdsNothing nothing).congr (moved_frame u n e state).tbs (moved_pra u n e)))
    (.but awake fun v hv => moved_seq_ne u n e hv)

theorem ResourcesAgree.enterTripped (c : Cause) (stop : Bool) (awake : (e.s.seq u).state ≠ .dormant) :
    ResourcesAgree (enterTripped u c stop e).s := by
  let e1 : Ev := if stop then e.map (placeStage u .stop) else e
  have first : SeqFrame e.s e1.s ∧ e1.s.pra = e.s.pra ∧ e1.s.seqs = e.s.seqs := by
    cases stop
    · exact ⟨.refl _, rfl, rfl⟩
    · exact ⟨placeStage_frame _ _ _, rfl, rfl⟩
  obtain ⟨frame, pra, seqs⟩ := first
  refine (h.gaveUp (f := e1.moved u .tripped Seq.stopTimers) awake
    (frame.trans (moved_frame u .tripped e1 fun _ => rfl)) ((moved_pra u .tripped e1).trans pra) fun v hv => ?_).pushed _
  rw [moved_seq_ne u .tripped e1 hv, State.seq, seqs, State.seq]

theorem ResourcesAgree.enterLocal (awake : (e.s.seq u).state ≠ .dormant) : ResourcesAgree (enterLocal u e).s := by
  have given : ResourcesAgree (Machine.giveUp u (e.moved u .localCmd Seq.stopTimers)).s :=
    h.gaveUp awake (moved_frame u .localCmd e fun _ => rfl) (moved_pra u .localCmd e) fun v hv =>
      moved_seq_ne u .localCmd e hv
  exact (given.congr (b := withdrawStage u _) rfl rfl rfl rfl rfl).pushed _

-- Arrivals -------------------------------------------------------------------------------------------------

/-- A sequencer goes on from a state that holds a lock to another. -/
theorem ResourcesAgree.enterTimed {n : SeqState} (awake : (e.s.seq u).state ≠ .dormant)
    (holds : (e.s.seq u).state.holdsLock = true) (goes : n.holdsLock = true) : ResourcesAgree (enterTimed u n e).s := by
  have frame := enterTimed_frame u n e
  have pra := enterTimed_pra u n e
  have own : ((Machine.enterTimed u n e).s.seq u).state = n := by rw [enterTimed_seq_self]; rfl
  have but : HeldBut u (Machine.enterTimed u n e).s :=
    h.held.but pra frame.tbs fun v hv => by rw [enterTimed_seq_ne n e hv]
  have none : (e.s.seq u).state ≠ .pConvwait ∧ (e.s.seq u).state ≠ .pRunup := by
    constructor <;> intro k <;> rw [k] at holds <;> cases holds
  refine h.event frame.event (but.held (fun k => ?_) (fun k => ?_) (fun k => ?_) fun _ => by rw [own]; exact goes)
    (.but awake fun v hv => enterTimed_seq_ne n e hv)
  · exact absurd (pra ▸ k) (h.held.not_queued none.1)
  · exact absurd (pra ▸ k) (h.held.not_holder none.2)
  · rw [lockOf_congr u frame.tbs (by rw [pra])] at k
    exact absurd k (h.held.not_waiter (wait_of_holdsLock holds) _)

theorem ResourcesAgree.arrivedOn {n : SeqState} (holds : (e.s.seq u).state.holdsLock = true) :
    ResourcesAgree (e.arrivedOn u n).s := by
  have awake : (e.s.seq u).state ≠ .dormant := fun k => by rw [k] at holds; cases holds
  have none : (e.s.seq u).state ≠ .pConvwait ∧ (e.s.seq u).state ≠ .pRunup := by
    constructor <;> intro k <;> rw [k] at holds <;> cases holds
  have waits := h.held.not_waiter (wait_of_holdsLock holds)
  have frame := moveTo_frame u n e
  have seqs (v : UnitNo) (hv : v ≠ u) : (moveTo u n e).s.seq v = e.s.seq v := by
    rw [State.seq, moveTo_seqs, PerUnit.get_set_ne _ _ _ _ hv, State.seq]
  have but : HeldBut u (moveTo u n e).s := h.held.but (moveTo_pra u n e) frame.tbs fun v hv => by rw [seqs v hv]
  have lock : (moveTo u n e).s.lockOf u = e.s.lockOf u := lockOf_congr u frame.tbs (by rw [moveTo_pra])
  obtain ⟨released, holder, -, asleep⟩ := but.releaseLock (by rw [lock]; exact waits _)
  have pra := releaseLock_pra u (moveTo u n e)
  rw [moveTo_pra, lock, moveTo_unit] at pra
  have released : ResourcesAgree (releaseLock u (moveTo u n e)).s := by
    refine h.event (frame.trans (releaseLock_frame u _)).event (released.held (fun k => ?_) (fun k => ?_) (fun k => ?_)
      fun k => absurd k holder) ((Asleep.but awake seqs).trans asleep)
    · refine absurd ?_ (h.held.not_queued none.1)
      rw [pra] at k
      split at k <;> exact k
    · refine absurd ?_ (h.held.not_holder none.2)
      rw [pra] at k
      split at k <;> exact k
    · rw [State.lockOf, (frame.trans (releaseLock_frame u _)).unit_eq, pra] at k
      split at k
      · dsimp only at k
        rw [PerWaterway.get_set_self] at k
        exact absurd (List.mem_of_mem_tail k) (waits _)
      · exact absurd k (waits _)
  have reported : ResourcesAgree (pushUnitState u (e.state u) n .reached
      ((releaseLock u (moveTo u n e)).s.setSeq u { (releaseLock u (moveTo u n e)).s.seq u with
        minRun := some (e.s.unit u).minRun })) :=
    (released.setState (q := { (releaseLock u (moveTo u n e)).s.seq u with minRun := some (e.s.unit u).minRun })
      rfl).pushed _
  show ResourcesAgree (Ev.s (if n = .gOn then _ else _))
  split
  · exact reported.initSetpoint u
  · exact reported

theorem ResourcesAgree.arriveOn {n : SeqState} (holds : (e.s.seq u).state.holdsLock = true) :
    ResourcesAgree (arriveOn u n e).s := (h.arrivedOn holds).actStable u

theorem ResourcesAgree.arrivedAir {n : SeqState} (was : (e.s.seq u).state = .gUnload ∨ (e.s.seq u).state = .pUnload ∨
    (e.s.seq u).state = .pRunup) : ResourcesAgree (e.arrivedAir u n).s := by
  have plain : (e.s.seq u).state ≠ .dormant ∧ (e.s.seq u).state ≠ .pConvwait ∧
      (e.s.seq u).state.waitsForLock = false ∧ (e.s.seq u).state.holdsLock = false := by
    rcases was with k | k | k <;> rw [k] <;> decide
  obtain ⟨awake, queue, waits, holds⟩ := plain
  have frame := moveTo_frame u n e
  have pra := moveTo_pra u n e
  have seqs (v : UnitNo) (hv : v ≠ u) : (moveTo u n e).s.seq v = e.s.seq v := by
    rw [State.seq, moveTo_seqs, PerUnit.get_set_ne _ _ _ _ hv, State.seq]
  have but : HeldBut u (moveTo u n e).s := h.held.but pra frame.tbs fun v hv => by rw [seqs v hv]
  obtain ⟨ended, grant⟩ := but.endGrant
  obtain ⟨locks, start⟩ := endGrant_lists u (moveTo u n e)
  have lock : (endGrant u (moveTo u n e)).s.lockOf u = e.s.lockOf u :=
    lockOf_congr u (frame.trans (endGrant_frame u _)).tbs (locks.trans (by rw [pra]))
  have ended : ResourcesAgree (endGrant u (moveTo u n e)).s := by
    refine h.event (frame.trans (endGrant_frame u _)).event (ended.heldNothing ⟨⟨fun w k => ?_, fun k => ?_⟩, fun k => ?_,
      grant⟩) ((Asleep.but awake seqs).trans (.of_seqs (endGrant_seqs u _)))
    · rw [locks, pra] at k
      exact h.held.not_waiter waits w k
    · rw [start, pra] at k
      exact h.held.not_queued queue k
    · rw [lock] at k
      exact h.held.not_lockHolder holds _ k
  exact ended.pushed _

theorem ResourcesAgree.arriveAir {n : SeqState} (was : (e.s.seq u).state = .gUnload ∨ (e.s.seq u).state = .pUnload ∨
    (e.s.seq u).state = .pRunup) : ResourcesAgree (arriveAir u n e).s := (h.arrivedAir was).actStable u

theorem ResourcesAgree.arrivedStill (stops : (e.s.seq u).state = .stopping) : ResourcesAgree (e.arrivedStill u).s :=
  (h.moved (n := .still) (f := fun q => { q with minStill := some (e.s.unit u).minStill }) (fun _ => rfl)
    (by rw [stops]; rfl) (by rw [stops]; decide)).pushed _

theorem ResourcesAgree.arriveStill (stops : (e.s.seq u).state = .stopping) : ResourcesAgree (arriveStill u e).s :=
  (h.arrivedStill stops).actStable u

/-- The head of the start queue is granted the converter where the arbiter is FREE (R154). -/
theorem ResourcesAgree.grantConverter : ResourcesAgree (grantConverter e).s := by
  by_cases hf : e.s.pra.arb = .free ∧ e.s.uib.conv.available = true
  swap
  · rw [grantConverter_idle fun ha hc => absurd ⟨ha, hc⟩ hf]
    exact h
  cases hq : e.s.pra.startQueue with
  | nil =>
    rw [grantConverter_idle fun _ _ => hq]
    exact h
  | cons v rest =>
    obtain ⟨pra, -⟩ := grantConverter_head hf.1 hf.2 hq
    have frame := grantConverter_frame e
    have waits : (e.s.seq v).state = .pConvwait := h.held.queueState v (hq ▸ List.mem_cons_self)
    have entered : ∃ f : Ev, Machine.grantConverter e = Machine.enterTimed v .pRunup f ∧ f.s.seqs = e.s.seqs := by
      unfold Machine.grantConverter
      rw [if_pos hf, hq]
      exact ⟨_, rfl, rfl⟩
    obtain ⟨f, eq, seqs⟩ := entered
    have own : ((Machine.grantConverter e).s.seq v).state = .pRunup := by
      rw [eq, enterTimed_seq_self]
      rfl
    have other (x : UnitNo) (hx : x ≠ v) : (Machine.grantConverter e).s.seq x = e.s.seq x := by
      rw [eq, enterTimed_seq_ne _ _ hx, State.seq, seqs, State.seq]
    have nodup := h.queueNodup
    rw [hq] at nodup
    have but : HeldBut v (Machine.grantConverter e).s := by
      have unit := frame.unit_eq
      refine ⟨?_, fun x hx hv => ?_, ?_, fun x hx hv => ?_, fun w => ?_, fun w x hx => ?_, fun w x hx => ?_, fun w hw => ?_⟩
      · rw [pra]
        exact (List.nodup_cons.mp nodup).2
      · rw [pra] at hx
        rw [other x hv]
        exact h.queueState x (hq ▸ List.mem_cons_of_mem _ hx)
      · rw [pra]
        rfl
      · rw [pra] at hx
        exact absurd (Option.some.inj hx).symm hv
      · rw [pra]
        exact h.waitersNodup w
      · rw [pra] at hx
        rw [unit]
        exact ⟨(h.waiterState w x hx).1, fun hv => other x hv ▸ (h.waiterState w x hx).2⟩
      · rw [pra] at hx
        rw [unit]
        exact ⟨(h.lockState w x hx).1, fun hv => other x hv ▸ (h.lockState w x hx).2⟩
      · rw [pra] at hw ⊢
        exact h.lockTaken w hw
    have lock : (Machine.grantConverter e).s.lockOf v = e.s.lockOf v := lockOf_congr v frame.tbs (by rw [pra])
    refine h.event frame.event (but.held (fun k => ?_) (fun _ => own) (fun k => ?_) fun k => ?_)
      (.but (by rw [waits]; decide) other)
    · rw [pra] at k
      exact absurd k (List.nodup_cons.mp nodup).1
    · rw [lock] at k
      exact absurd k (h.held.not_waiter (by rw [waits]; rfl) _)
    · rw [lock] at k
      exact absurd k (h.held.not_lockHolder (by rw [waits]; rfl) _)

theorem ResourcesAgree.joinStartQueue (dewaters : (e.s.seq u).state = .pDewater) :
    ResourcesAgree (joinStartQueue u e).s := by
  have frame := enterTimed_frame u .pConvwait e
  have pra := enterTimed_pra u .pConvwait e
  have own : ((Machine.enterTimed u .pConvwait e).s.seq u).state = .pConvwait := by rw [enterTimed_seq_self]; rfl
  have other (v : UnitNo) (hv : v ≠ u) : (Machine.enterTimed u .pConvwait e).s.seq v = e.s.seq v :=
    enterTimed_seq_ne _ e hv
  have fresh : u ∉ e.s.pra.startQueue := h.held.not_queued (by rw [dewaters]; decide)
  have lock : (Machine.enterTimed u .pConvwait e).s.lockOf u = e.s.lockOf u := lockOf_congr u frame.tbs (by rw [pra])
  have nothing : HoldsNothing u (Machine.enterTimed u .pConvwait e).s :=
    (h.held.holdsNothing (by rw [dewaters]; rfl)).congr frame.tbs pra
  have entered : HeldBut u (Machine.enterTimed u .pConvwait e).s :=
    h.held.but pra frame.tbs fun v hv => by rw [other v hv]
  let f : Ev := (Machine.enterTimed u .pConvwait e).map fun s =>
    s.setPra { s.pra with startQueue := s.pra.startQueue ++ [u] }
  have queue : f.s.pra.startQueue = e.s.pra.startQueue ++ [u] := by
    show (Machine.enterTimed u .pConvwait e).s.pra.startQueue ++ [u] = _
    rw [pra]
  have but : HeldBut u f.s := by
    refine ⟨?_, fun v hv hu => ?_, entered.granted, entered.holderState, entered.waitersNodup, entered.waiterState,
      entered.lockState, entered.lockTaken⟩
    · rw [queue]
      exact List.nodup_append.mpr ⟨h.queueNodup, List.nodup_singleton _, fun x hx y hy k => by
        rw [List.mem_singleton.mp hy] at k
        exact fresh (k ▸ hx)⟩
    · rw [queue] at hv
      have : v ∈ e.s.pra.startQueue := (List.mem_append.mp hv).resolve_right (by simpa using hu)
      exact (congrArg Seq.state (other v hu)).trans (h.queueState v this)
  have joined : ResourcesAgree f.s :=
    h.event (frame.trans (setPra_frame f.s.pra _ rfl)).event (but.held (fun _ => own) (fun k => absurd k nothing.grant)
      (fun k => absurd k (nothing.waits.1 _)) fun k => absurd k nothing.lock)
      (Asleep.but (by rw [dewaters]; decide) other)
  exact joined.grantConverter

theorem ResourcesAgree.advance : ResourcesAgree (advance u e).s := by
  unfold Machine.advance Ev.state
  split
  · next k => exact h.enterTimed (by rw [k]; decide) (by rw [k]; rfl) rfl
  · next k => exact h.arriveOn (by rw [k]; rfl)
  · next k => exact h.arriveOn (by rw [k]; rfl)
  · next k => exact h.arriveAir (.inl k)
  · next k => exact h.joinStartQueue k
  · next k => exact h.arriveAir (.inr (.inr k))
  · next k => exact h.arriveOn (by rw [k]; rfl)
  · next k => exact h.arriveAir (.inr (.inl k))
  · next k => exact h.arriveStill k
  · exact h

end

end Sys2Proof.Machine
end

section
/-! What a cell's arrival or a timer's expiry does keeps the arbiter in agreement with the sequencers: telemetry handed to a
sequencer, adoption, band changes, the converter, and the end of the event (R62, R84, R89, R114, R146 to R162). -/

namespace Sys2Proof.Machine

/-- An image changed, but not its identity. -/
theorem ResourcesAgree.setImage {a : State} (h : ResourcesAgree a) {u : UnitNo} {i : Image}
    (identity : i.identity = (a.image u).identity) : ResourcesAgree (a.setImage u i) :=
  h.keep (h.held.congr rfl rfl fun _ => rfl) (.of_seqs rfl) rfl rfl fun v k => by
    by_cases hv : v = u
    · subst hv
      rw [State.setImage_image_self, identity, k]
    · rw [State.setImage_image_ne _ _ _ _ hv, k]

-- Adoption (R114, R115) ------------------------------------------------------------------------------------

section
variable {u : UnitNo} {e : Ev} (h : ResourcesAgree e.s)
include h

/-- A sequencer that holds nothing adopts its unit, which is present and VERIFIED, in an engine that is not PAUSED. -/
theorem ResourcesAgree.adopt (nothing : (e.s.seq u).state.holdsNothing = true) (engine : e.s.dse.engine ≠ .paused)
    (present : (e.s.unit u).present = true) (verified : (e.s.image u).identity = .verified) :
    ResourcesAgree (adopt u e).s := by
  have frame := adopt_frame u e
  have holds := h.held.holdsNothing nothing
  have held : ResourcesHeld (Machine.adopt u e).s :=
    h.held.setOwn holds (h.held.not_lockHolder (by
      revert nothing
      cases (e.s.seq u).state <;> simp [SeqState.holdsNothing, SeqState.holdsLock])) (adopt_pra u e) frame.tbs
      (adopt_seqs u e)
  refine ⟨held.queueNodup, held.queueState, held.granted, held.holderState, held.waitersNodup, held.waiterState,
    held.lockState, held.lockTaken, fun v awake => ?_⟩
  rw [frame.dse, frame.unit_eq, frame.image_eq]
  by_cases hv : v = u
  · subst hv
    exact ⟨engine, present, verified⟩
  · refine h.awake v fun d => awake ?_
    rw [State.seq, adopt_seqs, PerUnit.get_set_ne _ _ _ _ hv]
    exact d

theorem ResourcesAgree.adoptAgain (nothing : (e.s.seq u).state.holdsNothing = true)
    (awake : (e.s.seq u).state ≠ .dormant) : ResourcesAgree (Machine.adopt u e).s :=
  have ⟨engine, present, verified⟩ := h.awake u awake
  h.adopt nothing engine present verified

-- A UNIT_STATUS at the sequencer (R136 to R140, R142) --------------------------------------------------------

theorem ResourcesAgree.takeTimed (st : Stage) (fault : Byte) (awake : (e.s.seq u).state ≠ .dormant) :
    ResourcesAgree (takeTimed u st fault e).s := by
  unfold Machine.takeTimed
  dsimp only
  split
  · exact h.enterTripped _ _ awake
  split
  · exact h.advance
  split
  · exact h
  split
  · exact h
  · exact h.enterTripped _ _ awake

theorem ResourcesAgree.takeStable (st : Stage) (fault : Byte) (awake : (e.s.seq u).state ≠ .dormant) :
    ResourcesAgree (takeStable u st fault e).s := by
  unfold Machine.takeStable
  split
  · exact h.enterTripped _ _ awake
  split
  · exact h
  · exact h.enterTripped _ _ awake

theorem ResourcesAgree.takeStage (st : Stage) (fault : Byte) : ResourcesAgree (takeStage u st fault e).s := by
  unfold Machine.takeStage Ev.state
  dsimp only
  split
  · next hs => exact h.takeStable _ _ (ne_dormant_of_stable hs)
  split
  · next hs =>
    refine h.takeTimed _ _ fun d => ?_
    rw [d] at hs
    simp [SeqState.transition] at hs
  split
  · next hs =>
    unfold takeUnsettled
    split
    · exact h.adoptAgain (by rw [hs]; rfl) (by rw [hs]; decide)
    · exact h
  · exact h

theorem ResourcesAgree.takeRemote (active : Bool) : ResourcesAgree (takeRemote u active e).s := by
  unfold Machine.takeRemote Ev.state
  dsimp only
  split
  · split
    · next hs => exact h.adoptAgain (by rw [hs.1]; rfl) (by rw [hs.1]; decide)
    · exact h
  split
  · exact h
  · next hs => exact h.enterLocal fun d => hs (.inl d)

theorem ResourcesAgree.takeLockout (active : Bool) : ResourcesAgree (takeLockout u active e).s := by
  unfold Machine.takeLockout Ev.state
  dsimp only
  have marked (b : Bool) : ResourcesAgree (e.setSeq u fun q => { q with pendLockout := b }).s := h.setState rfl
  have state (b : Bool) : ((e.setSeq u fun q => { q with pendLockout := b }).s.seq u).state = (e.s.seq u).state := by
    show ((e.s.setSeq u _).seq u).state = _
    rw [State.setSeq_seq_self]
  split
  · exact h
  split
  · split
    · exact h
    split
    · next hs =>
      refine (marked true).enterStopping ?_ ?_ <;> rw [state] <;> rcases hs.1 with k | k <;> rw [k] <;> decide
    · exact marked true
  · split
    · exact (marked false).actStable u
    · exact marked false

theorem ResourcesAgree.handToSequencer (i n : Image) (st : Stage) : ResourcesAgree (handToSequencer u i n st e).s := by
  let e1 : Ev := if i.perm.remote.val = n.perm.remote.val then e else Machine.takeRemote u n.perm.remote.val e
  let e2 : Ev := if i.perm.lockout.val = n.perm.lockout.val then e1 else Machine.takeLockout u n.perm.lockout.val e1
  have remote : ResourcesAgree e1.s := by
    dsimp only [e1]
    split
    · exact h
    · exact h.takeRemote _
  have lockout : ResourcesAgree e2.s := by
    dsimp only [e2]
    split
    · exact remote
    · exact remote.takeLockout _
  exact lockout.takeStage st n.fault

-- Band changes (R35, R107, R111) -----------------------------------------------------------------------------

theorem ResourcesAgree.bandChange : ResourcesAgree (bandChange u e).s := by
  have w := rewritten_writes u e
  have changed : ResourcesAgree (rewritten u e).s :=
    h.congr w.pra w.tbs w.seqs (by rw [w.dse]) (by rw [w.uib])
  obtain ⟨b, k | k⟩ := bandChange_cases u e
  · rw [k]
    exact changed
  · rw [k]
    exact changed.act u

theorem ResourcesAgree.recomputeBand (r : Option (Fin 12)) : ResourcesAgree (recomputeBand u r e).s := by
  have reread : ResourcesAgree (e.reread u).s := h.setImage rfl
  by_cases hc : TakesChange e.s u r
  · rw [recomputeBand_change hc]
    exact reread.bandChange
  · rw [recomputeBand_keep hc]
    exact reread

theorem ResourcesAgree.recomputeAll (r : Option (Fin 12)) (us : List UnitNo) : ResourcesAgree (recomputeAll r us e).s := by
  induction us generalizing e with
  | nil => exact h
  | cons u us ih => exact ih (h.recomputeBand r)

-- Trips cleared, lock waits ended (R133, R141) --------------------------------------------------------------

theorem ResourcesAgree.clearTrip (tripped : (e.s.seq u).state = .tripped) : ResourcesAgree (clearTrip u e).s := by
  let e2 : Ev := ((e.moved u .still fun q => { q with minStill := some (e.s.unit u).minStill }).map
    (pushUnitState u .tripped .still .cleared)).trigger true
  have cleared : ResourcesAgree e2.s :=
    (h.moved (n := .still) (f := fun q => { q with minStill := some (e.s.unit u).minStill }) (fun _ => rfl) (by rw [tripped]; rfl) (by rw [tripped]; decide)).pushed _
  have state : (e2.s.seq u).state = .still := by
    show ((pushReport _ _).seq u).state = _
    rw [pushReport_seq, moved_seq_self]
    rfl
  show ResourcesAgree (Ev.s (if (e.s.image u).perm.remote.val = true then e2.addDue u else Machine.enterLocal u e2))
  split
  · exact cleared
  · exact cleared.enterLocal (by rw [state]; decide)

theorem ResourcesAgree.returned (waits : (e.s.seq u).state.waitsForLock = true) : ResourcesAgree (e.returned u).s :=
  h.event (returned_frame (u := u) (e := e)).event (h.held.returned waits)
    (.but (fun d => by rw [d] at waits; cases waits) fun _ hv => returned_seq_ne hv)

theorem ResourcesAgree.lockwaitExpired (waits : (e.s.seq u).state.waitsForLock = true) :
    ResourcesAgree (lockwaitExpired u e).s := by
  have back : ResourcesAgree (returnToOrigin u .lockwaitTimeout e).s := by
    rw [returnToOrigin_eq]
    exact (h.returned waits).pushed _
  unfold Machine.lockwaitExpired
  dsimp only
  split
  · exact back.setState rfl
  · exact back.actStable u

end

-- The converter (R147 to R154) -------------------------------------------------------------------------------

/-- The arbiter in another state without a grant, or with the one that it has. -/
theorem ResourcesAgree.setArbiter {a : State} (h : ResourcesAgree a) {c : ConvState}
    (granted : c.granted = a.pra.arb.granted) : ResourcesAgree (setArbiter c a) :=
  h.keep ⟨h.queueNodup, h.queueState, granted.trans h.granted, h.holderState, h.waitersNodup, h.waiterState, h.lockState,
    h.lockTaken⟩ (.of_seqs rfl) rfl rfl fun _ => id

theorem ResourcesAgree.releaseTimer {a : State} (h : ResourcesAgree a) (x : Timer) :
    ResourcesAgree (a.setPra { a.pra with releaseTmr := x }) :=
  h.keep ⟨h.queueNodup, h.queueState, h.granted, h.holderState, h.waitersNodup, h.waiterState, h.lockState, h.lockTaken⟩
    (.of_seqs rfl) rfl rfl fun _ => id

theorem ResourcesAgree.raiseFlag {a : State} (h : ResourcesAgree a) (f : Sticky) : ResourcesAgree (raiseFlag f a) :=
  h.congr rfl rfl rfl rfl rfl

theorem ResourcesAgree.converterStep {a : State} (h : ResourcesAgree a) : ResourcesAgree (converterStep a) := by
  cases ha : a.pra.arb with
  | free => rw [converterStep_free ha]; exact h
  | inUse => rw [converterStep_inUse ha]; exact h
  | connecting =>
    rw [converterStep_connecting ha]
    split
    · exact h.setArbiter (by rw [ha]; rfl)
    · exact h
  | releasing =>
    rw [converterStep_releasing ha]
    split
    · exact (h.releaseTimer none).setArbiter (by show _ = a.pra.arb.granted; rw [ha]; rfl)
    · exact h
  | faulted =>
    rw [converterStep_faulted ha]
    split
    · exact h.setArbiter (by rw [ha]; rfl)
    · exact h

theorem ResourcesAgree.settleCheck {a : State} (h : ResourcesAgree a) : ResourcesAgree (settleCheck a) := by
  unfold Machine.settleCheck
  split
  · exact (h.congr (b := setOrderState .settled a) rfl rfl rfl rfl rfl).pushed _
  · exact h

section
variable {e : Ev} (h : ResourcesAgree e.s)
include h

theorem ResourcesAgree.converterFault : ResourcesAgree (converterFault e).s := by
  by_cases hg : e.s.pra.arb.granted = true
  · obtain ⟨u, hu⟩ := Option.isSome_iff_exists.mp (h.granted ▸ hg)
    have runs := h.holderState u hu
    rw [converterFault_granted hg hu]
    have abandoned : ResourcesAgree (e.map State.grantAbandoned).s :=
      h.keep ⟨h.queueNodup, h.queueState, rfl, fun v hv => (nomatch hv), h.waitersNodup, h.waiterState, h.lockState,
        h.lockTaken⟩ (.of_seqs rfl) rfl rfl fun _ => id
    have state : ((e.map State.grantAbandoned).s.seq u).state = .pRunup := runs
    exact abandoned.stopWithReport _ (by rw [state]; decide) (by rw [state]; decide)
  · have failed (ha : ConvState.granted .faulted = e.s.pra.arb.granted) :
        ResourcesAgree (Machine.setArbiter .faulted (Machine.raiseFlag .convFault e.s)) :=
      (h.raiseFlag .convFault).setArbiter ha
    cases ha : e.s.pra.arb with
    | free => rw [converterFault_free ha]; exact failed (by rw [ha]; rfl)
    | releasing => rw [converterFault_releasing ha]; exact (failed (by rw [ha]; rfl)).releaseTimer none
    | faulted => rw [converterFault_faulted ha]; exact h
    | connecting => exact absurd (by rw [ha]; rfl) hg
    | inUse => exact absurd (by rw [ha]; rfl) hg

-- The end of an event (R84, R89) -----------------------------------------------------------------------------

theorem ResourcesAgree.actTurn (old : PerUnit Entry) (u : UnitNo) : ResourcesAgree (actTurn old e u).s := by
  unfold Machine.actTurn
  dsimp only
  split
  · exact h.act u
  split
  · next k =>
    obtain ⟨-, -, -, -, air⟩ := k
    unfold Ev.state at air
    refine h.enterStopping ?_ ?_ <;> rcases air with k | k <;> rw [k] <;> decide
  · exact h

theorem ResourcesAgree.actAll (old : PerUnit Entry) : ResourcesAgree (actAll old e).s := by
  unfold Machine.actAll
  generalize UnitNo.all = us
  induction us generalizing e with
  | nil => exact h
  | cons u us ih => exact ih (h.actTurn old u)

theorem ResourcesAgree.closeSettling : ResourcesAgree (closeSettling e) := by
  unfold Machine.closeSettling
  split
  · exact h.settleCheck
  · exact h

theorem ResourcesAgree.closeEvent : ResourcesAgree (closeEvent e) := by
  unfold Machine.closeEvent
  split
  · have replanned : ResourcesAgree (e.map replan).s :=
      (h.congr (b := setOrderState .active (allocate e.s)) rfl rfl rfl rfl rfl).pushed _
    exact (replanned.actAll _).closeSettling
  · exact (h.actAll _).closeSettling

end

end Sys2Proof.Machine
end

section
/-! The engine PAUSED: what it drives rests, and only a RUN wakes it (R62, R65, R67). -/

namespace Sys2Proof.Machine

/-- The engine is PAUSED, what it drives is at its reset values, and nobody holds or waits for anything. -/
structure Resting (s : State) : Prop where
  engine  : s.dse.engine = .paused
  quiet   : PausedQuiet s
  nothing : NothingHeld s

theorem ResourcesHeld.agree_dormant {s : State} (h : ResourcesHeld s) (asleep : ∀ u, (s.seq u).state = .dormant) :
    ResourcesAgree s :=
  ⟨h.queueNodup, h.queueState, h.granted, h.holderState, h.waitersNodup, h.waiterState, h.lockState, h.lockTaken,
    fun u k => absurd (asleep u) k⟩

theorem PausedQuiet.asleep {s : State} (h : PausedQuiet s) (u : UnitNo) : (s.seq u).state = .dormant := by
  rw [h.seqs]
  rfl

theorem Consistent.resting {s : State} (h : Consistent s) (paused : s.dse.engine = .paused) : Resting s :=
  ⟨paused, h.paused paused, h.resources.held.nothing (h.paused paused).asleep⟩

theorem Resting.consistent {s : State} (h : Resting s) : Consistent s :=
  ⟨h.nothing.held.agree_dormant h.quiet.asleep, fun _ => h.quiet⟩

/-- What an act in PAUSED leaves: sequencers, ramps, orders and the arbiter's lists as they were, the arbiter FREE or FAULTED,
and no command waiting to be sent that is new but IDENT_REQ. -/
structure Rests (a b : State) : Prop where
  seqs     : b.seqs = a.seqs
  ramp     : b.rmp = a.rmp
  dse      : b.dse = { a.dse with assign := b.dse.assign, trace := b.dse.trace }
  queue    : b.pra.startQueue = a.pra.startQueue
  holder   : b.pra.holder = a.pra.holder
  locks    : b.pra.locks = a.pra.locks
  arbiter  : a.pra.arb = .free ∨ a.pra.arb = .faulted → b.pra.arb = .free ∨ b.pra.arb = .faulted
  commands : ∀ w ∈ b.lpu.cmds, w ∈ a.lpu.cmds ∨ w.cmd = .identReq

theorem Rests.refl (s : State) : Rests s s := ⟨rfl, rfl, rfl, rfl, rfl, rfl, id, fun _ => .inl⟩

theorem Rests.trans {a b c : State} (h : Rests a b) (k : Rests b c) : Rests a c where
  seqs := k.seqs.trans h.seqs
  ramp := k.ramp.trans h.ramp
  dse := by rw [k.dse, h.dse]
  queue := k.queue.trans h.queue
  holder := k.holder.trans h.holder
  locks := k.locks.trans h.locks
  arbiter := k.arbiter ∘ h.arbiter
  commands w hw := (k.commands w hw).elim (h.commands w) .inr

/-- Images, tables, plan and reports are free to change. -/
theorem Rests.of {a b : State} (seqs : b.seqs = a.seqs) (ramp : b.rmp = a.rmp) (dse : b.dse = a.dse)
    (pra : b.pra = a.pra) (commands : b.lpu.cmds = a.lpu.cmds) : Rests a b :=
  ⟨seqs, ramp, by rw [dse], by rw [pra], by rw [pra], by rw [pra], by rw [pra]; exact id, fun w hw => .inl (commands ▸ hw)⟩

theorem Rests.imaged (u : UnitNo) (i : Image) (s : State) : Rests s (s.setImage u i) := .of rfl rfl rfl rfl rfl

theorem Rests.pushed (r : Report) (s : State) : Rests s (pushReport r s) := by
  rw [pushReport_eq_reported, reported_eq]
  exact .of rfl rfl rfl rfl rfl

theorem Resting.rests {a b : State} (h : Resting a) (k : Rests a b) : Resting b := by
  obtain ⟨engine, quiet, nothing⟩ := h
  have arbiter := k.arbiter quiet.arbiter
  refine ⟨by rw [k.dse]; exact engine, ⟨fun u => ?_, k.ramp.trans quiet.ramp, ?_, ?_, ?_, arbiter, fun w hw => ?_⟩, ?_⟩
  · rw [State.seq, k.seqs]
    exact quiet.seqs u
  · rw [k.dse]
    exact quiet.standing
  · rw [k.dse]
    exact quiet.deferred
  · rw [k.dse]
    exact quiet.guard
  · exact (k.commands w hw).elim (quiet.commands w) id
  · refine ⟨k.queue.trans nothing.queue, k.holder.trans nothing.holder, ?_, fun w => k.locks ▸ nothing.locks w⟩
    rcases arbiter with h | h <;> rw [h] <;> rfl

-- Events in PAUSED -----------------------------------------------------------------------------------------

theorem actTurn_cold {old : PerUnit Entry} {e : Ev} {u : UnitNo} (h : e.s.seq u = .cold) : actTurn old e u = e := by
  have asleep : (e.s.seq u).state = .dormant := by rw [h]; rfl
  unfold actTurn
  dsimp only
  rw [act_dormant asleep, if_neg (c := _ ∧ _) fun k => by
    obtain ⟨-, -, -, linger, -⟩ := k
    rw [h] at linger
    cases linger]
  exact ite_self _

/-- An event that leaves every sequencer at its reset values and no order standing ends as it stands. -/
theorem closeEvent_cold {e : Ev} (cold : ∀ u, e.s.seq u = .cold) (none : e.s.dse.standing.state = .none) :
    closeEvent e = e.s := by
  have turns (us : List UnitNo) : us.foldl (actTurn e.s.alc.entries) e = e := by
    induction us with
    | nil => rfl
    | cons u us ih => rw [List.foldl_cons, actTurn_cold (cold u), ih]
  unfold closeEvent
  rw [if_neg (by rw [State.orderStands, none]; simp)]
  show closeSettling (UnitNo.all.foldl _ e) = _
  rw [turns, closeSettling_noOrder none]

/-- What rests through an event rests through its end. -/
theorem Resting.closed {a : State} {e : Ev} (h : Resting a) (k : Rests a e.s) : Rests a (closeEvent e) := by
  have now := h.rests k
  rw [closeEvent_cold now.quiet.seqs now.quiet.standing]
  exact k

theorem Resting.bandChange {e : Ev} (h : Resting e.s) (u : UnitNo) : Rests e.s (bandChange u e).s := by
  obtain ⟨x, q, written, -⟩ := reexamine_eq u e
  rw [(bandChange_dormant (h.quiet.asleep u)).1, written]
  exact .of rfl rfl rfl rfl rfl

theorem Resting.recomputeBand {e : Ev} (h : Resting e.s) (u : UnitNo) (r : Option (Fin 12)) :
    Rests e.s (recomputeBand u r e).s := by
  have reread : Rests e.s (e.reread u).s := .of rfl rfl rfl rfl rfl
  by_cases hc : TakesChange e.s u r
  · rw [recomputeBand_change hc]
    exact reread.trans ((h.rests reread).bandChange u)
  · rw [recomputeBand_keep hc]
    exact reread

theorem Resting.recomputeAll {e : Ev} (h : Resting e.s) (r : Option (Fin 12)) (us : List UnitNo) :
    Rests e.s (recomputeAll r us e).s := by
  induction us generalizing e with
  | nil => exact .refl _
  | cons u us ih => exact (h.recomputeBand u r).trans (ih (h.rests (h.recomputeBand u r)))

-- Events and identities ------------------------------------------------------------------------------------

/-- Event flags raised: of the state, the unit's image changes, its identity kept, and the Report Block (R52, R186). -/
theorem raiseEvents_eq (u : UnitNo) (ev : BitVec 8) (verify : Bool) (s : State) : ∃ i q, raiseEvents u ev verify s = { s with
    uib := { s.uib with images := s.uib.images.set u i }
    rpb := q } ∧ i.identity = (s.image u).identity := by
  let i : Image := { s.image u with
    events := (s.image u).events ||| ev
    verifyEvent := (s.image u).verifyEvent || verify }
  unfold raiseEvents
  dsimp only
  split
  · refine ⟨s.image u, s.rpb, ?_, rfl⟩
    rw [State.image, PerUnit.set_get]
  split
  · exact ⟨i, _, rfl, rfl⟩
  · refine ⟨i, ((s.setImage u i).reported (unitEventOf u (s.setImage u i))).rpb, ?_, rfl⟩
    exact (pushReport_eq_reported _ _).trans (reported_eq _ _)

theorem Rests.raiseEvents (u : UnitNo) (ev : BitVec 8) (verify : Bool) (s : State) :
    Rests s (raiseEvents u ev verify s) := by
  obtain ⟨i, q, hs, -⟩ := raiseEvents_eq u ev verify s
  rw [hs]
  exact .of rfl rfl rfl rfl rfl

/-- A command placed is the only one that is new. -/
theorem mem_placeIn {w x : Waiting} {q : List Waiting} (h : x ∈ placeIn w q) : x ∈ q ∨ x = w := by
  unfold placeIn at h
  split at h
  · obtain ⟨y, hy, rfl⟩ := List.mem_map.mp h
    split
    · exact .inr rfl
    · exact .inl hy
  · simpa using h

theorem Rests.placeIdent (u : UnitNo) (s : State) : Rests s (placeStage u .identReq s) :=
  ⟨rfl, rfl, rfl, rfl, rfl, rfl, id, fun _ hw => (mem_placeIn hw).imp_right fun k => by rw [k]⟩

theorem Rests.startExchange (u : UnitNo) (s : State) : Rests s (startExchange u s) :=
  ((Rests.imaged u { s.image u with
    identity := .identWait, identCount := 1, identTimer := some s.tbs.plant.identWait } s).trans
      (.placeIdent u _)).trans (.raiseEvents u 0 true _)

theorem Rests.concludeExchange (u : UnitNo) (n : Identity) (s : State) : Rests s (concludeExchange u n s) := by
  rw [concludeExchange_eq]
  exact .of rfl rfl rfl rfl rfl

theorem Rests.startExchanges (us : List UnitNo) (s : State) : Rests s (startExchanges us s) := by
  induction us generalizing s with
  | nil => exact .refl s
  | cons u us ih => exact (Rests.startExchange u s).trans (ih _)

-- Acts of the blocks in PAUSED -------------------------------------------------------------------------------

theorem Rests.takeWrite {α : Type} {h : Hdr} {answer : MgtCode → Nat → Report} {d : Decision α}
    {effect : α → State → State} {s : State} (he : ∀ x t, Rests s t → Rests t (effect x t)) :
    Rests s (takeWrite h answer d effect s) := by
  obtain hs | ⟨r, hr⟩ | ⟨k, x, r, -, hx⟩ := takeWrite_cases h answer d effect s
  · rw [hs]; exact .refl s
  · rw [hr]; exact .pushed _ _
  · rw [hx]; exact (Rests.pushed _ _).trans (he _ _ (.pushed _ _))

section
variable {s : State} (h : Resting s)
include h

theorem Resting.storePresent (u : UnitNo) (n : UnitEntry) : Rests s (storePresent u n s) := by
  obtain ⟨x, q, stored, -⟩ := storePresent_eq (u := u) (n := n) (h.quiet.asleep u)
    (by rw [State.orderStands, h.engine]; rfl)
  rw [stored]
  exact ⟨rfl, rfl, rfl, rfl, rfl, rfl, id, fun _ hw => (mem_placeIn hw).imp_right fun k => by rw [k]⟩

theorem Resting.recomputeProfile (p : Fin 4) (r : Option (Fin 12)) : Rests s (recomputeProfile p r s) :=
  h.closed (h.recomputeAll (e := .start s) r _)

/-- Tables rewritten, and the bands of a profile's units recomputed. -/
theorem Resting.rewrittenTables (t : Tbs) (p : Fin 4) (r : Option (Fin 12)) :
    Rests s (Machine.recomputeProfile p r (s.setTbs t)) :=
  have stored : Rests s (s.setTbs t) := .of rfl rfl rfl rfl rfl
  stored.trans ((h.rests stored).recomputeProfile p r)

theorem Resting.storeProfile (p : Fin 4) (n : Profile) : Rests s (storeProfile p n s) := h.rewrittenTables _ p none

theorem Resting.storeBand (p : Fin 4) (k : Fin 12) (b : Band) : Rests s (storeBand p k b s) :=
  h.rewrittenTables _ p (some k)

theorem Resting.storeMerit (index : Byte) (l : List UnitNo) : Rests s (storeMerit index l s) := by
  unfold Machine.storeMerit
  exact h.closed (.of rfl rfl rfl rfl rfl)

theorem Resting.converterEvent : Rests s (converterEvent s) := by
  refine h.closed ?_
  have failed : Rests s (setArbiter .faulted (raiseFlag .convFault s)) :=
    ⟨rfl, rfl, rfl, rfl, rfl, rfl, fun _ => .inr rfl, fun _ => .inl⟩
  have freed : Rests s (setArbiter .free s) := ⟨rfl, rfl, rfl, rfl, rfl, rfl, fun _ => .inl rfl, fun _ => .inl⟩
  split
  · rcases h.quiet.arbiter with ha | ha
    · rw [converterFault_free (e := .start s) ha]
      exact failed
    · rw [converterFault_faulted (e := .start s) ha]
      exact .refl s
  · have stepped : Rests s (converterStep s) := by
      rcases h.quiet.arbiter with ha | ha
      · rw [converterStep_free ha]
        exact .refl s
      · rw [converterStep_faulted ha]
        split
        · exact freed
        · exact .refl s
    rw [grantConverter_idle fun _ _ => (h.rests stepped).nothing.queue]
    exact stepped

/-- A snooped UNIT_STATUS in PAUSED meets a sequencer that is DORMANT. -/
theorem Resting.handToSequencer {e : Ev} (k : Rests s e.s) (u : UnitNo) (i n : Image) (st : Stage) :
    handToSequencer u i n st e = e := by
  have asleep := (h.rests k).quiet.asleep u
  have remote (b : Bool) : takeRemote u b e = e := by
    unfold takeRemote Ev.state
    rw [asleep]
    cases b <;> rfl
  have lockout (b : Bool) : takeLockout u b e = e := by
    unfold takeLockout Ev.state
    rw [asleep]
    cases b <;> rfl
  unfold Machine.handToSequencer
  dsimp only
  rw [remote, ite_self, lockout, ite_self]
  unfold takeStage Ev.state
  rw [asleep]
  rfl

theorem Resting.statusEvent (u : UnitNo) (st : Stage) (n : Image) : Rests s (statusEvent u st n s) := by
  refine h.closed ?_
  let s1 : State := raiseEvents u (newlyActive (s.image u) n &&& (s.image u).watch) false (s.setImage u n)
  let s2 : State := if (s.image u).identity = .absent then startExchange u s1 else s1
  have flagged : Rests s s1 := (Rests.imaged u n s).trans (.raiseEvents u _ false _)
  have begun : Rests s s2 := by
    dsimp only [s2]
    split
    · exact flagged.trans (.startExchange u _)
    · exact flagged
  let e1 : Ev := if (s.image u).identity = .verified then Machine.handToSequencer u (s.image u) n st (.start s2) else .start s2
  have handed : e1 = .start s2 := by
    dsimp only [e1]
    rw [h.handToSequencer begun, ite_self]
  show Rests s (Ev.s (if n.band = (s.image u).band then e1 else Machine.bandChange u e1))
  rw [handed]
  split
  · exact begun
  · exact begun.trans (Resting.bandChange (e := .start s2) (h.rests begun) u)

theorem Resting.tel {t : State} (k : TelAct s t) : Rests s t := by
  obtain rfl | ⟨hd, c, r, rfl⟩ | ⟨hd, st, f, pw, head, pm, il, rfl⟩ | ⟨hd, r, f, c, rfl⟩ := k
  · exact .refl _
  · unfold takeUnitIdent
    split
    · exact .refl s
    split
    · split
      · refine h.closed ?_
        rw [if_neg (by rw [h.engine]; decide)]
        exact .concludeExchange _ _ s
      · exact .concludeExchange _ _ s
    · exact .refl s
  · unfold snoopUnitStatus
    split
    · exact h.statusEvent _ _ _
    · exact .refl s
  · unfold snoopConvStatus
    split
    · have imaged : Rests s (s.setUib { s.uib with conv := .ofFields r f c }) := .of rfl rfl rfl rfl rfl
      exact imaged.trans (h.rests imaged).converterEvent
    · exact .refl s

theorem Resting.rampIdle : s.rmp.timer = none := by
  rw [h.quiet.ramp]
  rfl

end

end Sys2Proof.Machine
end

section
/-! Orders, table writes, management cells, telemetry and timers, each as the block takes it: the arbiter stays in agreement
with the sequencers, and in PAUSED everything rests (R62 to R80, R114, R146 to R160). -/

namespace Sys2Proof.Machine

-- Updates outside the sequencers and the arbiter -------------------------------------------------------------

section
variable {s : State} (h : ResourcesAgree s)
include h

theorem ResourcesAgree.setDse {d : Dse} (engine : d.engine = s.dse.engine) : ResourcesAgree (s.setDse d) :=
  h.congr rfl rfl rfl engine rfl

/-- Other tables, the UNIT table as it is. -/
theorem ResourcesAgree.setTbs {t : Tbs} (units : t.units = s.tbs.units) : ResourcesAgree (s.setTbs t) := by
  have unit (u : UnitNo) : (s.setTbs t).unit u = s.unit u := congrArg (PerUnit.get · u) units
  exact ⟨h.queueNodup, h.queueState, h.granted, h.holderState, h.waitersNodup,
    fun w u hu => by rw [unit]; exact h.waiterState w u hu, fun w u hu => by rw [unit]; exact h.lockState w u hu,
    h.lockTaken, fun u awake => by rw [unit]; exact h.awake u awake⟩

/-- The engine in another state that is not PAUSED. -/
theorem ResourcesAgree.setEngine {d : Dse} (runs : d.engine ≠ .paused) : ResourcesAgree (s.setDse d) :=
  ⟨h.queueNodup, h.queueState, h.granted, h.holderState, h.waitersNodup, h.waiterState, h.lockState, h.lockTaken,
    fun u awake => ⟨runs, (h.awake u awake).2⟩⟩

-- Orders (R71 to R80) ----------------------------------------------------------------------------------------

theorem ResourcesAgree.takeOrder (o : Order) : ResourcesAgree (takeOrder o s) := by
  unfold Machine.takeOrder
  dsimp only
  refine ResourcesAgree.closeSettling (ResourcesAgree.actAll (e := .start _) ?_ _)
  have planned : ResourcesAgree (allocate (setStanding { s.dse.standing with state := .active, order := o } s)) :=
    h.congr rfl rfl rfl rfl rfl
  have answered := planned.pushed (orderResultOf o (if o.clamped then .clamped else .accepted)
    (some (allocate (setStanding { s.dse.standing with state := .active, order := o } s)).alc.summary))
  split
  · refine ResourcesAgree.setDse ?_ rfl
    split
    · exact answered
    · exact answered.pushed _
  · split
    · exact answered
    · exact answered.pushed _

theorem ResourcesAgree.deferOrder (o : Order) : ResourcesAgree (deferOrder o s) := by
  have deferred := (h.setDse (d := { s.dse with deferred := some o }) rfl).pushed (orderResultOf o .deferred none)
  unfold Machine.deferOrder
  dsimp only
  split
  · exact deferred.pushed _
  · exact deferred

theorem ResourcesAgree.takeNetPower (hd : Hdr) (id target : Half) (cls : Byte) :
    ResourcesAgree (takeNetPower hd id target cls s) := by
  unfold Machine.takeNetPower
  dsimp only
  split
  · exact h.pushed _
  split
  · exact h.deferOrder _
  · exact h.takeOrder _

theorem ResourcesAgree.guardExpired : ResourcesAgree (guardExpired s) := by
  unfold Machine.guardExpired
  split
  · exact (h.setDse (d := { s.dse with guardTmr := none, deferred := none }) rfl).takeOrder _
  · exact h.setDse rfl

theorem ResourcesAgree.acceptUnitMode (hd : Hdr) (id : Half) (unit mode : Byte) (setpoint : Half) (cls : Byte)
    (u : UnitNo) : ResourcesAgree (acceptUnitMode hd id unit mode setpoint cls u s) := by
  let n := orderedEntry s hd id u (orderedMode mode) setpoint cls
  have answered : ResourcesAgree (pushReport (orderAnswer hd id subUnitMode (modeResult mode n.share setpoint) unit)
      (s.setEntry u n)) := (h.congr (b := s.setEntry u n) rfl rfl rfl rfl rfl).pushed _
  unfold Machine.acceptUnitMode
  dsimp only
  refine ResourcesAgree.closeEvent (e := Ev.trigger true _) ?_
  rw [trigger_s]
  split
  · exact answered
  · exact ResourcesAgree.act (e := .start _) answered u

theorem ResourcesAgree.takeUnitMode (hd : Hdr) (id : Half) (unit mode : Byte) (setpoint : Half) (cls : Byte) :
    ResourcesAgree (takeUnitMode hd id unit mode setpoint cls s) := by
  unfold Machine.takeUnitMode
  dsimp only
  split
  · exact h.pushed _
  split
  · exact h.pushed _
  split
  · exact h.pushed _
  split
  · exact h.pushed _
  · exact h.acceptUnitMode _ _ _ _ _ _ _

theorem ResourcesAgree.takeUnitAssign (hd : Hdr) (id : Half) (unit code : Byte) :
    ResourcesAgree (takeUnitAssign hd id unit code s) := by
  unfold Machine.takeUnitAssign
  dsimp only
  split
  · exact h.pushed _
  · next u _ =>
    refine ResourcesAgree.closeEvent (e := Ev.trigger true (.start _)) ?_
    exact (h.setDse (d := { s.dse with assign := s.dse.assign.set u (.ofCode code) }) rfl).pushed _

theorem ResourcesAgree.takeUnitClear (hd : Hdr) (id : Half) (unit : Byte) :
    ResourcesAgree (takeUnitClear hd id unit s) := by
  unfold Machine.takeUnitClear
  split
  · exact h.pushed _
  split
  · next u _ clear =>
    have tripped : (s.seq u).state = .tripped := by
      rw [clearable, Bool.and_eq_true, Bool.and_eq_true, beq_iff_eq] at clear
      exact clear.1.1
    exact ResourcesAgree.closeEvent (e := Ev.map _ _)
      ((ResourcesAgree.clearTrip (e := .start s) h tripped).pushed _)
  · exact h.pushed _

theorem ResourcesAgree.endStanding (st : OrderState) (after : Standing) : ResourcesAgree (endStanding st after s) := by
  unfold Machine.endStanding
  split
  · exact h.setDse rfl
  · exact (h.pushed _).setDse rfl

theorem ResourcesAgree.dropDeferred : ResourcesAgree (dropDeferred s) := by
  unfold Machine.dropDeferred
  dsimp only
  split
  · exact (h.pushed _).setDse rfl
  · exact h.setDse rfl

theorem ResourcesAgree.takeAbort (hd : Hdr) (id : Half) : ResourcesAgree (takeAbort hd id s) := by
  unfold Machine.takeAbort
  split
  · refine ResourcesAgree.closeEvent (e := { Ev.start _ with due := UnitNo.all }) ?_
    have dropped := (h.pushed (orderAnswer hd id subAbort .accepted 0)).endStanding .aborted
      { s.dse.standing with state := .none } |>.dropDeferred
    exact (dropped.setEngine (d := { (Machine.dropDeferred _).dse with engine := .halted }) nofun).congr
      rfl rfl rfl rfl rfl
  · exact h.pushed _
  · exact h.pushed _

end

-- Adoption one after another (R65, R80, R114) ----------------------------------------------------------------

theorem ResourcesAgree.adoptAll {us : List UnitNo} (distinct : us.Nodup) {e : Ev} (h : ResourcesAgree e.s)
    (runs : e.s.dse.engine ≠ .paused) (asleep : ∀ u ∈ us, (e.s.seq u).state = .dormant)
    (ready : ∀ u ∈ us, adoptable e.s u = true) : ResourcesAgree (adoptAll us e).s := by
  induction us generalizing e with
  | nil => exact h
  | cons u us ih =>
    obtain ⟨fresh, distinct⟩ := List.nodup_cons.mp distinct
    have frame := adopt_frame u e
    have here := ready u List.mem_cons_self
    rw [adoptable, Bool.and_eq_true, beq_iff_eq] at here
    refine ih distinct (h.adopt (by rw [asleep u List.mem_cons_self]; rfl) runs here.1 here.2) ?_ (fun v hv => ?_)
      fun v hv => ?_
    · rw [frame.dse]
      exact runs
    · rw [State.seq, adopt_seqs, PerUnit.get_set_ne _ _ _ _ fun k : v = u => fresh (k ▸ hv)]
      exact asleep v (List.mem_cons_of_mem _ hv)
    · rw [adoptable, frame.unit_eq, frame.image_eq]
      exact ready v (List.mem_cons_of_mem _ hv)

theorem ResourcesAgree.takeResume {s : State} (h : ResourcesAgree s) (hd : Hdr) (id : Half) :
    ResourcesAgree (takeResume hd id s) := by
  unfold Machine.takeResume
  split
  · let s1 : State := pushReport (orderAnswer hd id subResume .accepted 0) s
    let s2 : State := s1.setDse { s1.dse with engine := .running }
    have running : ResourcesAgree s2 := (h.pushed _).setEngine nofun
    have frame : SeqFrame s s1 := pushReport_frame _ _
    have seq (u : UnitNo) : s2.seq u = s.seq u := congrArg (PerUnit.get · u) (pushReport_seqs _ s)
    refine ResourcesAgree.closeEvent (ResourcesAgree.adoptAll (e := .start s2) ((by decide : UnitNo.all.Nodup).filter _)
      running nofun (fun u hu => ?_) fun u hu => ?_)
    all_goals
      obtain ⟨-, ready⟩ := List.mem_filter.mp hu
      rw [Bool.and_eq_true, beq_iff_eq] at ready
    · show (s2.seq u).state = _
      rw [seq]
      exact ready.2
    · rw [← ready.1, adoptable, adoptable]
      show ((s1.unit u).present && (s1.image u).identity == _) = _
      rw [frame.unit_eq, frame.image_eq]
  · exact h.pushed _

/-- The accepted RUN: everyone asleep until its unit is adopted. -/
theorem Resting.runAccepted {s : State} (h : Resting s) (hd : Hdr) : ResourcesAgree (runAccepted hd s) := by
  have answered := h.rests (.pushed (mgtPlain hd subEngine .accepted) s)
  let s1 : State := pushReport (mgtPlain hd subEngine .accepted) s
  let s2 : State := s1.setDse { s1.dse with assign := .ofFn (fun u => (s1.unit u).assign), engine := .running }
  have running : ResourcesAgree s2 := answered.consistent.resources.setEngine nofun
  have adopted : ResourcesAgree (Machine.adoptAll (UnitNo.all.filter (adoptable s2)) (.start s2)).s :=
    ResourcesAgree.adoptAll ((by decide : UnitNo.all.Nodup).filter _) running nofun
      (fun u _ => answered.quiet.asleep u) fun u hu => (List.mem_filter.mp hu).2
  exact ResourcesAgree.closeEvent (e := Ev.map _ _) (adopted.congr rfl rfl rfl rfl rfl)

-- An accepted PAUSE (R67) -----------------------------------------------------------------------------------

/-- With no sequencer in a transition and the arbiter without a grant nobody holds or waits for anything (R66). -/
theorem ResourcesHeld.notBusy {s : State} (h : ResourcesHeld s) (idle : pauseBusy s = false) : NothingHeld s := by
  rw [pauseBusy, Bool.or_eq_false_iff, List.any_eq_false] at idle
  obtain ⟨calm, arb⟩ := idle
  have still (u : UnitNo) : (s.seq u).state ≠ .pConvwait ∧ (s.seq u).state.holdsLock = false := by
    have := calm u (UnitNo.mem_all u)
    constructor
    · intro k
      rw [k] at this
      exact this rfl
    · by_contra k
      refine this ?_
      revert k
      cases (s.seq u).state <;> decide
  have granted : s.pra.arb.granted = false := by
    revert arb
    cases s.pra.arb <;> decide
  have lock (w : Waterway) : (s.pra.locks.get w).holder = none :=
    Option.eq_none_iff_forall_not_mem.mpr fun u hu => h.not_lockHolder (still u).2 w hu
  refine ⟨List.eq_nil_iff_forall_not_mem.mpr fun u => h.not_queued (still u).1, ?_, granted,
    fun w => ⟨lock w, h.lockTaken w (lock w)⟩⟩
  rw [← Option.not_isSome_iff_eq_none, ← h.granted, granted]
  decide

/-- The reports of an accepted PAUSE and the orders that end leave the arbiter. -/
theorem pra_endOrders (r : Report) (st : OrderState) (after : Standing) (s : State) :
    (dropDeferred (endStanding st after (pushReport r s))).pra = s.pra := by
  have pushed (r : Report) (s : State) : (pushReport r s).pra = s.pra := by rw [pushReport_eq_reported, reported_eq]
  unfold dropDeferred endStanding
  dsimp only
  split <;> split <;> simp only [State.setDse_pra, setStanding, pushed]

theorem Resting.pauseAccepted {s : State} (h : ResourcesHeld s) (hd : Hdr) (idle : pauseBusy s = false) :
    Resting (pauseAccepted hd s) := by
  have pra : (Machine.pauseAccepted hd s).pra = s.pra := pra_endOrders _ _ _ s
  have standing : (Machine.pauseAccepted hd s).dse.standing.state = .none := by
    show (Machine.dropDeferred (Machine.endStanding .ended .cleared _)).dse.standing.state = _
    have ended : (Machine.endStanding .ended .cleared (pushReport (mgtPlain hd subEngine .accepted) s)).dse.standing.state =
        .none := rfl
    unfold Machine.dropDeferred
    dsimp only
    split
    · next o _ =>
      exact (congrArg (fun d : Dse => d.standing.state) (pushReport_frame (orderResultOf o .dropped none) _).dse).trans ended
    · exact ended
  refine ⟨rfl, ⟨fun u => PerUnit.get_all _ _, rfl, standing, rfl, rfl, ?_, fun w hw => ?_⟩, (h.notBusy idle).congr pra⟩
  · rw [pra]
    have arb := (Bool.or_eq_false_iff.mp idle).2
    revert arb
    cases s.pra.arb <;> decide
  · simpa using (List.mem_filter.mp hw).2

end Sys2Proof.Machine
end

section
/-! Tables, telemetry and timers, and every step: what the arbiter holds agrees with the sequencers, and a PAUSED engine is
quiet (R20 to R36, R41 to R58, R131 to R135, R151, R170, R180). -/

namespace Sys2Proof.Machine

-- Writes for which the engine must be PAUSED (R24, R26, R34) --------------------------------------------------

theorem decidePlant_paused {s : State} {index : Byte} {f : PlantFields} {k : Nat} {p : Plant}
    (h : decidePlant s index f = .store k p) : s.dse.engine = .paused := by
  by_contra running
  by_cases hi : index = 0
  · rw [decidePlant_running s index f hi running] at h
    cases h
  · rw [decidePlant_noEntry s index f hi] at h
    cases h

theorem decideUnit_paused {s : State} {index present : Byte} {f : UnitFields} {k : Nat} {x : UnitNo × UnitEntry}
    (h : decideUnit s index present f = .store k x) : s.dse.engine = .paused := by
  by_contra running
  unfold decideUnit at h
  dsimp only at h
  split at h
  · cases h
  · rw [if_pos running] at h
    cases h

theorem decideWaterway_paused {s : State} {index : Byte} {budget : Half} {k : Nat} {x : Waterway × Nat}
    (h : decideWaterway s index budget = .store k x) : s.dse.engine = .paused := by
  by_contra running
  unfold decideWaterway at h
  split at h
  · cases h
  · rw [if_pos running] at h
    cases h

section
variable {s : State} (h : ResourcesAgree s)
include h

theorem ResourcesAgree.takeWrite {α : Type} {hd : Hdr} {answer : MgtCode → Nat → Report} {d : Decision α}
    {effect : α → State → State} (he : ∀ k x t, d = .store k x → ResourcesAgree t → ResourcesAgree (effect x t)) :
    ResourcesAgree (takeWrite hd answer d effect s) := by
  obtain hs | ⟨r, hr⟩ | ⟨k, x, r, hk, hx⟩ := takeWrite_cases hd answer d effect s
  · rw [hs]; exact h
  · rw [hr]; exact h.pushed r
  · rw [hx]; exact he k x _ hk (h.pushed r)

theorem ResourcesAgree.recomputeProfile (p : Fin 4) (r : Option (Fin 12)) :
    ResourcesAgree (recomputeProfile p r s) :=
  ResourcesAgree.closeEvent (e := Ev.trigger true _) (ResourcesAgree.recomputeAll (e := .start s) h r (unitsOfProfile s p))

theorem ResourcesAgree.storeProfile (p : Fin 4) (n : Profile) : ResourcesAgree (storeProfile p n s) := by
  unfold Machine.storeProfile
  exact (h.setTbs (t := { s.tbs with profiles := s.tbs.profiles.set p n }) rfl).recomputeProfile p none

theorem ResourcesAgree.storeBand (p : Fin 4) (k : Fin 12) (b : Band) : ResourcesAgree (storeBand p k b s) := by
  unfold Machine.storeBand
  exact (h.setTbs (t := { s.tbs with bands := s.tbs.bands.set p ((s.tbs.bands[p]).set k b) }) rfl).recomputeProfile p (some k)

theorem ResourcesAgree.storeMerit (index : Byte) (l : List UnitNo) : ResourcesAgree (storeMerit index l s) := by
  unfold Machine.storeMerit
  dsimp only
  split <;> exact ResourcesAgree.closeEvent (e := Ev.trigger true (.start _)) (h.setTbs rfl)

-- Telemetry (R41 to R58, R147) ---------------------------------------------------------------------------------

theorem ResourcesAgree.raiseEvents (u : UnitNo) (ev : BitVec 8) (verify : Bool) :
    ResourcesAgree (raiseEvents u ev verify s) := by
  obtain ⟨i, q, hs, identity⟩ := raiseEvents_eq u ev verify s
  rw [hs]
  exact (h.setImage identity).congr rfl rfl rfl rfl rfl

/-- A unit that is not VERIFIED takes another identity. -/
theorem ResourcesAgree.reidentified {u : UnitNo} {i : Image} (was : (s.image u).identity ≠ .verified) :
    ResourcesAgree (s.setImage u i) :=
  h.keep (h.held.congr rfl rfl fun _ => rfl) (.of_seqs rfl) rfl rfl fun v k => by
    by_cases hv : v = u
    · subst hv
      exact absurd k was
    · rw [State.setImage_image_ne _ _ _ _ hv, k]

theorem ResourcesAgree.placed (slot : Slot) (dest : Nat) (c : Command) : ResourcesAgree (place slot dest c s) :=
  h.congr rfl rfl rfl rfl rfl

theorem ResourcesAgree.startExchange {u : UnitNo} (was : (s.image u).identity ≠ .verified) :
    ResourcesAgree (startExchange u s) :=
  ((h.reidentified was).placed _ _ _).raiseEvents u 0 true

theorem ResourcesAgree.concludeExchange {u : UnitNo} (n : Identity) (was : (s.image u).identity ≠ .verified) :
    ResourcesAgree (concludeExchange u n s) := (h.reidentified was).raiseEvents u 0 true

/-- A unit that is not VERIFIED is asleep (R114). -/
theorem ResourcesAgree.asleep {u : UnitNo} (was : (s.image u).identity ≠ .verified) : (s.seq u).state = .dormant := by
  by_contra awake
  exact was (h.awake u awake).2.2

theorem ResourcesAgree.verifiedEvent {u : UnitNo} (waits : (s.image u).identity = .identWait)
    (present : (s.unit u).present = true) : ResourcesAgree (verifiedEvent u s) := by
  have was : (s.image u).identity ≠ .verified := by rw [waits]; decide
  have concluded := h.concludeExchange .verified was
  unfold Machine.verifiedEvent
  dsimp only
  refine ResourcesAgree.closeEvent (e := Ev.trigger true _) ?_
  rw [trigger_s]
  split
  · next running =>
    refine ResourcesAgree.adopt (e := .start _) concluded ?_ ?_ ?_ ?_
    · show ((Machine.concludeExchange u .verified s).seq u).state.holdsNothing = true
      rw [State.seq, concludeExchange_seqs, ← State.seq, h.asleep was]
      rfl
    · show (Machine.concludeExchange u .verified s).dse.engine ≠ _
      rw [concludeExchange_dse, running]
      decide
    · show ((Machine.concludeExchange u .verified s).unit u).present = true
      rw [State.unit, concludeExchange_tbs]
      exact present
    · show ((Machine.concludeExchange u .verified s).image u).identity = _
      rw [concludeExchange_image_self]
      rfl
  · exact concluded

theorem ResourcesAgree.statusEvent {u : UnitNo} {n : Image} (st : Stage) (identity : n.identity = (s.image u).identity) :
    ResourcesAgree (statusEvent u st n s) := by
  let s1 : State := Machine.raiseEvents u (newlyActive (s.image u) n &&& (s.image u).watch) false (s.setImage u n)
  let s2 : State := if (s.image u).identity = .absent then Machine.startExchange u s1 else s1
  let e1 : Ev := if (s.image u).identity = .verified then Machine.handToSequencer u (s.image u) n st (.start s2) else .start s2
  let e2 : Ev := if n.band = (s.image u).band then e1 else Machine.bandChange u e1
  have flagged : ResourcesAgree s1 := (h.setImage identity).raiseEvents _ _ _
  have identified : (s1.image u).identity = (s.image u).identity := by
    obtain ⟨i, q, hs, hi⟩ := raiseEvents_eq u (newlyActive (s.image u) n &&& (s.image u).watch) false (s.setImage u n)
    have image : s1.image u = i := by
      rw [show s1 = _ from hs]
      exact PerUnit.get_set_self _ _ _
    rw [image, hi, State.setImage_image_self, identity]
  have begun : ResourcesAgree s2 := by
    dsimp only [s2]
    split
    · next absent => exact flagged.startExchange (by rw [identified, absent]; decide)
    · exact flagged
  have handed : ResourcesAgree e1.s := by
    dsimp only [e1]
    split
    · exact ResourcesAgree.handToSequencer (e := .start s2) begun _ _ st
    · exact begun
  have banded : ResourcesAgree e2.s := by
    dsimp only [e2]
    split
    · exact handed
    · exact handed.bandChange
  exact ResourcesAgree.closeEvent (e := e2.trigger _) banded

theorem ResourcesAgree.converterEvent : ResourcesAgree (converterEvent s) := by
  refine ResourcesAgree.closeEvent ?_
  split
  · exact ResourcesAgree.converterFault (e := .start s) h
  · exact ResourcesAgree.grantConverter (e := (Ev.start s).map Machine.converterStep) h.converterStep

theorem ResourcesAgree.tel {t : State} (k : TelAct s t) : ResourcesAgree t := by
  obtain rfl | ⟨hd, c, r, rfl⟩ | ⟨hd, st, f, pw, head, pm, il, rfl⟩ | ⟨hd, r, f, c, rfl⟩ := k
  · exact h
  · unfold takeUnitIdent
    split
    · exact h
    next u hu =>
    have present : (s.unit u).present = true := by
      have found := List.find?_some (p := fun v => (s.unit v).present && (s.unit v).addr == hd.src.toNat) hu
      exact (Bool.and_eq_true_iff.mp found).1
    split
    · next waits =>
      split
      · exact h.verifiedEvent waits present
      · exact h.concludeExchange _ (by rw [waits]; decide)
    · exact h
  · unfold snoopUnitStatus
    split
    · exact h.statusEvent _ rfl
    · exact h
  · unfold snoopConvStatus
    split
    · exact (h.congr (b := s.setUib { s.uib with conv := .ofFields r f c }) rfl rfl rfl rfl rfl).converterEvent
    · exact h

-- The ramp (R170, R180) ------------------------------------------------------------------------------------------

theorem ResourcesAgree.rampExpiry : ResourcesAgree (rampExpiry s) := by
  let s1 : State := startRampTimer s
  let s2 : State := if s1.dse.engine = .running then rampRunning s1 else s1
  have started : ResourcesAgree s1 := h.congr rfl rfl rfl rfl rfl
  have stepped : ResourcesAgree s2 := by
    dsimp only [s2]
    split
    · have others := (placedFor_foldl s1 (us := UnitNo.all) (by decide) (stepSetpoints s1)).others
      refine ResourcesAgree.settleCheck ?_
      rw [others]
      exact started.congr rfl rfl rfl rfl rfl
    · exact started
  show ResourcesAgree (if s2.dse.trace then queueSnapshot s2 else s2)
  split
  · obtain ⟨q, hs, -⟩ := queueSnapshot_eq s2
    rw [hs]
    exact stepped.congr rfl rfl rfl rfl rfl
  · exact stepped

theorem ResourcesAgree.takeWatch (hd : Hdr) (unit mask : Byte) : ResourcesAgree (takeWatch hd unit mask s) := by
  unfold Machine.takeWatch
  split
  · exact h.pushed _
  · next u _ =>
    exact ((h.setImage (u := u) (i := { s.image u with watch := mask }) rfl).pushed _).raiseEvents _ _ _

-- The acts of the blocks in an engine that is not PAUSED ---------------------------------------------------------

/-- Every act on an ORDER or MGT cell but PAUSE and RESTART (R6). -/
theorem ResourcesAgree.taken (runs : s.dse.engine ≠ .paused) (i : Instr) (noPause : ∀ hd p, i ≠ .enginePause hd p)
    (noRestart : ∀ hd r, i ≠ .restart hd r) : ResourcesAgree (takeOrderOrMgt i s) := by
  have gate (b : Bool) (r : Report) : ResourcesAgree (pushReport r (s.setTbs { s.tbs with gateOpen := b })) :=
    (h.setTbs (t := { s.tbs with gateOpen := b }) rfl).pushed r
  cases i with
  | netPower => exact h.takeNetPower _ _ _ _
  | unitMode => exact h.takeUnitMode _ _ _ _ _ _
  | unitAssign => exact h.takeUnitAssign _ _ _ _
  | unitClear => exact h.takeUnitClear _ _ _
  | abort => exact h.takeAbort _ _
  | resume => exact h.takeResume _ _
  | tableGateOpen hd p =>
    show ResourcesAgree (takeGateOpen hd s)
    unfold takeGateOpen
    split
    · exact h
    · exact gate true _
  | tableGateClose hd p =>
    show ResourcesAgree (takeGateClose hd s)
    unfold takeGateClose
    split
    · exact h
    · exact gate false _
  | tableGateBadRequest hd r p =>
    show ResourcesAgree (takeGateBadRequest hd s)
    unfold takeGateBadRequest
    split
    · exact h
    · exact h.pushed _
  | plantWrite => exact h.takeWrite fun k x t hk _ => absurd (decidePlant_paused hk) runs
  | unitWritePresent => exact h.takeWrite fun k x t hk _ => absurd (decideUnit_paused hk) runs
  | unitWriteAbsent => exact h.takeWrite fun k x t hk _ => absurd (decideUnit_paused hk) runs
  | profileWrite => exact h.takeWrite fun k x t _ ht => ht.storeProfile x.1 x.2
  | bandWrite => exact h.takeWrite fun k x t _ ht => ht.storeBand x.1 x.2.1 x.2.2
  | meritWrite => exact h.takeWrite fun k x t _ ht => ht.storeMerit _ _
  | waterwayWrite => exact h.takeWrite fun k x t hk _ => absurd (decideWaterway_paused hk) runs
  | tableWriteUnknownTable hd table index p =>
    show ResourcesAgree (takeUnknownTable hd table index s)
    exact h.takeWrite (effect := fun (_ : Unit) t => t) fun k x t _ ht => ht
  | tableRead hd table index band p =>
    show ResourcesAgree (takeTableRead hd table index band s)
    unfold takeTableRead
    split <;> exact h.pushed _
  | engineRun hd p =>
    show ResourcesAgree (takeEngineRun hd s)
    unfold takeEngineRun
    rw [if_neg runs]
    exact h.pushed _
  | enginePause hd p => exact absurd rfl (noPause hd p)
  | engineBadRequest => exact h.pushed _
  | restart hd r => exact absurd rfl (noRestart hd r)
  | traceOn => exact (h.setDse (d := { s.dse with trace := true }) rfl).pushed _
  | traceOff => exact (h.setDse (d := { s.dse with trace := false }) rfl).pushed _
  | traceBadRequest => exact h.pushed _
  | watch => exact h.takeWatch _ _ _
  | echo => exact h.pushed _
  | _ => exact h

end

-- The acts of the blocks in PAUSED ---------------------------------------------------------------------------------

theorem Rests.takeWatch (hd : Hdr) (unit mask : Byte) (s : State) : Rests s (takeWatch hd unit mask s) := by
  unfold Machine.takeWatch
  split
  · exact .pushed _ _
  · next u _ => exact ((Rests.imaged u { s.image u with watch := mask } s).trans (.pushed _ _)).trans (.raiseEvents _ _ _ _)

section
variable {s : State} (h : Resting s)
include h

/-- The orders are refused in PAUSED, but UNIT_ASSIGN, which sets the live assignment (R71, R75, R77, R78). -/
theorem Resting.takeUnitMode (hd : Hdr) (id : Half) (unit mode : Byte) (setpoint : Half) (cls : Byte) :
    Rests s (takeUnitMode hd id unit mode setpoint cls s) := by
  unfold Machine.takeUnitMode
  dsimp only
  split
  · exact .pushed _ _
  split
  · exact .pushed _ _
  · rw [if_pos h.engine]
    exact .pushed _ _

theorem Resting.takeUnitAssign (hd : Hdr) (id : Half) (unit code : Byte) :
    Rests s (takeUnitAssign hd id unit code s) := by
  unfold Machine.takeUnitAssign
  dsimp only
  split
  · exact .pushed _ _
  · next u _ =>
    have assigned : Rests s (s.setAssign u (.ofCode code)) := ⟨rfl, rfl, rfl, rfl, rfl, rfl, fun k => k, fun _ => .inl⟩
    exact h.closed (e := Ev.trigger true (.start _)) (assigned.trans (.pushed _ _))

theorem Resting.takeUnitClear (hd : Hdr) (id : Half) (unit : Byte) : Rests s (takeUnitClear hd id unit s) := by
  unfold Machine.takeUnitClear
  split
  · exact .pushed _ _
  · next u _ =>
    rw [if_neg (by rw [clearable, h.quiet.asleep]; exact Bool.false_ne_true)]
    exact .pushed _ _

/-- Every act on an ORDER or MGT cell but RUN and RESTART (R6). -/
theorem Resting.taken (i : Instr) (noRun : ∀ hd p, i ≠ .engineRun hd p) (noRestart : ∀ hd r, i ≠ .restart hd r) :
    Rests s (takeOrderOrMgt i s) := by
  have gate (b : Bool) (r : Report) : Rests s (pushReport r (s.setTbs { s.tbs with gateOpen := b })) :=
    Rests.trans (b := s.setTbs { s.tbs with gateOpen := b }) (.of rfl rfl rfl rfl rfl) (.pushed r _)
  have trace (b : Bool) (r : Report) : Rests s (pushReport r (s.setDse { s.dse with trace := b })) :=
    Rests.trans (b := s.setDse { s.dse with trace := b }) ⟨rfl, rfl, rfl, rfl, rfl, rfl, id, fun _ => .inl⟩ (.pushed r _)
  cases i with
  | netPower hd id v c p =>
    show Rests s (takeNetPower hd id v c s)
    unfold takeNetPower
    dsimp only
    rw [if_pos (by rw [h.engine]; decide)]
    exact .pushed _ _
  | unitMode => exact h.takeUnitMode _ _ _ _ _ _
  | unitAssign => exact h.takeUnitAssign _ _ _ _
  | unitClear => exact h.takeUnitClear _ _ _
  | abort hd id p =>
    show Rests s (takeAbort hd id s)
    unfold takeAbort
    rw [h.engine]
    exact .pushed _ _
  | resume hd id p =>
    show Rests s (takeResume hd id s)
    unfold takeResume
    rw [if_neg (by rw [h.engine]; decide)]
    exact .pushed _ _
  | tableGateOpen hd p =>
    show Rests s (takeGateOpen hd s)
    unfold takeGateOpen
    split
    · exact .refl s
    · exact gate true _
  | tableGateClose hd p =>
    show Rests s (takeGateClose hd s)
    unfold takeGateClose
    split
    · exact .refl s
    · exact gate false _
  | tableGateBadRequest hd r p =>
    show Rests s (takeGateBadRequest hd s)
    unfold takeGateBadRequest
    split
    · exact .refl s
    · exact .pushed _ _
  | plantWrite hd index f p =>
    refine .takeWrite fun x t _ => ?_
    unfold storePlant
    dsimp only
    split <;> exact .of rfl rfl rfl rfl rfl
  | unitWritePresent => exact .takeWrite fun x t ht => (h.rests ht).storePresent x.1 x.2
  | unitWriteAbsent =>
    exact .takeWrite fun x t _ => ⟨rfl, rfl, rfl, rfl, rfl, rfl, id, fun _ hw =>
      .inl (List.mem_filter.mp (List.mem_filter.mp hw).1).1⟩
  | profileWrite => exact .takeWrite fun x t ht => (h.rests ht).storeProfile x.1 x.2
  | bandWrite => exact .takeWrite fun x t ht => (h.rests ht).storeBand x.1 x.2.1 x.2.2
  | meritWrite => exact .takeWrite fun x t ht => (h.rests ht).storeMerit _ _
  | waterwayWrite => exact .takeWrite fun x t _ => .of rfl rfl rfl rfl rfl
  | tableWriteUnknownTable hd table index p =>
    show Rests s (takeUnknownTable hd table index s)
    exact .takeWrite (effect := fun (_ : Unit) t => t) fun x t _ => .refl t
  | tableRead hd table index band p =>
    show Rests s (takeTableRead hd table index band s)
    unfold takeTableRead
    split <;> exact .pushed _ _
  | engineRun hd p => exact absurd rfl (noRun hd p)
  | enginePause hd p =>
    show Rests s (takeEnginePause hd s)
    unfold takeEnginePause
    rw [if_pos h.engine]
    exact .pushed _ _
  | engineBadRequest => exact .pushed _ _
  | restart hd r => exact absurd rfl (noRestart hd r)
  | traceOn => exact trace true _
  | traceOff => exact trace false _
  | traceBadRequest => exact .pushed _ _
  | watch => exact .takeWatch _ _ _ s
  | echo => exact .pushed _ _
  | _ => exact .refl s

end

end Sys2Proof.Machine
end

section
/-! Every step keeps the arbiter in agreement with the sequencers and a PAUSED engine quiet (R62, R66, R114, R146, R149, R155,
R158, R160). -/

namespace Sys2Proof.Machine

-- RESTART (R17, R68) ---------------------------------------------------------------------------------------------

theorem warmReset_resting (s : State) : Resting (warmReset s) := by
  have seq (u : UnitNo) : (warmReset s).seq u = .cold := PerUnit.get_all _ _
  have lock (w : Waterway) : (warmReset s).pra.locks.get w = .free := cold_locks w
  exact ⟨rfl, ⟨seq, rfl, rfl, rfl, rfl, .inl rfl, fun w => (nomatch ·)⟩,
    ⟨rfl, rfl, rfl, fun w => by rw [lock]; exact ⟨rfl, rfl⟩⟩⟩

theorem takeRestart_resting (hd : Hdr) (s : State) : Resting (takeRestart hd s) :=
  (warmReset_resting s).rests ((Rests.pushed _ _).trans (.startExchanges _ _))

-- The acts on ORDER and MGT cells ---------------------------------------------------------------------------------

/-- An engine that is not PAUSED asks for agreement alone. -/
theorem ResourcesAgree.consistent {s : State} (h : ResourcesAgree s) (runs : s.dse.engine ≠ .paused) : Consistent s :=
  ⟨h, fun k => absurd k runs⟩

theorem takeAbort_runs {s : State} (hd : Hdr) (id : Half) (runs : s.dse.engine ≠ .paused) :
    (takeAbort hd id s).dse.engine ≠ .paused := by
  have pushed (r : Report) : (pushReport r s).dse.engine = s.dse.engine :=
    congrArg Dse.engine (pushReport_frame r s).dse
  unfold takeAbort
  split
  · unfold abortRunning
    rw [(closeEvent_frame _).dse]
    nofun
  · rw [pushed]
    exact runs
  · next paused => exact absurd paused runs

theorem takeResume_runs {s : State} (hd : Hdr) (id : Half) (runs : s.dse.engine ≠ .paused) :
    (takeResume hd id s).dse.engine ≠ .paused := by
  unfold takeResume
  split
  · rw [(closeEvent_frame _).dse, (adoptAll_frame _ _).dse]
    nofun
  · rw [(pushReport_frame _ s).dse]
    exact runs

theorem takeEngineRun_runs (hd : Hdr) (s : State) : (runAccepted hd s).dse.engine ≠ .paused := by
  unfold runAccepted
  rw [(closeEvent_frame _).dse]
  show (adoptAll _ _).s.dse.engine ≠ _
  rw [(adoptAll_frame _ _).dse]
  nofun

theorem Consistent.taken {s : State} (h : Consistent s) (i : Instr) : Consistent (takeOrderOrMgt i s) := by
  by_cases restart : ∃ hd r, i = .restart hd r
  · obtain ⟨hd, r, rfl⟩ := restart
    exact (takeRestart_resting hd s).consistent
  have noRestart (hd : Hdr) (r : Payload) : i ≠ .restart hd r := fun k => restart ⟨hd, r, k⟩
  by_cases paused : s.dse.engine = .paused
  · have resting := h.resting paused
    by_cases run : ∃ hd p, i = .engineRun hd p
    · obtain ⟨hd, p, rfl⟩ := run
      show Consistent (takeEngineRun hd s)
      unfold takeEngineRun
      rw [if_pos paused]
      split
      · exact (resting.rests (.pushed _ _)).consistent
      · exact (resting.runAccepted hd).consistent (takeEngineRun_runs hd s)
    · exact (resting.rests (resting.taken i (fun hd p k => run ⟨hd, p, k⟩) noRestart)).consistent
  · by_cases pause : ∃ hd p, i = .enginePause hd p
    · obtain ⟨hd, p, rfl⟩ := pause
      show Consistent (takeEnginePause hd s)
      unfold takeEnginePause
      rw [if_neg paused]
      split
      · exact (h.resources.pushed _).consistent (by rw [(pushReport_frame _ s).dse]; exact paused)
      · next idle => exact (Resting.pauseAccepted h.resources.held hd (Bool.not_eq_true _ ▸ idle)).consistent
    · refine (h.resources.taken paused i (fun hd p k => pause ⟨hd, p, k⟩) noRestart).consistent ?_
      by_cases sets : i.setsEngine = true
      · rcases (setsEngine_iff i).mp sets with ⟨hd, p, rfl⟩ | ⟨hd, p, rfl⟩ | ⟨hd, id, p, rfl⟩ | ⟨hd, id, p, rfl⟩ | k
        · show (takeEngineRun hd s).dse.engine ≠ _
          unfold takeEngineRun
          rw [if_neg paused, (pushReport_frame _ s).dse]
          exact paused
        · exact absurd ⟨hd, p, rfl⟩ pause
        · exact takeAbort_runs hd id paused
        · exact takeResume_runs hd id paused
        · exact absurd k restart
      · rw [(takeOrderOrMgt_take i s noRestart).engine (Bool.not_eq_true _ ▸ sets)]
        exact paused

-- Links, reports and RESET_N ----------------------------------------------------------------------------------------

/-- A state that differs in links, queues, reports, images but for identities, and event flags alone. -/
theorem Consistent.congr {s t : State} (h : Consistent s) (seqs : t.seqs = s.seqs) (rmp : t.rmp = s.rmp)
    (dse : t.dse = s.dse) (pra : t.pra = s.pra) (tbs : t.tbs = s.tbs)
    (identity : ∀ u, (t.image u).identity = (s.image u).identity)
    (commands : ∀ w ∈ t.lpu.cmds, w ∈ s.lpu.cmds) : Consistent t := by
  refine ⟨h.resources.keep (h.resources.held.congr pra tbs fun u => by rw [State.seq, seqs, State.seq]) (.of_seqs seqs)
    (by rw [dse]) (by rw [tbs]) fun u k => (identity u).trans k, fun paused => ?_⟩
  rw [dse] at paused
  exact ((h.resting paused).rests ⟨seqs, rmp, by rw [dse], by rw [pra], by rw [pra], by rw [pra], by rw [pra]; exact id,
    fun w hw => .inl (commands w hw)⟩).quiet

theorem Consistent.lpuAndRpb {s : State} (h : Consistent s) {l : Lpu} {r : Rpb} {p : List Instr} {b : Bool}
    (commands : ∀ w ∈ l.cmds, w ∈ s.lpu.cmds) : Consistent { s with lpu := l, rpb := r, pending := p, held := b } :=
  h.congr rfl rfl rfl rfl rfl (fun _ => rfl) commands

/-- An expiry of a timer that a PAUSED engine does not run. -/
theorem consistent_of_quiet {s t : State} (runs : s.dse.engine ≠ .paused) (take : QuietFrame s t)
    (agree : ResourcesAgree t) : Consistent t :=
  agree.consistent (by rw [take.engine rfl]; exact runs)

section
variable {s : State} (h : Consistent s)
include h

theorem Consistent.raiseFlag (f : Sticky) : Consistent (raiseFlag f s) := h.lpuAndRpb fun _ => id

theorem Consistent.validArrival (p : Port) : Consistent (validArrival p s) := h.lpuAndRpb fun _ => id

theorem Consistent.forwardDn (c : Cell) : Consistent (forwardDn c s) := by
  unfold Machine.forwardDn
  split
  · exact h.lpuAndRpb fun _ => id
  · exact h.raiseFlag _

theorem Consistent.forwardUp (c : Cell) : Consistent (forwardUp c s) := by
  unfold Machine.forwardUp
  split
  · exact h.lpuAndRpb fun _ => id
  · exact h.raiseFlag _

theorem Consistent.selectDn : Consistent (selectDn s) := by
  obtain ⟨w, rest, hc, hs⟩ | ⟨c, rest, turn, -, hs⟩ | hs := selectDn_cases s <;> rw [hs]
  · exact h.lpuAndRpb fun x hx => hc ▸ List.mem_cons_of_mem w hx
  · exact h.lpuAndRpb fun _ => id
  · exact h.lpuAndRpb fun _ => id

theorem Consistent.pushed (r : Report) : Consistent (pushReport r s) := by
  rw [pushReport_eq_reported, reported_eq]
  exact h.lpuAndRpb fun _ => id

theorem Consistent.setImage {u : UnitNo} {i : Image} (identity : i.identity = (s.image u).identity) :
    Consistent (s.setImage u i) :=
  h.congr rfl rfl rfl rfl rfl (fun v => by
    by_cases hv : v = u
    · subst hv
      rw [State.setImage_image_self, identity]
    · rw [State.setImage_image_ne _ _ _ _ hv]) fun _ => id

theorem Consistent.afterDeparture (r : Report) : Consistent (afterDeparture r s) := by
  have offered (us : List UnitNo) {t : State} (k : Consistent t) : Consistent (us.foldl offerPending t) := by
    induction us generalizing t with
    | nil => exact k
    | cons u us ih =>
      refine ih ?_
      unfold offerPending
      split
      · exact k.pushed _
      · exact k
  refine offered _ ?_
  unfold clearDeparted
  split
  · exact h.setImage rfl
  · exact h

theorem Consistent.upHoldDone : Consistent (upHoldDone s) := by
  unfold Machine.upHoldDone
  split
  · exact h.lpuAndRpb fun _ => id
  · exact h

theorem Consistent.selectUp : Consistent (selectUp s) := by
  obtain ⟨c, rest, -, hs⟩ | ⟨r, rest, turn, -, hs⟩ | hs := selectUp_cases s <;> rw [hs]
  · exact h.lpuAndRpb fun _ => id
  · unfold sendReport
    refine Consistent.afterDeparture ?_ r
    exact h.lpuAndRpb fun _ => id
  · exact h.lpuAndRpb fun _ => id

-- Arrivals (R4 to R7) -----------------------------------------------------------------------------------------------

theorem Consistent.up {i : Instr} {c : Cell} {t : State} (k : UpOutcome i c s t) : Consistent t := by
  obtain ⟨-, rfl | rfl⟩ | ⟨x, hx, ht⟩ := k
  · exact h
  · exact h.raiseFlag _
  · have taken : Consistent x := by
      obtain rfl | rfl := hx
      · exact h.validArrival _
      · exact (h.validArrival _).taken i
    obtain rfl | rfl := ht
    · exact taken
    · exact taken.forwardDn c

theorem Consistent.tel {t : State} (k : TelAct s t) : Consistent t := by
  by_cases paused : s.dse.engine = .paused
  · exact ((h.resting paused).rests ((h.resting paused).tel k)).consistent
  · refine (h.resources.tel k).consistent ?_
    rw [(TelAct.take (a := false) (b := false) k).engine rfl]
    exact paused

theorem Consistent.dn {c : Cell} {t : State} (k : DnOutcome c s t) : Consistent t := by
  obtain ⟨-, rfl | rfl⟩ | ⟨x, hx, ht⟩ := k
  · exact h
  · exact h.raiseFlag _
  · have taken : Consistent x := (h.validArrival .dn).tel hx
    obtain rfl | rfl := ht
    · exact taken
    · exact taken.forwardUp c

-- Timers (R45, R55, R74, R131 to R135, R151, R170, R176, R180) --------------------------------------------------------

/-- A sequencer out of DORMANT: the engine is not PAUSED. -/
theorem Consistent.awake {u : UnitNo} (hs : (s.seq u).state ≠ .dormant) : s.dse.engine ≠ .paused :=
  (h.resources.awake u hs).1

/-- A running timer of a sequencer: the engine is not PAUSED. -/
theorem Consistent.timed {u : UnitNo} (hs : s.seq u ≠ .cold) : s.dse.engine ≠ .paused := fun paused =>
  hs ((h.paused paused).seqs u)

theorem Consistent.identityWaitExpired {u : UnitNo} (waits : (s.image u).identity = .identWait) :
    Consistent (identityWaitExpired u s) := by
  have was : (s.image u).identity ≠ .verified := by rw [waits]; decide
  have agree : ResourcesAgree (Machine.identityWaitExpired u s) := by
    unfold Machine.identityWaitExpired
    dsimp only
    split
    · exact (h.resources.reidentified was).placed _ _ _
    · exact h.resources.concludeExchange _ was
  have rests : Rests s (Machine.identityWaitExpired u s) := by
    unfold Machine.identityWaitExpired
    dsimp only
    split
    · exact (Rests.imaged u { s.image u with
        identCount := (s.image u).identCount + 1, identTimer := some s.tbs.plant.identWait } s).trans (.placeIdent u _)
    · exact .concludeExchange u _ s
  refine ⟨agree, fun paused => ?_⟩
  rw [(identityWaitExpired_take (a := false) (b := false) u s).engine rfl] at paused
  exact ((h.resting paused).rests rests).quiet

theorem Consistent.staleExpired (u : UnitNo) : Consistent (staleExpired u s) := by
  let i : Image := { s.image u with stale := true, staleTimer := none }
  have imaged : Consistent (s.setImage u i) := h.setImage rfl
  have agree : ResourcesAgree (Machine.staleExpired u s) :=
    ResourcesAgree.closeEvent (e := Ev.trigger _ (.start (s.setImage u i))) imaged.resources
  refine ⟨agree, fun paused => ?_⟩
  rw [(staleExpired_take (a := false) (b := false) u s).engine rfl] at paused
  have resting := imaged.resting paused
  exact (resting.rests (resting.closed (e := Ev.trigger _ (.start (s.setImage u i))) (.refl _))).quiet

theorem Consistent.releaseExpired (releasing : s.pra.arb = .releasing) : Consistent (releaseExpired s) := by
  refine consistent_of_quiet (fun paused => ?_) (releaseExpired_take s)
    (((h.resources.releaseTimer none).raiseFlag .convFault).setArbiter ?_)
  · have arb := (h.paused paused).arbiter
    rw [releasing] at arb
    rcases arb with k | k <;> cases k
  · show ConvState.granted .faulted = s.pra.arb.granted
    rw [releasing]
    rfl

end

/-- A command that is no cell's arrival. -/
theorem exec_timer_consistent (i : Instr) (s t : State) (hc : cellOf i = none) (hi : ∀ strap, i ≠ .resetNRelease strap)
    (hx : exec i s = .next t) (h : Consistent s) : Consistent t := by
  have close {e : Ev} {u : UnitNo} (awake : (s.seq u).state ≠ .dormant) (frame : SeqFrame s e.s)
      (agree : ResourcesAgree e.s) : Consistent (closeEvent e) :=
    consistent_of_quiet (h.awake awake) (closeEvent_of_frame frame) agree.closeEvent
  cases i <;> cases hc
  case resetNLow =>
    cases hx
    exact h.lpuAndRpb fun _ => id
  case resetNRelease strap => exact absurd rfl (hi strap)
  all_goals
    unfold exec at hx
    obtain ⟨-, rfl⟩ | rfl := event_next _ _ _ hx
    · exact h
  case dnSelection => exact h.selectDn
  case upHoldSent => exact h.upHoldDone
  case upSelection => exact h.upHoldDone.selectUp
  case refreshExpiry u =>
    split
    · next p v hr _ =>
      refine consistent_of_quiet (fun paused => ?_) (placeSetpoint_frame _ _ _).quiet (h.resources.congr rfl rfl rfl rfl rfl)
      rw [State.ramp, (h.paused paused).ramp] at hr
      revert hr
      cases u <;> nofun
    · exact h
  all_goals
    split
    swap
    · exact h
    rename_i hcond
    clear hx
  case linkLossExpiry p =>
    have fallen : Consistent (s.setLpu { s.lpu with link := s.lpu.link.set p .down }) := h.lpuAndRpb fun _ => id
    exact fallen.raiseFlag _
  case guardExpiry =>
    refine consistent_of_quiet (fun paused => ?_) (guardExpired_take s) h.resources.guardExpired
    rw [(h.paused paused).guard] at hcond
    cases hcond
  case identityWaitExpiry u => exact h.identityWaitExpired hcond.2
  case staleExpiry u => exact h.staleExpired u
  case releaseTimerExpiry => exact h.releaseExpired hcond.2
  case stageTimeout u =>
    have awake : (s.seq u).state ≠ .dormant := fun k => by
      rw [k] at hcond
      cases hcond.2
    exact close awake (enterTripped_frame u .timeout true (.start s)) (ResourcesAgree.enterTripped (e := .start s) h.resources _ _ awake)
  case lockwaitTimeout u =>
    have waits : (s.seq u).state.waitsForLock = true := by rcases hcond.2 with k | k <;> rw [k] <;> rfl
    exact close (fun k => by rw [k] at waits; cases waits) (lockwaitExpired_frame u (.start s))
      (ResourcesAgree.lockwaitExpired (e := .start s) h.resources waits)
  case queueTimeout u =>
    have awake : (s.seq u).state ≠ .dormant := by rw [hcond.2]; decide
    exact close awake (stopWithReport_frame u .queueTimeout (.start s))
      (ResourcesAgree.stopWithReport (e := .start s) h.resources _ awake (by
        show (s.seq u).state ≠ _
        rw [hcond.2]
        decide))
  case minRunExpiry u =>
    refine consistent_of_quiet (h.timed (u := u) fun k => ?_) (minRunExpired_take u s) ?_
    · rw [k] at hcond
      cases hcond
    · exact ResourcesAgree.closeEvent (e := Ev.trigger true _)
        (h.resources.setState (u := u) (q := { s.seq u with minRun := none }) rfl)
  case minStillExpiry u =>
    refine consistent_of_quiet (h.timed (u := u) fun k => ?_) (minStillExpired_take u s) ?_
    · rw [k] at hcond
      cases hcond
    · unfold minStillExpired
      dsimp only
      have stopped : ResourcesAgree (s.setSeq u { s.seq u with minStill := none }) := h.resources.setState rfl
      refine ResourcesAgree.closeEvent ?_
      split <;> exact stopped
  case lingerExpiry u =>
    have air : (s.seq u).state = .gAir ∨ (s.seq u).state = .pAir := by
      have := hcond.2
      rwa [SeqState.inAir, Bool.or_eq_true, beq_iff_eq, beq_iff_eq] at this
    have awake : (s.seq u).state ≠ .dormant := by rcases air with k | k <;> rw [k] <;> decide
    exact close awake (enterStopping_frame u (.start s))
      (ResourcesAgree.enterStopping (e := .start s) h.resources awake (by
        show (s.seq u).state ≠ _
        rcases air with k | k <;> rw [k] <;> decide))
  case rampIntervalExpiry =>
    refine consistent_of_quiet (fun paused => ?_) (rampExpiry_take s) h.resources.rampExpiry
    rw [(h.resting paused).rampIdle] at hcond
    cases hcond

theorem exec_consistent (i : Instr) (s t : State) (h : Consistent s) (hx : exec i s = .next t) : Consistent t := by
  by_cases hi : ∃ strap, i = .resetNRelease strap
  · obtain ⟨strap, rfl⟩ := hi
    cases hx
    exact (cold_consistent _).lpuAndRpb fun _ => id
  cases hc : cellOf i with
  | some c =>
    cases hd : i.atDn
    · exact h.up (exec_up_outcome i c s t hc hd hx)
    · exact h.dn (exec_dn_outcome i c s t hc hd hx)
  | none => exact exec_timer_consistent i s t hc (fun strap k => hi ⟨strap, k⟩) hx h

/-- Settles O60: every act of a block and every expiry keeps the agreement of arbiter and sequencers, and in PAUSED leaves at
rest what it finds at rest. -/
theorem consistencyKept : Obligations.ConsistencyKept := by
  intro s t h hx
  obtain rfl | ⟨i, rest, -, hx⟩ := step_next s t hx
  · exact h
  · exact exec_consistent i _ t (h.lpuAndRpb fun _ => id) hx

end Sys2Proof.Machine
end

section
/-! TRACE, an ENGINE request without a meaning, PAUSE, and the settling check of a ramp interval (R63, R66, R67, R69, R81, R82,
R113, R164). -/

namespace Sys2Proof.Machine

/-- Settles O34: each row queues its one answer, TRACE after its flag is set. -/
theorem traceAndBadEngineRequests : Obligations.TraceAndBadEngineRequests := by
  have answers {c : Cell} {s : State} (take : State → State) (r : Report) (x : State) (hd : DeliveredToPart c s)
      (ht : take (s.withLinkUp .up) = pushReport r x) : event (arriveUp c take) s = .next (x.reported r) := by
    rw [arriveUp_toPart take hd.1 hd.2.1, ht, pushReport_eq_reported]
  exact ⟨fun _ _ _ _ hd => answers _ _ _ hd rfl, fun _ _ _ hd => answers _ _ _ hd rfl,
    fun _ _ _ hd => answers _ _ _ hd rfl, fun _ _ _ _ hd => answers _ _ _ hd rfl⟩

-- The settling check (R82) -----------------------------------------------------------------------------------------

/-- The plan's conditions on the present auto units are met (R82). -/
theorem allSettled_iff (s : State) : UnitNo.all.all (unitSettled s) = true ↔ ∀ u, unitSettled s u = true := by
  rw [List.all_eq_true]
  exact ⟨fun h u => h u (UnitNo.mem_all u), fun h u _ => h u⟩

/-- The check of an ACTIVE order in RUNNING passes exactly where every unit is settled, and leaves it ACTIVE elsewhere. -/
theorem settleCheck_state {s : State} (running : s.dse.engine = .running) (active : s.dse.standing.state = .active) :
    (settleCheck s).dse.standing.state = if UnitNo.all.all (unitSettled s) then .settled else .active := by
  unfold settleCheck
  split
  · next h =>
    rw [if_pos h.2.2, (pushReport_frame _ _).dse]
    rfl
  · next h => rw [if_neg fun k => h ⟨running, active, k⟩, active]

/-- Settles O56: the placements leave what the check reads but for the setpoints stepped, and a SNAPSHOT leaves the order. -/
theorem settlingAtRampInterval : Obligations.SettlingAtRampInterval := by
  intro s free timer running active
  obtain ⟨cmds, units, hp, -⟩ := placed_eq s
  obtain ⟨st, q, ht, silent, traced⟩ := rampReports s running
  have hexec : exec .rampIntervalExpiry s = .next (rampExpiry s) := (event_free _ free).trans (by rw [if_pos timer])
  have dse : (placed s).dse = s.dse := by rw [hp]
  have state : (rampExpiry s).dse.standing.state = (settleCheck (placed s)).dse.standing.state := by
    rw [rampExpiry_running running]
    split
    · obtain ⟨r, hr, -⟩ := queueSnapshot_eq (settleCheck (placed s))
      rw [hr]
    · rfl
  have check : (rampExpiry s).dse.standing.state =
      if UnitNo.all.all (unitSettled (placed s)) then .settled else .active :=
    state.trans (settleCheck_state (by rw [dse]; exact running) (by rw [dse]; exact active))
  have written : (rampExpiry s).dse = { s.dse with standing := { s.dse.standing with state := st } } := by rw [ht, hp]
  have now : (rampExpiry s).dse.standing.state = st := by rw [written]
  have ramp (u : UnitNo) : (placed s).ramp u = (rampExpiry s).ramp u := by rw [ht]; rfl
  refine ⟨rampExpiry s, hexec, by rw [written], by rw [written], ?_, ?_, fun settled room => ?_⟩
  · rw [check]
    split
    · exact .inl rfl
    · exact .inr rfl
  · have passes : (rampExpiry s).dse.standing.state = .settled ↔ UnitNo.all.all (unitSettled (placed s)) = true := by
      rw [check]
      split
      · next h => exact ⟨fun _ => h, fun _ => rfl⟩
      · next h => exact ⟨fun k => (nomatch k), fun k => absurd k h⟩
    rw [passes, allSettled_iff]
    refine forall_congr' fun u => (unitSettled_iff _ u).trans ?_
    rw [ramp, hp]
    rfl
  · rw [now] at settled
    have report : settledReport s.dse.standing st = [.orderState s.dse.standing.order.src s.dse.standing.order.id .settled
        s.dse.standing.order.target s.dse.standing.summary] :=
      if_neg (by rw [settled, active]; decide)
    have queued {r : List Report} : Report.orderState s.dse.standing.order.src s.dse.standing.order.id .settled
        s.dse.standing.order.target s.dse.standing.summary ∈ s.rpb.queue ++ settledReport s.dse.standing st ++ r := by
      rw [report]
      simp
    have whole : (settledReport s.dse.standing st).take (16 - s.rpb.queue.length) = settledReport s.dse.standing st := by
      rw [report]
      unfold ReportRoom at room
      exact List.take_of_length_le (by simp only [List.length_cons, List.length_nil]; omega)
    have queue : (rampExpiry s).rpb.queue = q.queue := by rw [ht]
    rw [queue]
    cases trace : s.dse.trace with
    | false =>
      rw [(silent trace).2, whole, ← List.append_nil (_ ++ _)]
      exact queued
    | true =>
      by_cases full : ReportRoom ((settledReport s.dse.standing st).length + 2) s
      · rw [(traced trace).2.1 full]
        exact queued
      · rw [((traced trace).2.2 full).2, whole, ← List.append_nil (_ ++ _)]
        exact queued

-- Reports one after another ------------------------------------------------------------------------------------------

/-- Reports queued in their order. -/
def pushAll (rs : List Report) (s : State) : State := rs.foldl (fun s r => pushReport r s) s

theorem pushAll_eq (rs : List Report) (s : State) : ∃ q, pushAll rs s = { s with rpb := q } ∧
    (ReportRoom rs.length s → q.queue = s.rpb.queue ++ rs ∧ q.flags = s.rpb.flags) := by
  induction rs generalizing s with
  | nil => exact ⟨s.rpb, rfl, fun _ => ⟨(List.append_nil _).symm, rfl⟩⟩
  | cons r rs ih =>
    obtain ⟨q, hs, queued⟩ := ih (pushReport r s)
    refine ⟨q, ?_, fun room => ?_⟩
    · show pushAll rs (pushReport r s) = _
      rw [hs, pushReport_eq_reported, reported_eq]
    · unfold ReportRoom at room queued
      rw [List.length_cons] at room
      have fits : s.rpb.queue.length < Config.reportCapacity := by
        show _ < 16
        omega
      have first : pushReport r s = s.setRpb { s.rpb with queue := s.rpb.queue ++ [r] } := if_pos fits
      rw [first] at queued
      obtain ⟨queue, flags⟩ := queued (by
        show (s.rpb.queue ++ [r]).length + _ ≤ 16
        rw [List.length_append, List.length_singleton]
        omega)
      exact ⟨by rw [queue]; exact List.append_cons _ _ _ |>.symm, flags⟩

-- PAUSE (R66, R67) ---------------------------------------------------------------------------------------------------

/-- The report of the order that ends with the standing record, where one stands. -/
def endReports (st : OrderState) (s : State) : List Report :=
  if s.dse.standing.state = .none then [] else [orderStateOf s.dse.standing st]

/-- The report of a deferred order that is dropped. -/
def dropReports (s : State) : List Report := match s.dse.deferred with
  | some o => [orderResultOf o .dropped none]
  | none => []

theorem endStanding_eq (st : OrderState) (after : Standing) (s : State) :
    endStanding st after s = setStanding after (pushAll (endReports st s) s) := by
  unfold endStanding endReports
  split <;> rfl

theorem dropDeferred_eq (s : State) : dropDeferred s = (pushAll (dropReports s) s).setDse
    { (pushAll (dropReports s) s).dse with deferred := none, guardTmr := none } := by
  unfold dropDeferred dropReports
  cases s.dse.deferred <;> rfl

/-- The standing and the deferred order ended after an answer: of the state, the Dispatch Engine's record and the Report Block
change (R67, R79). -/
theorem endOrders_eq (r : Report) (st : OrderState) (after : Standing) (s : State) : ∃ q,
    dropDeferred (endStanding st after (pushReport r s)) = { s with
      dse := { s.dse with standing := after, deferred := none, guardTmr := none }
      rpb := q } ∧
    (ReportRoom 3 s → q.queue = s.rpb.queue ++ r :: (endReports st s ++ dropReports s) ∧ q.flags = s.rpb.flags) := by
  obtain ⟨q1, h1, queued1⟩ := pushAll_eq (r :: endReports st s) s
  have ended : endStanding st after (pushReport r s) = { s with dse := { s.dse with standing := after }, rpb := q1 } := by
    have same : endReports st (pushReport r s) = endReports st s := by
      unfold endReports
      rw [(pushReport_frame r s).dse]
    rw [endStanding_eq, same, show pushAll (endReports st s) (pushReport r s) = _ from h1]
    rfl
  obtain ⟨q2, h2, queued2⟩ := pushAll_eq (dropReports s) { s with dse := { s.dse with standing := after }, rpb := q1 }
  have short : (endReports st s).length ≤ 1 ∧ (dropReports s).length ≤ 1 := by
    unfold endReports dropReports
    constructor <;> split <;> simp
  refine ⟨q2, ?_, fun room => ?_⟩
  · rw [ended, dropDeferred_eq]
    show State.setDse (pushAll (dropReports s) _) { (pushAll (dropReports s) _).dse with deferred := _, guardTmr := _ } = _
    rw [h2]
    rfl
  · unfold ReportRoom at room queued1 queued2
    obtain ⟨queue1, flags1⟩ := queued1 (by rw [List.length_cons]; omega)
    obtain ⟨queue2, flags2⟩ := queued2 (by
      show q1.queue.length + _ ≤ 16
      rw [queue1, List.length_append, List.length_cons]
      omega)
    refine ⟨?_, flags2.trans flags1⟩
    rw [queue2]
    show q1.queue ++ _ = _
    rw [queue1, List.append_assoc, List.cons_append]

/-- What keeps a PAUSE from being accepted, as R66 gives it. -/
theorem pauseBusy_iff (s : State) : pauseBusy s = true ↔
    (∃ u, (s.seq u).state.transition = true ∨ (s.seq u).state = .stopping) ∨ s.pra.arb = .connecting ∨
      s.pra.arb = .inUse ∨ s.pra.arb = .releasing := by
  have arb : (s.pra.arb != .free && s.pra.arb != .faulted) = true ↔
      s.pra.arb = .connecting ∨ s.pra.arb = .inUse ∨ s.pra.arb = .releasing := by
    cases s.pra.arb <;> decide
  rw [pauseBusy, Bool.or_eq_true, List.any_eq_true, arb]
  refine or_congr_left ⟨fun ⟨u, _, hu⟩ => ⟨u, ?_⟩, fun ⟨u, hu⟩ => ⟨u, UnitNo.mem_all u, ?_⟩⟩
  · rwa [SeqState.busy, Bool.or_eq_true, beq_iff_eq] at hu
  · rwa [SeqState.busy, Bool.or_eq_true, beq_iff_eq]

/-- Settles O33: the two refusals, and an acceptance by `endOrders_eq`. -/
theorem enginePauseDecided : Obligations.EnginePauseDecided := by
  intro h pad s hd answer busy r ended dropped
  have taken : exec (.enginePause h pad) s = .next (takeEnginePause h (s.withLinkUp .up)) :=
    arriveUp_toPart (takeEnginePause h) hd.1 hd.2.1
  have isBusy : pauseBusy (s.withLinkUp .up) = true ↔ busy := pauseBusy_iff _
  refine ⟨fun paused => ?_, fun runs hb => ?_, fun runs idle => ?_⟩
  · rw [taken, takeEnginePause, if_pos (show (s.withLinkUp .up).dse.engine = _ from paused), pushReport_eq_reported]
    rfl
  · rw [taken, takeEnginePause, if_neg (show (s.withLinkUp .up).dse.engine ≠ _ from runs), if_pos (isBusy.mpr hb),
      pushReport_eq_reported]
    rfl
  · obtain ⟨q, hs, queued⟩ := endOrders_eq (mgtPlain h subEngine .accepted) .ended .cleared (s.withLinkUp .up)
    have accepted : takeEnginePause h (s.withLinkUp .up) = pauseAccepted h (s.withLinkUp .up) := by
      rw [takeEnginePause, if_neg (show (s.withLinkUp .up).dse.engine ≠ _ from runs), if_neg fun k => idle (isBusy.mp k)]
    refine ⟨pauseAccepted h (s.withLinkUp .up), taken.trans (congrArg _ accepted), ?_⟩
    unfold pauseAccepted
    dsimp only
    rw [hs]
    exact ⟨rfl, fun u => PerUnit.get_all _ _, rfl, rfl, rfl, rfl, rfl, rfl, driveAlert_due _, queued⟩

end Sys2Proof.Machine
end

section
/-! UNIT_ASSIGN: the live assignment set, and the run under a standing order (R77, R84, R85, R89). -/

namespace Sys2Proof.Machine

-- What a report leaves (R185) -------------------------------------------------------------------------------------

section
variable (s : State) (r : Report)

theorem reported_alc : (s.reported r).alc = s.alc := by rw [reported_eq]
theorem reported_seqs : (s.reported r).seqs = s.seqs := by rw [reported_eq]
theorem reported_pra : (s.reported r).pra = s.pra := by rw [reported_eq]
theorem reported_rmp : (s.reported r).rmp = s.rmp := by rw [reported_eq]
theorem reported_lpu : (s.reported r).lpu = s.lpu := by rw [reported_eq]

end

-- The order itself (R77) ---------------------------------------------------------------------------------------------

/-- The unit named is none of the present units (R75, R77, R78). -/
theorem presentUnit_refused {unit : Byte} {s : State}
    (h : unit = 0 ∨ 6 < unit.toNat ∨ ∃ u : UnitNo, unit.toNat = u.number ∧ (s.unit u).present = false) :
    presentUnit unit s = none := by
  obtain zero | above | ⟨u, number, absent⟩ := h
  · exact presentUnit_outside (.inl zero)
  · exact presentUnit_outside (.inr above)
  · exact presentUnit_absent number absent

/-- A run leaves a manual unit's entry as it was last written (R91, R104). -/
theorem plan_manual {s : State} {u : UnitNo} (manual : s.assignOf u = .manual) :
    (plan s).entries.get u = s.entry u := by
  show (PerUnit.ofFn (plannedEntry s (shares s) (committedPumps s))).get u = _
  rw [PerUnit.get_ofFn, plannedEntry, if_pos manual]

/-- Every code but 0 is MANUAL, and one above 1 is clamped (R77). -/
theorem assignResult_eq (code : Byte) : (if code = 0 ∨ code = 1 then OrderCode.accepted else .clamped) =
    if 1 < code.toNat then .clamped else .accepted := by
  have known : code = 0 ∨ code = 1 ↔ ¬1 < code.toNat := by
    constructor
    · rintro (rfl | rfl) <;> decide
    · intro h
      have bits := code.isLt
      rcases (by omega : code.toNat = 0 ∨ code.toNat = 1) with k | k
      · exact .inl (BitVec.eq_of_toNat_eq k)
      · exact .inr (BitVec.eq_of_toNat_eq k)
  by_cases h : 1 < code.toNat
  · rw [if_pos h, if_neg fun k => known.mp k h]
  · rw [if_neg h, if_pos (known.mpr h)]

/-- Settles O40: the assignment and its answer, then an event whose one trigger makes a run where an order stands. -/
theorem unitAssignSetsAssignment : Obligations.UnitAssignSetsAssignment := by
  intro h id unit code pad s hd i answer result
  have taken : exec i s = .next (takeUnitAssign h id unit code (s.withLinkUp .up)) :=
    arriveUp_toPart (takeUnitAssign h id unit code) hd.1 hd.2.1
  refine ⟨fun refused => ?_, fun u number present => ?_⟩
  · have none : presentUnit unit (s.withLinkUp .up) = .none := presentUnit_refused refused
    rw [taken, takeUnitAssign, none, pushReport_eq_reported]
    rfl
  intro a
  let assigned : State := { s.withLinkUp .up with dse := { s.dse with assign := s.dse.assign.set u a } }
  let x : State := assigned.reported result
  let e : Ev := .trigger true (.start x)
  have event : exec i s = .next (closeEvent e) := by
    rw [taken, takeUnitAssign, presentUnit_number (s := s.withLinkUp .up) number present]
    dsimp only
    rw [assignResult_eq, pushReport_eq_reported]
    rfl
  have frame : EventFrame x (closeEvent e) := closeEvent_frame e
  have xdse : x.dse = { s.dse with assign := s.dse.assign.set u a } := reported_dse _ _
  have stands : x.orderStands = s.orderStands := by
    rw [State.orderStands, xdse]
    rfl
  have trig : (e.trig && e.s.orderStands) = s.orderStands := (Bool.true_and _).trans stands
  have assign (v : UnitNo) : (closeEvent e).assignOf v = (s.dse.assign.set u a).get v := by
    rw [State.assignOf, frame.dse, xdse]
  refine ⟨fun ho => ?_, closeEvent e, event, ?_, fun v hv => ?_, fun hc => ?_, ?_, ?_, ?_, ?_, fun ho agree => ?_,
    fun room => ?_⟩
  · rw [event, closeEvent_idle e rfl (trig.trans ho) rfl]
    rfl
  · rw [assign, PerUnit.get_set_self]
  · rw [assign, PerUnit.get_set_ne _ _ _ _ hv, State.assignOf]
  · have manual : x.assignOf u = .manual := by
      rw [State.assignOf, xdse]
      dsimp only
      rw [PerUnit.get_set_self]
      exact if_neg hc
    have entry : x.entry u = s.entry u := by rw [State.entry, show x.alc = s.alc from reported_alc assigned result, State.entry]
    rw [State.entry, closeEvent_alc]
    split
    · rw [plan_manual (s := e.s) manual]
      exact entry
    · exact entry
  · exact frame.uib.trans (reported_uib _ _)
  · have only : LeavesSetting (s.withLinkUp .up) assigned := ⟨rfl, rfl, rfl, rfl, rfl, rfl, rfl, rfl, rfl⟩
    exact only.trans ((reported_event _ _).trans frame).leavesSetting
  · rw [frame.dse, xdse]
  · rw [closeEvent_order]
    show x.dse.standing.order = _
    rw [xdse]
  · have held : ResourcesHeld assigned := (agree.withLinkUp .up).held.congr rfl rfl fun _ => rfl
    exact closeEvent_ranFrom (e := e) (held.reported result) (trig.trans ho) (by simp [e, Ev.start, Ev.trigger])
  · unfold ReportRoom at room
    obtain ⟨rs, hrs⟩ := frame.queue
    refine ⟨rs, ?_⟩
    rw [hrs, show x.rpb.queue = s.rpb.queue ++ [result] from reported_room _ _ (by
      show s.rpb.queue.length < 16
      omega), List.append_assoc]
    rfl

end Sys2Proof.Machine
end

section
/-! UNIT_MODE: its checks, the entry it writes, the sequencer's turn on a changed planned mode, and the run (R75, R76, R84 to R86,
R89, R119, R121, R125 to R131). -/

namespace Sys2Proof.Machine

-- Codes and shares (R75, R76) --------------------------------------------------------------------------------------

theorem planMode_unknown (mode : Byte) : PlanMode.ofCode mode = none ↔ 4 < mode.toNat := by
  rw [PlanMode.ofCode, List.find?_eq_none]
  constructor
  · intro unknown
    have bits := mode.isLt
    by_contra low
    have known (m : PlanMode) (hm : m ∈ [PlanMode.still, .gen, .pump, .genAir, .pumpAir]) :
        m.code.toNat ≠ mode.toNat := fun k => unknown m hm (beq_iff_eq.mpr (BitVec.eq_of_toNat_eq k))
    have h0 : 0 ≠ mode.toNat := known .still (by decide)
    have h1 : 1 ≠ mode.toNat := known .gen (by decide)
    have h2 : 2 ≠ mode.toNat := known .pump (by decide)
    have h3 : 3 ≠ mode.toNat := known .genAir (by decide)
    have h4 : 4 ≠ mode.toNat := known .pumpAir (by decide)
    omega
  · intro high m _ code
    rw [← beq_iff_eq.mp code] at high
    revert high
    cases m <;> decide

/-- What a UNIT_MODE asks for and the unit's band allows: its mode and its share (R75, R76). -/
def Asked (s : State) (u : UnitNo) (mode : Byte) (setpoint : Half) (m : PlanMode) (share : Option Nat) : Prop :=
  (m = .gen ∧ mode = 1 ∧ ∃ b, s.bandOf u = some b ∧ b.turb = true ∧ share = some (b.clamp setpoint.toInt)) ∨
    (m = .pump ∧ mode = 2 ∧ (∃ b, s.bandOf u = some b ∧ b.pump = true) ∧ share = none) ∨
    (m = .genAir ∧ mode = 3 ∧ share = none) ∨ (m = .pumpAir ∧ mode = 4 ∧ share = none) ∨
    (m = .still ∧ (mode = 0 ∨ 4 < mode.toNat) ∧ share = none)

theorem Asked.ordered {s : State} {u : UnitNo} {mode : Byte} {setpoint : Half} {m : PlanMode} {share : Option Nat}
    (h : Asked s u mode setpoint m share) : orderedMode mode = m ∧ orderedShare s u m setpoint = share ∧
      modeBandRefused s u m = false := by
  obtain ⟨rfl, rfl, b, hb, ht, rfl⟩ | ⟨rfl, rfl, ⟨b, hb, hp⟩, rfl⟩ | ⟨rfl, rfl, rfl⟩ | ⟨rfl, rfl, rfl⟩ | ⟨rfl, hm, rfl⟩ := h
  · have band := turbineBand_some hb ht
    refine ⟨rfl, ?_, ?_⟩
    · rw [orderedShare, if_pos rfl, band]
      rfl
    · rw [modeBandRefused, band]
      rfl
  · refine ⟨rfl, rfl, ?_⟩
    rw [modeBandRefused, pumpBand_some hb hp]
    rfl
  · exact ⟨rfl, rfl, rfl⟩
  · exact ⟨rfl, rfl, rfl⟩
  · refine ⟨?_, rfl, rfl⟩
    obtain rfl | high := hm
    · rfl
    · rw [orderedMode, (planMode_unknown mode).mpr high]
      rfl

theorem modeResult_eq (mode : Byte) (share : Option Nat) (setpoint : Half) : modeResult mode share setpoint =
    if 4 < mode.toNat ∨ (∃ v, share = some v ∧ (v : Int) ≠ setpoint.toInt) then .clamped else .accepted := by
  unfold modeResult
  refine if_congr ?_ rfl rfl
  rw [Bool.or_eq_true, Option.isNone_iff_eq_none, planMode_unknown]
  cases share <;> simp

-- The sequencer's turn by the state it is in (R126 to R131) ----------------------------------------------------------

/-- A start that is under way goes on with a planned mode of its own direction. -/
theorem goesOn_starting {q : Seq} {m : PlanMode} :
    (q.state = .gRunup ∨ q.state = .gSync ∨ q.state = .gLoad → (GoesOn q m ↔ m = .gen ∨ m = .genAir)) ∧
    (q.state = .pDewater ∨ q.state = .pConvwait ∨ q.state = .pRunup ∨ q.state = .pPrime →
      (GoesOn q m ↔ m = .pump ∨ m = .pumpAir)) := by
  constructor
  · rintro (h | h | h) <;> (unfold GoesOn; rw [h])
  · rintro (h | h | h | h) <;> (unfold GoesOn; rw [h])

/-- A lock wait goes on where the planned mode leads on from its origin. -/
theorem goesOn_waiting {q : Seq} {m : PlanMode} (h : q.state = .gLockwait ∨ q.state = .pLockwait) :
    let x : SeqState := if q.state = .pLockwait then .pAir else if q.origin = .air then .gAir else .still
    GoesOn q m ↔ (x = .pAir ∧ m = .pump) ∨ (x = .gAir ∧ m = .gen) ∨ (x = .still ∧ (m = .gen ∨ m = .genAir)) := by
  intro x
  rcases h with h | h
  · have hx : x = if q.origin = .air then .gAir else .still := if_neg (by rw [h]; decide)
    unfold GoesOn
    rw [h, hx]
    by_cases ho : q.origin = .air <;> simp [ho]
  · have hx : x = .pAir := if_pos h
    unfold GoesOn
    rw [h, hx]
    simp

section
variable {a b : State} {u : UnitNo} (t : SequencerTurn a b u)
include t

theorem SequencerTurn.actsStable (h : (a.seq u).state.stable = true) :
    ActedFrom a b u (a.seq u).state (a.entry u) (a.image u) (a.seq u).minStill (a.seq u).pendLockout := (t.2.1 h).1

/-- A sequencer that has nothing to do leaves the state as it is. -/
theorem SequencerTurn.idle (h : (a.seq u).state.stable = false) (returns : ¬Returns (a.seq u) (a.entry u).mode)
    (starts : ¬(Starting (a.seq u).state ∧ ¬GoesOn (a.seq u) (a.entry u).mode)) : b = a := t.2.2.2.2 h returns starts

/-- A start goes on, its record as it was, or is abandoned. -/
theorem SequencerTurn.starting (h : Starting (a.seq u).state) : (GoesOn (a.seq u) (a.entry u).mode → b = a) ∧
    (¬GoesOn (a.seq u) (a.entry u).mode → Stopped b u ∧ Reports
      [.unitState u (a.seq u).state .stopping .abandoned (a.image u).stage (a.image u).fault] a b) := by
  have plain : (a.seq u).state.stable = false ∧ ¬((a.seq u).state = .gLockwait ∨ (a.seq u).state = .pLockwait) := by
    rcases h with k | k | k | k | k | k | k <;> rw [k] <;> decide
  exact ⟨fun on => t.idle plain.1 (fun k => plain.2 k.1) fun k => k.2 on, t.2.2.2.1 h⟩

/-- A lock wait goes on, or ends in its origin. -/
theorem SequencerTurn.waiting (h : (a.seq u).state = .gLockwait ∨ (a.seq u).state = .pLockwait) :
    let x : SeqState := if (a.seq u).state = .pLockwait then .pAir else if (a.seq u).origin = .air then .gAir else .still
    (GoesOn (a.seq u) (a.entry u).mode → b = a) ∧
    (¬GoesOn (a.seq u) (a.entry u).mode →
      ActedFrom a b u x (a.entry u) (a.image u) (a.seq u).minStill (a.seq u).pendLockout ∧
        Reports [.unitState u (a.seq u).state x .returned (a.image u).stage (a.image u).fault] a b) := by
  intro x
  have plain : (a.seq u).state.stable = false ∧ ¬Starting (a.seq u).state := by
    unfold Starting
    rcases h with k | k <;> rw [k] <;> decide
  exact ⟨fun on => t.idle plain.1 (fun k => k.2 on) fun k => plain.2 k.1, fun off => t.2.2.1 ⟨h, off⟩⟩

/-- One that unloads, stops or is outside dispatch does nothing. -/
theorem SequencerTurn.unmoved (h : (a.seq u).state = .gUnload ∨ (a.seq u).state = .pUnload ∨ (a.seq u).state = .stopping ∨
    (a.seq u).state = .dormant ∨ (a.seq u).state = .unsettled ∨ (a.seq u).state = .localCmd ∨
    (a.seq u).state = .tripped) : b = a := by
  have plain : (a.seq u).state.stable = false ∧ ¬Starting (a.seq u).state ∧
      ¬((a.seq u).state = .gLockwait ∨ (a.seq u).state = .pLockwait) := by
    unfold Starting
    rcases h with k | k | k | k | k | k | k <;> rw [k] <;> decide
  exact t.idle plain.1 (fun k => plain.2.2 k.1) fun k => plain.2.1 k.1

end

/-- One report made with room for it is queued. -/
theorem Reports.queued {r : Report} {a b : State} (h : Reports [r] a b) (room : a.rpb.queue.length < 16) :
    b.rpb.queue = a.rpb.queue ++ [r] := by
  unfold Reports at h
  rw [h]
  exact reported_room a r room

-- The order (R75, R76) ------------------------------------------------------------------------------------------------

/-- The entry that an accepted UNIT_MODE writes (R76, R86). -/
def modeEntry (h : Hdr) (id : Half) (m : PlanMode) (share : Option Nat) (cls : Byte) : Entry :=
  { mode := m, share, cls := rateClass cls, forcedOut := false, originId := id, originSrc := h.src }

/-- The state once the entry is written and the order answered. -/
def modeWritten (s : State) (u : UnitNo) (n : Entry) (r : Report) : State :=
  State.reported { s.withLinkUp .up with alc := { s.alc with entries := s.alc.entries.set u n } } r

/-- The event of an accepted UNIT_MODE before its end. -/
def modeEvent (s : State) (u : UnitNo) (n : Entry) (r : Report) : Ev :=
  (if (s.entry u).mode = n.mode then Ev.start (modeWritten s u n r) else act u (.start (modeWritten s u n r))).trigger true

section
variable (s : State) (u : UnitNo) (n : Entry) (r : Report)

theorem modeWritten_frame : EventFrame (s.withLinkUp .up) (modeWritten s u n r) :=
  (setEntry_frame u n (s.withLinkUp .up)).trans (reported_event _ _)

theorem modeEvent_frame : SeqFrame (modeWritten s u n r) (modeEvent s u n r).s := by
  unfold modeEvent
  rw [trigger_s]
  split
  · exact .refl _
  · exact act_frame u (.start _)

theorem modeWritten_entry_self : (modeWritten s u n r).entry u = n := by
  rw [State.entry, modeWritten, reported_alc]
  exact PerUnit.get_set_self _ _ _

theorem modeWritten_seq (v : UnitNo) : (modeWritten s u n r).seq v = s.seq v := by
  rw [State.seq, modeWritten, reported_seqs]
  rfl

theorem modeWritten_image (v : UnitNo) : (modeWritten s u n r).image v = s.image v := by
  rw [State.image, modeWritten, reported_uib]
  rfl

theorem modeWritten_held (h : ResourcesHeld s) : ResourcesHeld (modeWritten s u n r) :=
  ResourcesHeld.reported (s := { s.withLinkUp .up with alc := { s.alc with entries := s.alc.entries.set u n } })
    (h.congr rfl rfl fun _ => rfl) r

/-- The sequencer's turn on the entry just written, or none where the planned mode is as it was. -/
theorem modeEvent_turn (h : ResourcesHeld s) (changes : (s.entry u).mode ≠ n.mode) :
    ActTurn (.start (modeWritten s u n r)) (act u (.start (modeWritten s u n r))) u ∧
      modeEvent s u n r = (act u (.start (modeWritten s u n r))).trigger true :=
  ⟨act_turn (e := .start _) (modeWritten_held s u n r h) u, congrArg (Ev.trigger true) (if_neg changes)⟩

theorem modeEvent_idle (same : (s.entry u).mode = n.mode) :
    modeEvent s u n r = (Ev.start (modeWritten s u n r)).trigger true := congrArg (Ev.trigger true) (if_pos same)

theorem modeEvent_owes : (modeEvent s u n r).due = [] ∧ (modeEvent s u n r).trig = true := by
  constructor
  · unfold modeEvent
    split
    · rfl
    · exact act_due _ _
  · exact Bool.or_true _

theorem acceptUnitMode_eq {h : Hdr} {id : Half} {unit mode : Byte} {setpoint : Half} {cls : Byte} {m : PlanMode}
    {share : Option Nat} (asked : Asked s u mode setpoint m share) :
    acceptUnitMode h id unit mode setpoint cls u (s.withLinkUp .up) =
      closeEvent (modeEvent s u (modeEntry h id m share cls) (.orderResult h.src id 0x02
        (if 4 < mode.toNat ∨ (∃ v, share = some v ∧ (v : Int) ≠ setpoint.toInt) then .clamped else .accepted) unit none)) := by
  obtain ⟨hm, hs, -⟩ := asked.ordered
  have entry : orderedEntry (s.withLinkUp .up) h id u (orderedMode mode) setpoint cls = modeEntry h id m share cls := by
    rw [hm, orderedEntry, show orderedShare (s.withLinkUp .up) u m setpoint = share from hs]
    rfl
  unfold acceptUnitMode
  dsimp only
  rw [entry, show (modeEntry h id m share cls).share = share from rfl, modeResult_eq, pushReport_eq_reported]
  rfl

end

end Sys2Proof.Machine
end

section
/-! UNIT_MODE settled: the four refusals, and an acceptance by the state that the unit's sequencer is in (R75, R76, R84 to R86,
R89, R119, R121, R125 to R131). -/

namespace Sys2Proof.Machine

theorem starting_of_gen {n : SeqState} (h : n = .gRunup ∨ n = .gSync ∨ n = .gLoad) : Starting n := by
  rcases h with rfl | rfl | rfl <;> simp [Starting]

theorem starting_of_pump {n : SeqState} (h : n = .pDewater ∨ n = .pConvwait ∨ n = .pRunup ∨ n = .pPrime) : Starting n := by
  rcases h with rfl | rfl | rfl | rfl <;> simp [Starting]

/-- Check 4 of R75, by the planned mode. -/
theorem modeBandRefused_gen {s : State} {u : UnitNo} (h : ∀ b, s.bandOf u = some b → b.turb = false) :
    modeBandRefused s u .gen = true := by
  rw [modeBandRefused, turbineBand_none h]
  rfl

theorem modeBandRefused_pump {s : State} {u : UnitNo} (h : ∀ b, s.bandOf u = some b → b.pump = false) :
    modeBandRefused s u .pump = true := by
  rw [modeBandRefused, pumpBand_none h]
  rfl

/-- The end of the event: the entry written, and what the statement keeps (R76, R84). -/
structure ModeTaken (s t : State) (u : UnitNo) (n : Entry) : Prop where
  entry    : t.entry u = n
  uib      : t.uib = s.uib
  setting  : LeavesSetting (s.withLinkUp .up) t
  dse      : t.dse = { s.dse with standing := t.dse.standing }
  order    : t.dse.standing.order = s.dse.standing.order
  others   : s.orderStands = false → ∀ v, v ≠ u → t.entry v = s.entry v

section
variable (s : State) (u : UnitNo) (n : Entry) (r : Report)

theorem modeWritten_dse : (modeWritten s u n r).dse = s.dse := reported_dse _ r

theorem modeEvent_dse : (modeEvent s u n r).s.dse = s.dse := (modeEvent_frame s u n r).dse.trans (modeWritten_dse s u n r)

theorem modeEvent_stands : (modeEvent s u n r).s.orderStands = s.orderStands := by
  rw [State.orderStands, modeEvent_dse]
  rfl

theorem modeEvent_trig : ((modeEvent s u n r).trig && (modeEvent s u n r).s.orderStands) = s.orderStands := by
  rw [(modeEvent_owes s u n r).2, modeEvent_stands, Bool.true_and]

theorem modeEvent_alc : (modeEvent s u n r).s.alc = { s.alc with entries := s.alc.entries.set u n } :=
  (modeEvent_frame s u n r).alc.trans (reported_alc _ r)

theorem modeEvent_taken (manual : s.assignOf u = .manual) : ModeTaken s (closeEvent (modeEvent s u n r)) u n := by
  have whole : EventFrame (s.withLinkUp .up) (closeEvent (modeEvent s u n r)) :=
    ((modeWritten_frame s u n r).trans (modeEvent_frame s u n r).event).trans (closeEvent_frame _)
  have written : (modeEvent s u n r).s.entry u = n := by
    rw [State.entry, modeEvent_alc]
    exact PerUnit.get_set_self _ _ _
  have assign : (modeEvent s u n r).s.assignOf u = .manual := by
    rw [State.assignOf, modeEvent_dse]
    exact manual
  refine ⟨?_, whole.uib, whole.leavesSetting, whole.dse, ?_, fun ho v hv => ?_⟩
  · rw [State.entry, closeEvent_alc]
    split
    · exact (plan_manual assign).trans written
    · exact written
  · rw [closeEvent_order, modeEvent_dse]
  · rw [State.entry, closeEvent_alc, modeEvent_trig, ho, if_neg (by decide), modeEvent_alc]
    exact PerUnit.get_set_ne _ _ _ _ hv

/-- With no order standing the event ends with the sequencer's turn. -/
theorem modeEvent_turned (h : ResourcesHeld s) (changes : (s.entry u).mode ≠ n.mode) (ho : s.orderStands = false) :
    SequencerTurn (modeWritten s u n r) (closeEvent (modeEvent s u n r)) u := by
  obtain ⟨turn, event⟩ := modeEvent_turn s u n r h changes
  rw [closeEvent_noOrder (modeEvent_owes s u n r).1 ((modeEvent_stands s u n r).trans ho), event]
  exact turn.turn

theorem modeWritten_acted {t : State} {x : SeqState} {i : Image} {m : Timer} {p : Bool}
    (h : ActedFrom (modeWritten s u n r) t u x n i m p) : ActedFrom s t u x n i m p := by
  have pra : (modeWritten s u n r).pra = s.pra := reported_pra _ r
  have tbs : (modeWritten s u n r).tbs = s.tbs := reported_tbs _ r
  have lock : (modeWritten s u n r).lockOf u = s.lockOf u := lockOf_congr u tbs (by rw [pra])
  exact h.congr tbs (by rw [lock]) (by rw [lock])

/-- Under an order the event ends with a run, after the sequencer's turn where the planned mode changes. -/
theorem modeEvent_ran (h : ResourcesHeld s) (ho : s.orderStands = true) :
    ((s.entry u).mode = n.mode → RanFrom (modeWritten s u n r) [] False (closeEvent (modeEvent s u n r))) ∧
    ((s.entry u).mode ≠ n.mode → ∃ e, SequencerTurn (modeWritten s u n r) e u ∧
      RanFrom e [] (Returns (s.seq u) n.mode) (closeEvent (modeEvent s u n r))) := by
  have trig := (modeEvent_trig s u n r).trans ho
  refine ⟨fun same => ?_, fun changes => ?_⟩
  · have event := modeEvent_idle s u n r same
    rw [event] at trig ⊢
    exact closeEvent_ranFrom (e := (Ev.start (modeWritten s u n r)).trigger true) (modeWritten_held s u n r h) trig
      (by simp [Ev.start, Ev.trigger])
  · obtain ⟨turn, event⟩ := modeEvent_turn s u n r h changes
    have settle : (modeEvent s u n r).settle = true ↔ Returns (s.seq u) n.mode := by
      rw [event]
      refine turn.settle.trans ?_
      show Ev.settle (Ev.start _) = true ∨ Returns ((modeWritten s u n r).seq u) ((modeWritten s u n r).entry u).mode ↔ _
      rw [modeWritten_seq, modeWritten_entry_self]
      simp [Ev.start]
    have held : ResourcesHeld (modeEvent s u n r).s := by
      rw [event]
      exact turn.held
    have ran := closeEvent_ranFrom held trig settle
    rw [(modeEvent_owes s u n r).1] at ran
    refine ⟨(modeEvent s u n r).s, ?_, ran⟩
    rw [event]
    exact turn.turn

end

/-- The sequencer's turn on a changed planned mode with no order standing, clause by clause, read off the state before. -/
structure ModeActed (s t : State) (u : UnitNo) (n : Entry) : Prop where
  stable   : (s.seq u).state.stable = true →
               ActedFrom s t u (s.seq u).state n (s.image u) (s.seq u).minStill (s.seq u).pendLockout
  starting : Starting (s.seq u).state → (GoesOn (s.seq u) n.mode → t.seq u = s.seq u) ∧
               (¬GoesOn (s.seq u) n.mode → Stopped t u ∧ (ReportRoom 2 s →
                 .unitState u (s.seq u).state .stopping .abandoned (s.image u).stage (s.image u).fault ∈ t.rpb.queue))
  waiting  : (s.seq u).state = .gLockwait ∨ (s.seq u).state = .pLockwait →
               (GoesOn (s.seq u) n.mode → t.seq u = s.seq u) ∧
               (¬GoesOn (s.seq u) n.mode → ∀ x, x = (if (s.seq u).state = .pLockwait then SeqState.pAir
                   else if (s.seq u).origin = .air then .gAir else .still) →
                 ActedFrom s t u x n (s.image u) (s.seq u).minStill (s.seq u).pendLockout ∧ (ReportRoom 2 s →
                   .unitState u (s.seq u).state x .returned (s.image u).stage (s.image u).fault ∈ t.rpb.queue))
  unmoved  : (s.seq u).state = .gUnload ∨ (s.seq u).state = .pUnload ∨ (s.seq u).state = .stopping ∨
               (s.seq u).state = .dormant ∨ (s.seq u).state = .unsettled ∨ (s.seq u).state = .localCmd ∨
               (s.seq u).state = .tripped → t.seq u = s.seq u

theorem modeWritten_queue {s : State} (u : UnitNo) (n : Entry) (r : Report) (room : s.rpb.queue.length < 16) :
    (modeWritten s u n r).rpb.queue = s.rpb.queue ++ [r] := reported_room _ r room

/-- A report of the turn finds room behind the answer. -/
theorem modeWritten_reports {s t : State} {u : UnitNo} {n : Entry} {r x : Report}
    (h : Reports [x] (modeWritten s u n r) t) (room : ReportRoom 2 s) : x ∈ t.rpb.queue := by
  unfold ReportRoom at room
  have first := modeWritten_queue u n r (s := s) (by omega)
  rw [h.queued (by rw [first, List.length_append, List.length_singleton]; omega)]
  simp

theorem modeActed_of_turn {s t : State} {u : UnitNo} {n : Entry} {r : Report}
    (turn : SequencerTurn (modeWritten s u n r) t u) : ModeActed s t u n := by
  have entry := modeWritten_entry_self s u n r
  have seq := modeWritten_seq s u n r u
  have image := modeWritten_image s u n r u
  have same (k : t = modeWritten s u n r) : t.seq u = s.seq u := by rw [k, seq]
  have stable := turn.actsStable
  have starting := turn.starting
  have waiting := turn.waiting
  have unmoved := turn.unmoved
  rw [entry, seq, image] at stable starting waiting
  rw [seq] at unmoved
  refine ⟨fun k => modeWritten_acted s u n r (stable k), fun k => ?_, fun k => ?_, fun k => same (unmoved k)⟩
  · obtain ⟨on, off⟩ := starting k
    exact ⟨fun j => same (on j), fun j => (off j).imp_right modeWritten_reports⟩
  · obtain ⟨on, off⟩ := waiting k
    refine ⟨fun j => same (on j), fun j x hx => ?_⟩
    rw [hx]
    exact (off j).imp (modeWritten_acted s u n r) modeWritten_reports

-- The checks (R75) ------------------------------------------------------------------------------------------------------

section
variable {h : Hdr} {id : Half} {unit mode : Byte} {setpoint : Half} {cls : Byte} {s : State} {u : UnitNo}

theorem takeUnitMode_none (none : presentUnit unit s = none) : takeUnitMode h id unit mode setpoint cls s =
    s.reported (.orderResult h.src id 0x02 .refusedUnit unit .none) := by
  rw [takeUnitMode, none]
  exact pushReport_eq_reported _ _

variable (named : presentUnit unit s = some u)
include named

theorem takeUnitMode_auto (auto : s.assignOf u = .auto) : takeUnitMode h id unit mode setpoint cls s =
    s.reported (.orderResult h.src id 0x02 .refusedNotManual unit none) := by
  rw [takeUnitMode, named]
  dsimp only
  rw [if_pos auto, pushReport_eq_reported]
  rfl

theorem takeUnitMode_paused (manual : s.assignOf u = .manual) (paused : s.dse.engine = .paused) :
    takeUnitMode h id unit mode setpoint cls s = s.reported (.orderResult h.src id 0x02 .refusedState unit none) := by
  rw [takeUnitMode, named]
  dsimp only
  rw [if_neg (by rw [manual]; decide), if_pos paused, pushReport_eq_reported]
  rfl

theorem takeUnitMode_band (manual : s.assignOf u = .manual) (runs : s.dse.engine ≠ .paused)
    (refused : modeBandRefused s u (orderedMode mode) = true) :
    takeUnitMode h id unit mode setpoint cls s = s.reported (.orderResult h.src id 0x02 .refusedBand unit none) := by
  rw [takeUnitMode, named]
  dsimp only
  rw [if_neg (by rw [manual]; decide), if_neg runs, if_pos refused, pushReport_eq_reported]
  rfl

theorem takeUnitMode_accepted (manual : s.assignOf u = .manual) (runs : s.dse.engine ≠ .paused)
    (allowed : modeBandRefused s u (orderedMode mode) = false) :
    takeUnitMode h id unit mode setpoint cls s = acceptUnitMode h id unit mode setpoint cls u s := by
  rw [takeUnitMode, named]
  dsimp only
  rw [if_neg (by rw [manual]; decide), if_neg runs, if_neg (by rw [allowed]; decide)]

end

/-- Settles O39: the checks in their order; an acceptance by the sequencer's turn on the entry written, and the run. -/
theorem unitModeDecided : Obligations.UnitModeDecided := by
  intro h id unit mode setpoint cls pad s hd i answer refused
  have taken : exec i s = .next (takeUnitMode h id unit mode setpoint cls (s.withLinkUp .up)) :=
    arriveUp_toPart (takeUnitMode h id unit mode setpoint cls) hd.1 hd.2.1
  refine ⟨fun none => taken.trans (congrArg _ (takeUnitMode_none (presentUnit_refused none))), fun u number present => ?_⟩
  have named : presentUnit unit (s.withLinkUp .up) = some u := presentUnit_number number present
  refine ⟨fun auto => taken.trans (congrArg _ (takeUnitMode_auto named auto)),
    fun manual paused => taken.trans (congrArg _ (takeUnitMode_paused named manual paused)),
    fun manual runs => ⟨fun hm band => taken.trans (congrArg _ (takeUnitMode_band named manual runs ?_)),
      fun hm band => taken.trans (congrArg _ (takeUnitMode_band named manual runs ?_)), fun m share asked => ?_⟩⟩
  · rw [hm]
    exact modeBandRefused_gen (s := s.withLinkUp .up) band
  · rw [hm]
    exact modeBandRefused_pump (s := s.withLinkUp .up) band
  have asked : Asked s u mode setpoint m share := asked
  obtain ⟨ordered, -, allowed⟩ := asked.ordered
  let n := modeEntry h id m share cls
  let r : Report := answer (if 4 < mode.toNat ∨ (∃ v, share = some v ∧ (v : Int) ≠ setpoint.toInt) then .clamped
    else .accepted)
  have event : exec i s = .next (closeEvent (modeEvent s u n r)) :=
    taken.trans (congrArg _ ((takeUnitMode_accepted named manual runs (by rw [ordered]; exact allowed)).trans
      (acceptUnitMode_eq s u asked)))
  have kept := modeEvent_taken s u n r manual
  refine ⟨closeEvent (modeEvent s u n r), event, kept.entry, kept.uib, kept.setting, kept.dse, kept.order, kept.others,
    fun ho agree changes => ?_, fun ho agree => modeEvent_ran s u n r agree.held ho, fun room => ?_⟩
  · have acted := modeActed_of_turn (modeEvent_turned s u n r agree.held changes ho)
    generalize closeEvent (modeEvent s u n r) = t at acted kept
    intro q im actsFrom gens pumps reports abandons
    have started (k : Starting q.state) (dir : Prop) (on : GoesOn q m ↔ dir) :
        (dir → t.seq u = q) ∧ (¬dir → abandons) := by
      rw [← on]
      exact acted.starting k
    have acts {x : SeqState} (k : ActedFrom s t u x n im q.minStill q.pendLockout) : actsFrom x := by
      show ActedFrom s t u x (t.entry u) im q.minStill q.pendLockout
      rw [kept.entry]
      exact k
    refine ⟨fun k => acts (acted.stable k), fun k => started (starting_of_gen k) gens (goesOn_starting.1 k),
      fun k => started (starting_of_pump k) pumps (goesOn_starting.2 k), fun k => ?_, acted.unmoved⟩
    · intro x goesOn
      have on : GoesOn q m ↔ goesOn := goesOn_waiting k
      obtain ⟨stays, returns⟩ := acted.waiting k
      refine ⟨fun d => stays (on.mpr d), fun d => ?_⟩
      obtain ⟨acted, report⟩ := returns (fun j => d (on.mp j)) x rfl
      exact ⟨acts acted, report⟩
  · unfold ReportRoom at room
    obtain ⟨rs, hrs⟩ := ((modeEvent_frame s u n r).event.trans (closeEvent_frame _)).queue
    refine ⟨rs, ?_⟩
    rw [hrs, modeWritten_queue u n r (by omega), List.append_assoc]
    rfl

end Sys2Proof.Machine
end

section
/-! UNIT_CLEAR: a trip cleared to STILL, or on to LOCAL, and what the sequencer does then (R78, R82, R84, R85, R89, R128, R132,
R141, R142). -/

namespace Sys2Proof.Machine

-- PLANT_ALERT_N beside the reports (R185, R192) ------------------------------------------------------------------------

/-- PLANT_ALERT_N driven. -/
def State.alerted (b : Bool) (s : State) : State := { s with rpb := { s.rpb with alertLow := b } }

theorem driveAlert_eq (s : State) : driveAlert s = s.alerted s.alertDue := rfl

theorem alerted_reported (b : Bool) (s : State) (r : Report) : (s.alerted b).reported r = (s.reported r).alerted b := by
  unfold State.reported
  show (if s.rpb.queue.length < 16 then _ else _) = _
  split
  · rfl
  · unfold State.withFlag State.alerted
    cases s.lpu.upTx <;> rfl

theorem reported_alertDue (s : State) (r : Report) : (s.reported r).alertDue = s.alertDue := by
  rw [reported_eq]
  rfl

/-- A sequencer that was not in G_ON has entered a state with its record then changed: of the state, its record and the drive
of PLANT_ALERT_N. -/
theorem moved_s {u : UnitNo} {n : SeqState} {f : Seq → Seq} {e : Ev} (off : (e.s.seq u).state ≠ .gOn)
    (state : ∀ q, (f q).state = q.state) : (e.moved u n f).s =
      (e.s.setSeq u (f ((e.s.seq u).leaveFor n))).alerted (e.s.setSeq u (f ((e.s.seq u).leaveFor n))).alertDue := by
  have entered : (moveTo u n e).s = driveAlert (e.s.setSeq u ((e.s.seq u).leaveFor n)) := by
    unfold moveTo
    dsimp only
    rw [if_neg off]
  have own : (moveTo u n e).s.seq u = (e.s.seq u).leaveFor n := by
    rw [entered]
    exact State.setSeq_seq_self _ _ _
  have due : (e.s.setSeq u (f ((e.s.seq u).leaveFor n))).alertDue = (e.s.setSeq u ((e.s.seq u).leaveFor n)).alertDue := by
    refine alertDue_congr rfl rfl (fun v => ?_) rfl
    by_cases hv : v = u
    · subst hv
      rw [State.setSeq_seq_self, State.setSeq_seq_self, state]
    · rw [State.setSeq_seq_ne _ _ _ _ hv, State.setSeq_seq_ne _ _ _ _ hv]
  show (moveTo u n e).s.setSeq u (f ((moveTo u n e).s.seq u)) = _
  rw [own, entered, due, driveAlert_eq]
  show State.alerted _ ((e.s.setSeq u _).setSeq u _) = _
  unfold State.setSeq
  rw [PerUnit.set_set]

-- The trip cleared (R141, R142) ------------------------------------------------------------------------------------------

/-- The record of a sequencer that a UNIT_CLEAR took to STILL (R141). -/
def Seq.cleared (q : Seq) (minStill : Nat) : Seq :=
  { q with state := .still, origin := .none, prior := none, stageTimer := none, minStill := some minStill }

/-- The record of a sequencer in LOCAL (R142). -/
def Seq.gone (q : Seq) : Seq :=
  { state := .localCmd, origin := .none, prior := none, stageTimer := none, minRun := none, minStill := none,
    linger := none, pendLockout := q.pendLockout }

/-- The state after a trip cleared to STILL, its report made. -/
def State.tripCleared (s : State) (u : UnitNo) : State :=
  State.reported { s with seqs := s.seqs.set u ((s.seq u).cleared (s.unit u).minStill) }
    (.unitState u .tripped .still .cleared (some .still) 0)

/-- The state after the entry into LOCAL that follows where REMOTE is inactive. -/
def State.clearedGone (s : State) (u : UnitNo) : State :=
  State.reported { s.tripCleared u with
      seqs := s.seqs.set u (s.seq u).gone
      lpu := { (s.tripCleared u).lpu with
        cmds := s.lpu.cmds.filter fun w => w.slot != .stage u || w.cmd == .identReq } }
    (.unitState u .still .localCmd .remoteLoss (some .still) 0)

/-- PLANT_ALERT_N as its condition asks, and the order answered. -/
def State.answered (s : State) (r : Report) : State := (s.alerted s.alertDue).reported r

theorem tripCleared_seq (s : State) (u : UnitNo) : (s.tripCleared u).seq u = (s.seq u).cleared (s.unit u).minStill := by
  rw [State.seq, State.tripCleared, reported_seqs]
  exact PerUnit.get_set_self _ _ _

theorem enterLocal_moved (u : UnitNo) (e : Ev) : enterLocal u e =
    (((giveUp u (e.moved u .localCmd Seq.stopTimers)).map (withdrawStage u)).map
      (pushUnitState u (e.state u) .localCmd .remoteLoss)).trigger true := rfl

theorem clearTrip_eq (s : State) (u : UnitNo) : clearTrip u (.start s) =
    if (s.image u).perm.remote.val then
      ((((Ev.start s).moved u .still fun q => { q with minStill := some (s.unit u).minStill }).map
        (pushUnitState u .tripped .still .cleared)).trigger true).addDue u
    else enterLocal u ((((Ev.start s).moved u .still fun q => { q with minStill := some (s.unit u).minStill }).map
        (pushUnitState u .tripped .still .cleared)).trigger true) := rfl

section
variable {s : State} {u : UnitNo} (clear : (s.seq u).state = .tripped ∧ (s.image u).stage = some .still ∧
  (s.image u).fault = 0)
include clear

/-- The part of the clearing that every cleared sequencer goes through. -/
theorem clearedStill_s :
    ((Ev.start s).moved u .still fun q => { q with minStill := some (s.unit u).minStill }).map
        (pushUnitState u .tripped .still .cleared) =
      { s := (s.tripCleared u).alerted (s.tripCleared u).alertDue, trig := false, settle := true, due := [] } := by
  obtain ⟨tripped, stage, fault⟩ := clear
  have record : { (s.seq u).leaveFor .still with minStill := some (s.unit u).minStill } =
      (s.seq u).cleared (s.unit u).minStill := by
    unfold Seq.leaveFor Seq.cleared
    rw [tripped]
    rfl
  have moved := moved_s (e := .start s) (n := .still) (f := fun q => { q with minStill := some (s.unit u).minStill })
    (u := u) (by rw [show (Ev.start s).s.seq u = s.seq u from rfl, tripped]; decide) fun _ => rfl
  rw [show (Ev.start s).s = s from rfl, record] at moved
  have pushed : pushUnitState u .tripped .still .cleared
      ((Ev.start s).moved u .still fun q => { q with minStill := some (s.unit u).minStill }).s =
        (s.tripCleared u).alerted (s.tripCleared u).alertDue := by
    rw [moved, pushUnitState, pushReport_eq_reported, alerted_reported]
    show State.alerted _ (State.reported _ (.unitState u .tripped .still .cleared (s.image u).stage (s.image u).fault)) = _
    rw [stage, fault, State.tripCleared, reported_alertDue]
    rfl
  exact congrArg (fun t => ({ s := t, trig := false, settle := true, due := [] } : Ev)) pushed

theorem clearTrip_remote (remote : (s.image u).perm.remote.val = true) : clearTrip u (.start s) =
    { s := (s.tripCleared u).alerted (s.tripCleared u).alertDue, trig := true, settle := true, due := [u] } := by
  rw [clearTrip_eq, if_pos remote, clearedStill_s clear]
  rfl

theorem clearTrip_local (agree : ResourcesAgree s) (remote : (s.image u).perm.remote.val = false) :
    clearTrip u (.start s) =
      { s := (s.clearedGone u).alerted (s.clearedGone u).alertDue, trig := true, settle := true, due := [] } := by
  have still := clearedStill_s clear
  obtain ⟨tripped, stage, fault⟩ := clear
  let c : Ev := { s := (s.tripCleared u).alerted (s.tripCleared u).alertDue, trig := true, settle := true, due := [] }
  have entered : clearTrip u (.start s) = enterLocal u c := by
    rw [clearTrip_eq, if_neg (by rw [remote]; decide), still]
    rfl
  have seq : c.s.seq u = (s.seq u).cleared (s.unit u).minStill := tripCleared_seq s u
  have record : Seq.stopTimers ((c.s.seq u).leaveFor .localCmd) = (s.seq u).gone := by rw [seq]; rfl
  have moved := moved_s (e := c) (n := .localCmd) (f := Seq.stopTimers) (u := u)
    (by rw [seq]; exact SeqState.noConfusion) fun _ => rfl
  rw [record] at moved
  have holds : HoldsNothing u (c.moved u .localCmd Seq.stopTimers).s := by
    refine (agree.held.holdsNothing (by rw [tripped]; rfl)).congr ?_ ?_
    · rw [moved]
      show (s.tripCleared u).tbs = _
      rw [State.tripCleared, reported_tbs]
    · rw [moved]
      show (s.tripCleared u).pra = _
      rw [State.tripCleared, reported_pra]
  have image : (s.tripCleared u).image u = s.image u := by
    rw [State.image, State.tripCleared, reported_uib, State.image]
  have gone : (enterLocal u c).s = (s.clearedGone u).alerted (s.clearedGone u).alertDue := by
    show pushUnitState u (c.s.seq u).state .localCmd .remoteLoss
      (withdrawStage u (giveUp u (c.moved u .localCmd Seq.stopTimers)).s) = _
    rw [giveUp_nothing holds.waits holds.lock holds.grant, moved, seq, pushUnitState, pushReport_eq_reported]
    let x : State := { s.tripCleared u with
      seqs := s.seqs.set u (s.seq u).gone
      lpu := { (s.tripCleared u).lpu with
        cmds := s.lpu.cmds.filter fun w => w.slot != .stage u || w.cmd == .identReq } }
    have same : withdrawStage u ((c.s.setSeq u (s.seq u).gone).alerted (c.s.setSeq u (s.seq u).gone).alertDue) =
        x.alerted x.alertDue := by
      have seqs : c.s.seqs.set u (s.seq u).gone = s.seqs.set u (s.seq u).gone := by
        show (s.tripCleared u).seqs.set u _ = _
        rw [State.tripCleared, reported_seqs]
        exact PerUnit.set_set _ _ _ _
      have cmds : c.s.lpu.cmds = s.lpu.cmds := by
        show (s.tripCleared u).lpu.cmds = _
        rw [State.tripCleared, reported_lpu]
      have set : c.s.setSeq u (s.seq u).gone = ({ s.tripCleared u with seqs := s.seqs.set u (s.seq u).gone } : State).alerted
          (s.tripCleared u).alertDue := by
        unfold State.setSeq
        rw [seqs]
        rfl
      have command : ({ s.tripCleared u with seqs := s.seqs.set u (s.seq u).gone } : State).lpu.cmds = s.lpu.cmds := cmds
      rw [set]
      show ({ s.tripCleared u with
          seqs := s.seqs.set u (s.seq u).gone
          lpu := { (s.tripCleared u).lpu with
            cmds := (s.tripCleared u).lpu.cmds.filter fun w => w.slot != .stage u || w.cmd == .identReq } } : State).alerted
          _ = _
      rw [show (s.tripCleared u).lpu.cmds = s.lpu.cmds from cmds]
      rfl
    rw [same, alerted_reported]
    show State.alerted _ (x.reported (.unitState u .still .localCmd .remoteLoss
      ((s.tripCleared u).image u).stage ((s.tripCleared u).image u).fault)) = _
    rw [image, stage, fault, State.clearedGone, reported_alertDue]
  have kept : enterLocal u c = { s := (enterLocal u c).s, trig := true, settle := true, due := [] } := by
    rw [enterLocal_moved, giveUp_nothing holds.waits holds.lock holds.grant]
    rfl
  rw [entered, kept, gone]

end

end Sys2Proof.Machine
end

section
/-! UNIT_CLEAR settled: the event of a clearing, its sequencer's turn with and without an order, and the refusals (R78, R82,
R84, R85, R89, R128, R132, R141, R142). -/

namespace Sys2Proof.Machine

-- Endings without an order, and turns that do nothing --------------------------------------------------------------

/-- The settling check is for an order that stands (R82). -/
theorem closeSettling_unordered {e : Ev} (h : e.s.orderStands = false) : closeSettling e = e.s := by
  unfold closeSettling settleCheck
  split
  · refine if_neg fun ⟨running, active, _⟩ => ?_
    rw [State.orderStands, running, active] at h
    cases h
  · rfl

/-- A STILL sequencer whose min-still timer runs starts nothing (R128). -/
theorem act_minStill_runs {u : UnitNo} {e : Ev} (still : (e.s.seq u).state = .still)
    (runs : (e.s.seq u).minStill.running = true) : act u e = e := by
  have blocked : freeToStart u e.s = false := by rw [freeToStart, runs]; rfl
  have acts : act u e = actStable u e := if_pos (by rw [Ev.state, still]; rfl)
  rw [acts]
  unfold actStable Ev.state
  rw [still, blocked]
  cases (e.s.entry u).mode <;> rfl

theorem ResourcesHeld.waitsNowhere {u : UnitNo} {s : State} (h : ResourcesHeld s)
    (wait : (s.seq u).state.waitsForLock = false) (conv : (s.seq u).state ≠ .pConvwait) : WaitsNowhere u s :=
  ⟨h.not_waiter wait, h.not_queued conv⟩

/-- Nor does it where the pass comes to it. -/
theorem actTurn_minStill_runs (old : PerUnit Entry) {u : UnitNo} {e : Ev} (still : (e.s.seq u).state = .still)
    (runs : (e.s.seq u).minStill.running = true) : actTurn old e u = e := by
  unfold actTurn Ev.state
  dsimp only
  split
  · exact act_minStill_runs still runs
  · refine if_neg fun ⟨_, _, _, _, air⟩ => ?_
    rw [still] at air
    obtain air | air := air <;> cases air

/-- A sequencer in STILL whose min-still timer runs keeps its record through the end of an event. -/
theorem closeEvent_keepsStill {u : UnitNo} {e : Ev} (agree : ResourcesHeld e.s) (still : (e.s.seq u).state = .still)
    (runs : (e.s.seq u).minStill.running = true) : (closeEvent e).seq u = e.s.seq u := by
  let f : Ev := if e.trig && e.s.orderStands then e.map replan else e
  have start : ResourcesHeld f.s ∧ f.s.seq u = e.s.seq u := by
    by_cases trig : (e.trig && e.s.orderStands) = true
    · have made : f = e.map replan := if_pos trig
      rw [made]
      exact ⟨agree.replan, pushReport_seq _ _ _⟩
    · have made : f = e := if_neg trig
      rw [made]
      exact ⟨agree, rfl⟩
  obtain ⟨held, own⟩ := start
  obtain ⟨g, before, -, -, -, after⟩ := actAll_around e.s.alc.entries u held
  obtain ⟨nowhere, kept, -⟩ := before (held.waitsNowhere (by rw [own, still]; rfl) (by rw [own, still]; decide))
  rw [actTurn_minStill_runs _ (by rw [kept, own, still]) (by rw [kept, own, runs])] at after
  obtain ⟨nowhere', kept', -⟩ := after nowhere
  have settled := closeSettling_apart (u := u) (actAll e.s.alc.entries f) nowhere'
  exact settled.2.1.trans (kept'.trans (kept.trans own))

/-- The turn of a sequencer in STILL, which holds nothing to pass on (R128). -/
theorem SequencerTurn.fromStill {a b : State} {u : UnitNo} (h : SequencerTurn a b u) (held : ResourcesHeld a)
    (still : (a.seq u).state = .still) :
    ActedFrom a b u .still (a.entry u) (a.image u) (a.seq u).minStill (a.seq u).pendLockout ∧
      (∀ v, v ≠ u → b.seq v = a.seq v) ∧ b.rmp = a.rmp ∧ b.alc = a.alc := by
  have frame : TurnFrame a b u := h.1
  have holdsNot : (a.lockOf u).holder ≠ some u := held.not_lockHolder (by rw [still]; rfl) _
  have acted := h.actsStable (by rw [still]; rfl)
  have alc : b.alc = a.alc := (congrArg State.alc frame.rest).trans rfl
  rw [still] at acted
  refine ⟨acted, fun v hv => frame.other hv fun k => absurd k holdsNot, ?_, alc⟩
  have units : b.rmp.units = a.rmp.units := PerUnit.ext_get _ _ fun v => by
    by_cases hv : v = u
    · subst hv
      refine frame.ramp.trans (if_neg fun ⟨gOn, _⟩ => ?_)
      rw [still] at gOn
      cases gOn
    · exact (frame.others v hv).1
  have kept : b.rmp = { a.rmp with units := b.rmp.units } := congrArg State.rmp frame.rest
  rw [kept, units]

-- The event of a clearing ----------------------------------------------------------------------------------------------

/-- The event of a clearing that has reached `y`, its answer made. -/
def Ev.released (y : State) (r : Report) (due : List UnitNo) : Ev :=
  { s := y.answered r, trig := true, settle := true, due := due }

theorem answered_seqs (y : State) (r : Report) : (y.answered r).seqs = y.seqs := reported_seqs _ r

theorem answered_queue (y : State) (r : Report) (room : y.rpb.queue.length < 16) :
    (y.answered r).rpb.queue = y.rpb.queue ++ [r] := reported_room _ r room

section
variable {s : State} {u : UnitNo} (r : Report) (clear : (s.seq u).state = .tripped ∧ (s.image u).stage = some .still ∧
  (s.image u).fault = 0)
include clear

theorem clearTrip_released (remote : (s.image u).perm.remote.val = true) :
    (clearTrip u (.start s)).map (pushReport r) = .released (s.tripCleared u) r [u] := by
  rw [clearTrip_remote clear remote]
  exact congrArg (fun t => ({ s := t, trig := true, settle := true, due := [u] } : Ev)) (pushReport_eq_reported r _)

theorem clearTrip_away (agree : ResourcesAgree s) (remote : (s.image u).perm.remote.val = false) :
    (clearTrip u (.start s)).map (pushReport r) = .released (s.clearedGone u) r [] := by
  rw [clearTrip_local clear agree remote]
  exact congrArg (fun t => ({ s := t, trig := true, settle := true, due := [] } : Ev)) (pushReport_eq_reported r _)

end

theorem tripCleared_queue {s : State} (u : UnitNo) (room : s.rpb.queue.length < 16) :
    (s.tripCleared u).rpb.queue = s.rpb.queue ++ [.unitState u .tripped .still .cleared (some .still) 0] :=
  reported_room _ _ room

/-- What the event leaves in any case. -/
structure Released (s : State) (u : UnitNo) (r : Report) (e : Ev) : Prop where
  agree  : ResourcesAgree e.s
  frame  : SeqFrame s e.s
  owes   : e.trig = true ∧ e.settle = true
  queued : ReportRoom 3 s → .unitState u .tripped .still .cleared (some .still) 0 ∈ e.s.rpb.queue ∧ r ∈ e.s.rpb.queue

section
variable {s : State} {u : UnitNo} (r : Report) (clear : (s.seq u).state = .tripped ∧ (s.image u).stage = some .still ∧
  (s.image u).fault = 0) (agree : ResourcesAgree s)
include clear agree

theorem clearTrip_left : Released s u r ((clearTrip u (.start s)).map (pushReport r)) := by
  have pushed : ResourcesAgree ((clearTrip u (.start s)).map (pushReport r)).s :=
    (ResourcesAgree.clearTrip (e := .start s) agree clear.1).pushed r
  have frame : SeqFrame s ((clearTrip u (.start s)).map (pushReport r)).s :=
    (clearTrip_frame u (.start s)).trans (pushReport_frame r _)
  by_cases remote : (s.image u).perm.remote.val = true
  · rw [clearTrip_released r clear remote] at pushed frame ⊢
    refine ⟨pushed, frame, ⟨rfl, rfl⟩, fun room => ?_⟩
    unfold ReportRoom at room
    have first := tripCleared_queue (s := s) u (by omega)
    have both : (Ev.released (s.tripCleared u) r [u]).s.rpb.queue = _ := answered_queue (s.tripCleared u) r (by
      rw [first, List.length_append, List.length_singleton]; omega)
    rw [both, first]
    simp
  · have remote : (s.image u).perm.remote.val = false := Bool.eq_false_iff.mpr remote
    rw [clearTrip_away r clear agree remote] at pushed frame ⊢
    refine ⟨pushed, frame, ⟨rfl, rfl⟩, fun room => ?_⟩
    unfold ReportRoom at room
    have first := tripCleared_queue (s := s) u (by omega)
    have length : (s.tripCleared u).rpb.queue.length = s.rpb.queue.length + 1 := by
      rw [first, List.length_append, List.length_singleton]
    have second : (s.clearedGone u).rpb.queue =
        (s.tripCleared u).rpb.queue ++ [.unitState u .still .localCmd .remoteLoss (some .still) 0] :=
      reported_room _ _ (by show (s.tripCleared u).rpb.queue.length < 16; omega)
    have both : (Ev.released (s.clearedGone u) r []).s.rpb.queue = _ := answered_queue (s.clearedGone u) r (by
      rw [second, List.length_append, List.length_singleton]; omega)
    rw [both, second, first]
    simp

end

-- Its sequencer afterwards -----------------------------------------------------------------------------------------------

section
variable {y : State} {u : UnitNo} {r : Report} (agree : ResourcesAgree (y.answered r))
include agree

/-- A sequencer gone to LOCAL keeps its record through the end of the event. -/
theorem closeEvent_released_passive {due : List UnitNo} (passive : (y.seq u).state.passive = true)
    (wait : (y.seq u).state.waitsForLock = false) (conv : (y.seq u).state ≠ .pConvwait) :
    (closeEvent (.released y r due)).seq u = y.seq u := by
  have seq : (y.answered r).seq u = y.seq u := by rw [State.seq, answered_seqs, State.seq]
  have nowhere : WaitsNowhere u (y.answered r) := agree.held.waitsNowhere (by rw [seq]; exact wait) (by rw [seq]; exact conv)
  obtain ⟨-, kept, -⟩ := closeEvent_apart (.released y r due) (u := u) (by
    show ((y.answered r).seq u).state.passive = true
    rw [seq]; exact passive) nowhere
  exact kept.trans seq

/-- A sequencer cleared to STILL with its min-still timer running keeps its record through the end of the event. -/
theorem closeEvent_released_still {due : List UnitNo} (still : (y.seq u).state = .still)
    (runs : (y.seq u).minStill.running = true) : (closeEvent (.released y r due)).seq u = y.seq u := by
  have seq : (y.answered r).seq u = y.seq u := by rw [State.seq, answered_seqs, State.seq]
  exact (closeEvent_keepsStill (e := .released y r due) agree.held (by rw [← still, ← seq]; rfl)
    (by rw [← runs, ← seq]; rfl)).trans seq

/-- With no order standing, the cleared sequencer takes its turn alone. -/
theorem closeEvent_released_turn (stands : (y.answered r).orderStands = false) :
    SequencerTurn (y.answered r) (closeEvent (.released y r [u])) u := by
  have turn := act_turn (e := .released y r [u]) agree.held u
  have ends : closeEvent (.released y r [u]) = (act u (.released y r [u])).s := by
    rw [closeEvent_eq_turns (e := .released y r [u]) stands, actAll_single agree.held rfl]
    refine closeSettling_unordered ?_
    rw [State.orderStands, (act_frame u (.released y r [u])).dse]
    exact stands
  rw [ends]
  exact turn.turn

end

-- The statement ------------------------------------------------------------------------------------------------------------

theorem takeUnitClear_named {h : Hdr} {id : Half} {unit : Byte} {s : State} {u : UnitNo}
    (named : presentUnit unit s = some u) : takeUnitClear h id unit s =
      if clearable s u then closeEvent ((clearTrip u (.start s)).map (pushReport (orderAnswer h id subUnitClear .accepted unit)))
      else pushReport (orderAnswer h id subUnitClear .refusedNotClearable unit) s := by
  rw [takeUnitClear, named]

theorem clearable_iff {s : State} {u : UnitNo} : clearable s u = true ↔
    (s.seq u).state = .tripped ∧ (s.image u).stage = some .still ∧ (s.image u).fault = 0 := by
  simp only [clearable, Bool.and_eq_true, beq_iff_eq, and_assoc]

/-- Settles O41: the refusals; a clearing by its event, whose sequencer keeps its record while it may not act, and takes its
turn otherwise, alone or among the turns on the run's plan. -/
theorem unitClearReleasesTrip : Obligations.UnitClearReleasesTrip := by
  intro h id unit pad s hd i answer
  let x : State := s.withLinkUp .up
  have taken : exec i s = .next (takeUnitClear h id unit x) := arriveUp_toPart (takeUnitClear h id unit) hd.1 hd.2.1
  refine ⟨fun refused => ?_, fun u number present => ?_⟩
  · rw [taken, takeUnitClear, presentUnit_refused (s := x) refused, pushReport_eq_reported]
    rfl
  have named : presentUnit unit x = some u := presentUnit_number number present
  refine ⟨fun unclear => ?_, fun clear agree => ?_⟩
  · rw [taken, takeUnitClear_named named, if_neg (fun k : clearable x u = true => unclear (clearable_iff.mp k)), pushReport_eq_reported]
    rfl
  let e : Ev := (clearTrip u (.start x)).map (pushReport (answer .accepted))
  have event : exec i s = .next (closeEvent e) := by
    rw [taken, takeUnitClear_named named, if_pos (clearable_iff.mpr clear : clearable x u = true)]
    rfl
  have agreed : ResourcesAgree x := agree.withLinkUp .up
  have left : Released x u (answer .accepted) e := clearTrip_left _ clear agreed
  have whole : EventFrame x (closeEvent e) := left.frame.event.trans (closeEvent_frame e)
  have stands : e.s.orderStands = s.orderStands := by
    rw [State.orderStands, left.frame.dse]
    rfl
  have near (remote : (s.image u).perm.remote.val = true) : e = .released (x.tripCleared u) (answer .accepted) [u] :=
    clearTrip_released _ clear remote
  have away (remote : (s.image u).perm.remote.val = false) : e = .released (x.clearedGone u) (answer .accepted) [] :=
    clearTrip_away _ clear agreed remote
  have ran (ho : s.orderStands = true) : RanFrom e.s e.due True (closeEvent e) :=
    closeEvent_ranFrom left.agree.held (by rw [left.owes.1, stands, ho]; rfl) (by rw [left.owes.2]; simp)
  refine ⟨closeEvent e, event, whole.uib, whole.leavesSetting, whole.dse, ?_, fun remote period => ?_, fun remote => ?_,
    fun remote ho => ?_, fun ho => ⟨fun remote => ?_, fun remote => ?_⟩, fun room => ?_⟩
  · rw [closeEvent_order, left.frame.dse]
    rfl
  · have agree' := left.agree
    rw [near remote] at agree' ⊢
    have own := tripCleared_seq x u
    exact (closeEvent_released_still agree' (by rw [own]; rfl)
      (by rw [own]; exact decide_eq_true period)).trans own
  · have agree' := left.agree
    rw [away remote] at agree' ⊢
    have own : (x.clearedGone u).seq u = (x.seq u).gone := by
      rw [State.seq, State.clearedGone, reported_seqs]
      exact PerUnit.get_set_self _ _ _
    exact (closeEvent_released_passive agree' (by rw [own]; rfl) (by rw [own]; rfl)
      (by rw [own]; exact SeqState.noConfusion)).trans own
  · have agree' := left.agree
    have frame := left.frame
    rw [near remote] at agree' stands frame ⊢
    have own : ((x.tripCleared u).answered (answer .accepted)).seq u = (x.seq u).cleared (x.unit u).minStill := by
      rw [State.seq, answered_seqs]
      exact tripCleared_seq x u
    obtain ⟨acted, others, rmp, alc⟩ := (closeEvent_released_turn agree' (stands.trans ho)).fromStill agree'.held
      (by rw [own]; rfl)
    have frame : SeqFrame x ((x.tripCleared u).answered (answer .accepted)) := frame
    have pra : ((x.tripCleared u).answered (answer .accepted)).pra = s.pra := by
      rw [State.answered, reported_pra]
      show (x.tripCleared u).pra = _
      rw [State.tripCleared, reported_pra]
      rfl
    have lock : ((x.tripCleared u).answered (answer .accepted)).lockOf u = s.lockOf u :=
      lockOf_congr u frame.tbs (by rw [pra])
    rw [own, frame.entry_eq, frame.image_eq] at acted
    refine ⟨acted.congr frame.tbs (by rw [lock]) (by rw [lock]), fun v hv => (others v hv).trans ?_, rmp.trans ?_,
      alc.trans frame.alc⟩
    · rw [State.seq, answered_seqs, State.tripCleared, reported_seqs]
      exact PerUnit.get_set_ne _ _ _ _ hv
    · rw [State.answered, reported_rmp]
      show (x.tripCleared u).rmp = _
      rw [State.tripCleared, reported_rmp]
      rfl
  · have run := ran ho
    rw [near remote] at run ⊢
    exact run
  · have run := ran ho
    rw [away remote] at run ⊢
    exact run
  · obtain ⟨rs, queue⟩ := (closeEvent_frame e).queue
    obtain ⟨first, second⟩ := left.queued room
    rw [queue]
    exact ⟨List.mem_append_left _ first, List.mem_append_left _ second⟩

end Sys2Proof.Machine
end

section
/-! NET_POWER and the guard timer: an order refused, deferred, or taken, and the turns on the plan of a taken one (R71 to R74,
R82, R88, R89, R117, R126 to R131, R162). -/

namespace Sys2Proof.Machine

-- What a run reads of the Dispatch Engine (R88) -----------------------------------------------------------------------

/-- The state with nothing in the Dispatch Engine but the assignments and the order that stands. -/
def State.guided (s : State) : State :=
  { s with dse := {
      engine := .paused
      standing := { state := .none, order := s.dse.standing.order, summary := .zero }
      deferred := none
      guardTmr := none
      assign := s.dse.assign
      trace := false } }

theorem committedGens_guided (s : State) : committedGens s.guided = committedGens s := by
  unfold committedGens
  simp only [addGens_congr (s := s) (t := s.guided) fun _ => rfl]
  rfl

theorem rawShares_guided (s : State) : rawShares s.guided = rawShares s := by
  unfold rawShares boundedResidual
  rw [committedGens_guided]
  rfl

theorem plan_guided (s : State) : plan s.guided = plan s := by
  have same : shares s.guided = shares s := by
    unfold shares
    rw [rawShares_guided, clampCarry_congr (s := s) (t := s.guided) fun _ => rfl]
  unfold plan
  rw [same]
  rfl

/-- Of the Dispatch Engine a run reads the assignments and the order that stands alone. -/
theorem plan_order {s : State} {d : Dse} (assign : d.assign = s.dse.assign)
    (order : d.standing.order = s.dse.standing.order) : plan { s with dse := d } = plan s := by
  have same : ({ s with dse := d } : State).guided = s.guided := by
    unfold State.guided
    dsimp only
    rw [assign, order]
  rw [← plan_guided, same, plan_guided]

-- An order taken (R72) ------------------------------------------------------------------------------------------------------

/-- The plan that the taking of an order computes. -/
def State.planFor (s : State) (o : Order) : Alc :=
  plan { s with dse := { s.dse with standing := { s.dse.standing with state := .active, order := o } } }

/-- The state with an order's record and plan written and the guard timer started. -/
def State.ordered (s : State) (o : Order) : State :=
  { s with
    alc := s.planFor o
    dse := { s.dse with
      standing := { state := .active, order := o, summary := (s.planFor o).summary }
      guardTmr := if s.tbs.plant.guardTime = 0 then none else some s.tbs.plant.guardTime } }

/-- The answer to an order taken, and to the order it replaces. -/
def State.orderAnswered (s : State) (o : Order) : State :=
  let answered := (s.ordered o).reported
    (.orderResult o.src o.id 0x01 (if o.clamped then .clamped else .accepted) 0 (some (s.planFor o).summary))
  if s.dse.standing.state = .none then answered
  else answered.reported (.orderResult s.dse.standing.order.src s.dse.standing.order.id 0x01 .superseded 0 none)

theorem reported_setDse (s : State) (r : Report) (d : Dse) : (s.reported r).setDse d = (s.setDse d).reported r := by
  unfold State.reported
  show _ = (if s.rpb.queue.length < 16 then _ else _)
  split <;> rfl

section
variable {s : State} (o : Order) (stopped : s.dse.guardTmr = none)
include stopped

theorem takeOrder_eq : takeOrder o s = closeSettling (actAll s.alc.entries (.start (s.orderAnswered o))) := by
  let w : State := { s with
    alc := s.planFor o
    dse := { s.dse with standing := { state := .active, order := o, summary := (s.planFor o).summary } } }
  let r1 : Report :=
    .orderResult o.src o.id 0x01 (if o.clamped then .clamped else .accepted) 0 (some (s.planFor o).summary)
  let r2 : Report := .orderResult s.dse.standing.order.src s.dse.standing.order.id 0x01 .superseded 0 none
  let answers (x : State) : State := if s.dse.standing.state = .none then x.reported r1 else (x.reported r1).reported r2
  have guarded (g : Timer) : (answers w).setDse { (answers w).dse with guardTmr := g } =
      answers (w.setDse { w.dse with guardTmr := g }) := by
    show State.setDse (if _ then _ else _) { State.dse (if _ then _ else _) with guardTmr := g } = if _ then _ else _
    split
    · rw [reported_dse, reported_setDse]
    · rw [reported_dse, reported_dse, reported_setDse, reported_setDse]
  have answered : s.orderAnswered o = answers (w.setDse { w.dse with
      guardTmr := if s.tbs.plant.guardTime = 0 then none else some s.tbs.plant.guardTime }) := rfl
  have written : pushReport r1 w = w.reported r1 := pushReport_eq_reported r1 w
  have both : (if s.dse.standing.state = .none then pushReport r1 w else pushReport r2 (pushReport r1 w)) = answers w := by
    rw [written, pushReport_eq_reported]
  have started : (if 0 < s.tbs.plant.guardTime then
      (answers w).setDse { (answers w).dse with guardTmr := some s.tbs.plant.guardTime } else answers w) =
        s.orderAnswered o := by
    rw [answered]
    by_cases zero : s.tbs.plant.guardTime = 0
    · rw [if_neg (by omega), if_pos zero]
      have same : w.setDse { w.dse with guardTmr := none } = w :=
        congrArg (fun g => w.setDse { w.dse with guardTmr := g }) (stopped.symm : none = s.dse.guardTmr)
      rw [same]
    · rw [if_pos (by omega), if_neg zero, guarded]
  rw [← started, ← both]
  rfl

end

/-- What the taking of an order leaves, from `s` to `t`. -/
structure OrderTaken (s t : State) (o : Order) : Prop where
  order   : t.dse.standing.order = o
  stands  : t.dse.standing.state = .active ∨ t.dse.standing.state = .settled
  alc     : t.alc = plan { s with dse := { s.dse with standing := t.dse.standing } }
  dse     : t.dse = { s.dse with
              standing := { t.dse.standing with summary := t.alc.summary }
              guardTmr := if s.tbs.plant.guardTime = 0 then none else some s.tbs.plant.guardTime }
  uib     : t.uib = s.uib
  timer   : t.rmp.timer = s.rmp.timer
  setting : LeavesSetting s t
  acted   : ResourcesAgree s → PlanActed s.alc.entries [] False (s.orderAnswered o) t
  queue   : ReportRoom 2 s → ∃ rs, t.rpb.queue = s.rpb.queue ++
              (.orderResult o.src o.id 0x01 (if o.clamped then .clamped else .accepted) 0 (some t.alc.summary) ::
                (if s.dse.standing.state = .none then []
                  else [.orderResult s.dse.standing.order.src s.dse.standing.order.id 0x01 .superseded 0 none])) ++ rs

theorem orderAnswered_frame (s : State) (o : Order) : SeqFrame (s.ordered o) (s.orderAnswered o) := by
  unfold State.orderAnswered
  dsimp only
  rw [← pushReport_eq_reported]
  split
  · exact pushReport_frame _ _
  · rw [← pushReport_eq_reported]
    exact (pushReport_frame _ _).trans (pushReport_frame _ _)

theorem orderAnswered_queue {s : State} (o : Order) (room : ReportRoom 2 s) : (s.orderAnswered o).rpb.queue =
    s.rpb.queue ++ (.orderResult o.src o.id 0x01 (if o.clamped then .clamped else .accepted) 0 (some (s.planFor o).summary) ::
      (if s.dse.standing.state = .none then []
        else [.orderResult s.dse.standing.order.src s.dse.standing.order.id 0x01 .superseded 0 none])) := by
  unfold ReportRoom at room
  unfold State.orderAnswered
  have first := reported_room (s.ordered o)
    (.orderResult o.src o.id 0x01 (if o.clamped then .clamped else .accepted) 0 (some (s.planFor o).summary))
    (by show s.rpb.queue.length < 16; omega)
  dsimp only
  split
  · exact first
  · rw [reported_room _ _ (by
      rw [first, List.length_append, List.length_singleton]
      show s.rpb.queue.length + 1 < 16
      omega), first, List.append_assoc]
    rfl

theorem ResourcesHeld.ordered {s : State} (h : ResourcesHeld s) (o : Order) : ResourcesHeld (s.orderAnswered o) := by
  have written : ResourcesHeld (s.ordered o) := h.congr rfl rfl fun _ => rfl
  unfold State.orderAnswered
  dsimp only
  split
  · exact written.reported _
  · exact (written.reported _).reported _

/-- The settling check moves a record that is ACTIVE to SETTLED at most (R82). -/
theorem closeSettling_standing {e : Ev} (active : e.s.dse.standing.state = .active) : ∃ st,
    (st = .active ∨ st = .settled) ∧ (closeSettling e).dse = { e.s.dse with standing := { e.s.dse.standing with state := st } } := by
  obtain ⟨passes, fails⟩ := closeSettling_settlesIf e
  by_cases k : e.settle = true ∧ e.s.dse.engine = .running ∧ e.s.dse.standing.state = .active ∧ PlanReached e.s
  · refine ⟨.settled, .inr rfl, ?_⟩
    rw [passes k, reported_dse]
  · refine ⟨.active, .inl rfl, ?_⟩
    rw [fails k, ← active]

theorem takeOrder_taken {s : State} (o : Order) (stopped : s.dse.guardTmr = none) : OrderTaken s (takeOrder o s) o := by
  rw [takeOrder_eq o stopped]
  let e : Ev := actAll s.alc.entries (.start (s.orderAnswered o))
  have frame : SeqFrame (s.ordered o) e.s := (orderAnswered_frame s o).trans (actAll_frame s.alc.entries (.start _))
  have written : LeavesSetting s (s.ordered o) := ⟨rfl, rfl, rfl, rfl, rfl, rfl, rfl, rfl, rfl⟩
  have closes : EventFrame e.s (closeSettling e) := closeSettling_frame e
  obtain ⟨st, state, dse⟩ := closeSettling_standing (e := e) (by rw [frame.dse]; rfl)
  rw [frame.dse] at dse
  have order : (closeSettling e).dse.standing.order = o := by rw [dse]; rfl
  have alc : (closeSettling e).alc = s.planFor o := (closeSettling_alc e).trans frame.alc
  refine ⟨order, by rw [dse]; exact state, alc.trans ?_, ?_, closes.uib.trans frame.uib, closes.timer.trans frame.timer,
    written.trans (frame.event.trans closes).leavesSetting, fun agree => ?_, fun room => ?_⟩
  · unfold State.planFor
    symm
    exact plan_order (s := { s with dse := { s.dse with standing := { s.dse.standing with state := .active, order := o } } })
      (d := { s.dse with standing := (closeSettling e).dse.standing }) rfl order
  · rw [alc, dse]
    rfl
  · exact actAll_planActed s.alc.entries (e := .start (s.orderAnswered o)) (agree.held.ordered o)
      (by simp [Ev.start])
  · obtain ⟨rs, acts⟩ := (actAll_frame s.alc.entries (.start (s.orderAnswered o))).queue
    obtain ⟨rs', settles⟩ := closes.queue
    refine ⟨rs ++ rs', ?_⟩
    rw [alc, settles, acts, show (Ev.start (s.orderAnswered o)).s = s.orderAnswered o from rfl, orderAnswered_queue o room,
      List.append_assoc]

-- The fields of an order (R71) ---------------------------------------------------------------------------------------------

/-- The order that a NET_POWER gives. -/
structure IsOrder (o : Order) (id : Half) (src : Byte) (v : Int) (cls : Byte) : Prop where
  id      : o.id = id
  src     : o.src = src
  target  : o.target = (if v < -30000 then -30000 else if 30000 < v then 30000 else v)
  clamped : o.clamped = true ↔ v < -30000 ∨ 30000 < v
  cls     : o.cls.val = (if cls.toNat ≤ 3 then cls.toNat else 0)

theorem ofFields_isOrder (id target : Half) (cls src : Byte) :
    IsOrder (Order.ofFields id target cls src) id src target.toInt cls := by
  refine ⟨rfl, rfl, rfl, ?_, ?_⟩
  · show (clampTarget target.toInt != target.toInt) = true ↔ _
    rw [bne_iff_ne]
    unfold clampTarget
    split
    · omega
    · split <;> omega
  · show (rateClass cls).val = _
    unfold rateClass
    by_cases low : cls.toNat < 4
    · rw [dif_pos low, if_pos (by omega)]
    · rw [dif_neg low, if_neg (by omega)]
      rfl

theorem deferOrder_eq (o : Order) (s : State) : deferOrder o s =
    let t : State := ({ s with dse := { s.dse with deferred := some o } } : State).reported
      (.orderResult o.src o.id 0x01 .deferred 0 none)
    match s.dse.deferred with
    | some d => t.reported (.orderResult d.src d.id 0x01 .superseded 0 none)
    | none => t := by
  unfold deferOrder
  rw [pushReport_eq_reported]
  cases s.dse.deferred with
  | none => rfl
  | some d => exact pushReport_eq_reported _ _

-- The statements ---------------------------------------------------------------------------------------------------------------

/-- Settles O37: the three cases of R71, R72 and R73 by the engine and the guard timer. -/
theorem netPowerDecided : Obligations.NetPowerDecided := by
  intro h id target cls pad s hd i v isOrder result
  let x : State := s.withLinkUp .up
  let o := Order.ofFields id target cls h.src
  have taken : exec i s = .next (takeNetPower h id target cls x) := arriveUp_toPart (takeNetPower h id target cls) hd.1 hd.2.1
  obtain ⟨hid, hsrc, htarget, hclamped, hcls⟩ := ofFields_isOrder id target cls h.src
  have fields : isOrder o := ⟨hid, hsrc, htarget, hclamped, hcls⟩
  refine ⟨fun out => ?_, fun runs guarded => ⟨o, fields, ?_⟩, fun runs stopped => ?_⟩
  · rw [taken, takeNetPower, if_pos (show x.dse.engine ≠ .running from out), pushReport_eq_reported]
    rfl
  · intro t
    rw [taken, takeNetPower, if_neg (not_not.mpr (show x.dse.engine = .running from runs)),
      if_pos (show x.dse.guardTmr.isSome = true from guarded), deferOrder_eq]
    rfl
  · have off : x.dse.guardTmr = none := stopped
    have event : exec i s = .next (takeOrder o x) := by
      rw [taken, takeNetPower, if_neg (not_not.mpr (show x.dse.engine = .running from runs)), if_neg (by rw [off]; decide)]
    have code : (if o.clamped = true then OrderCode.clamped else .accepted) =
        if v < -30000 ∨ 30000 < v then .clamped else .accepted := if_congr hclamped rfl rfl
    obtain ⟨order, stands, alc, dse, uib, timer, setting, acted, queue⟩ := takeOrder_taken o off
    refine ⟨takeOrder o x, event, by rw [order]; exact fields, stands, ?_, dse, uib, timer, setting, fun agree => ?_,
      fun room => ?_⟩
    · exact alc.trans (plan_congr rfl rfl rfl rfl rfl)
    · rw [order]
      have turns := acted (agree.withLinkUp .up)
      have planned : x.planFor o = ({ s with pending := s.pending } : State).planFor o := plan_congr rfl rfl rfl rfl rfl
      unfold State.orderAnswered State.ordered at turns
      rw [planned, code] at turns
      exact turns
    · obtain ⟨rs, reports⟩ := queue room
      refine ⟨rs, ?_⟩
      rw [code] at reports
      rw [order]
      exact reports

theorem guardExpiry_expires {s : State} (free : s.held = false) (runs : s.dse.guardTmr.isSome = true) :
    exec .guardExpiry s = .next (guardExpired s) := (event_free _ free).trans (congrArg _ (if_pos runs))

/-- Settles O38: an empty slot stops the timer; a deferred order is taken with the timer stopped and the slot emptied. -/
theorem guardExpiryTakesDeferred : Obligations.GuardExpiryTakesDeferred := by
  intro s free
  refine ⟨fun runs empty => ?_, fun runs o waits => ?_, fun stopped => ?_⟩
  · rw [guardExpiry_expires free runs, guardExpired, empty]
    rfl
  · let x : State := { s with dse := { s.dse with guardTmr := none, deferred := none } }
    have event : exec .guardExpiry s = .next (takeOrder o x) := by
      rw [guardExpiry_expires free runs, guardExpired, waits]
      rfl
    obtain ⟨order, stands, alc, dse, uib, timer, setting, acted, queue⟩ := takeOrder_taken (s := x) o rfl
    have before : LeavesSetting s x := ⟨rfl, rfl, rfl, rfl, rfl, rfl, rfl, rfl, rfl⟩
    refine ⟨takeOrder o x, event, order, stands, ?_, dse, uib, timer, before.trans setting, fun agree => ?_, queue⟩
    · exact alc.trans (plan_order (s := { s with dse := { s.dse with standing := (takeOrder o x).dse.standing } }) rfl rfl)
    · have turns := acted (agree.congr rfl rfl rfl rfl rfl)
      have planned : x.planFor o = s.planFor o := plan_order (s := { s with
        dse := { s.dse with standing := { s.dse.standing with state := .active, order := o } } }) rfl rfl
      unfold State.orderAnswered State.ordered at turns
      rw [planned] at turns
      exact turns
  · exact (event_free _ free).trans (congrArg _ (if_neg (by rw [stopped]; decide)))

end Sys2Proof.Machine
end

section
/-! A pass in which every sequencer acts on an entry that asks none of them to start: who keeps its record, who is handed a
lock on the way, and what a turn leaves to the end of the pass (R89, R117, R126 to R131, R159 to R162). -/

namespace Sys2Proof.Machine

-- What a turn leaves of another unit ------------------------------------------------------------------------------

theorem TurnFrame.keepsOther {a b : State} {u v : UnitNo} (t : TurnFrame a b u) (h : ResourcesHeld a) (hv : v ≠ u)
    (wait : (a.seq v).state.waitsForLock = false) :
    b.seq v = a.seq v ∧ b.ramp v = a.ramp v ∧ stageSlot v b = stageSlot v a := by
  obtain ⟨ramp, -, rest⟩ := t.others v hv
  obtain ⟨seq, slot⟩ := rest fun ⟨_, _, head⟩ => by
    have waits := (h.waiterState _ v (List.mem_of_mem_head? head)).2
    rw [wait] at waits
    cases waits
  exact ⟨seq, ramp, slot⟩

theorem Seq.grantedState_starting (q : Seq) : Starting q.grantedState := by
  unfold Seq.grantedState SeqState.grantedFrom Starting
  split
  · simp
  · split <;> simp

theorem Granted.state {a b : State} {v : UnitNo} (g : Granted a b v) (wait : (a.seq v).state.waitsForLock = true) :
    (b.seq v).state = (a.seq v).grantedState := by
  obtain ⟨pump, air, still⟩ := g
  unfold Seq.grantedState SeqState.grantedFrom
  obtain gen | pumps := (waitsForLock_iff _).mp wait
  · rw [if_neg (by rw [gen]; decide)]
    by_cases o : (a.seq v).origin = .air
    · rw [if_pos o, (air gen o).1]
    · rw [if_neg o, (still gen o).1]
  · rw [if_pos pumps, (pump pumps).1]

theorem Starting.notWaiting {n : SeqState} (h : Starting n) : n.waitsForLock = false := by
  rcases h with h | h | h | h | h | h | h <;> rw [h] <;> rfl

-- Entries that ask nobody to start (R79, R87) ---------------------------------------------------------------------------

/-- The sequencer stands where its entry asks, or is to come to a standstill. -/
def Calm (s : State) (u : UnitNo) : Prop :=
  let n := (s.seq u).state
  let m := (s.entry u).mode
  m = .still ∨ (n = .gOn ∧ m = .gen) ∨ (n = .gAir ∧ m = .genAir) ∨ (n = .pAir ∧ m = .pumpAir) ∨ (n = .pOn ∧ m = .pump)

theorem Calm.stillOf_waiting {s : State} {u : UnitNo} (h : Calm s u) (wait : (s.seq u).state.waitsForLock = true) :
    (s.entry u).mode = .still := by
  obtain h | ⟨n, -⟩ | ⟨n, -⟩ | ⟨n, -⟩ | ⟨n, -⟩ := h
  · exact h
  all_goals
    rw [n] at wait
    cases wait

theorem Calm.stillOf_unstable {s : State} {u : UnitNo} (h : Calm s u) (unstable : (s.seq u).state.stable = false) :
    (s.entry u).mode = .still := by
  obtain h | ⟨n, -⟩ | ⟨n, -⟩ | ⟨n, -⟩ | ⟨n, -⟩ := h
  · exact h
  all_goals
    rw [n] at unstable
    cases unstable

theorem Calm.asks {s : State} {u : UnitNo} (h : Calm s u) : (s.seq u).state.asks (s.entry u).mode = false := by
  obtain m | ⟨n, m⟩ | ⟨n, m⟩ | ⟨n, m⟩ | ⟨n, m⟩ := h
  · rw [m]
    cases (s.seq u).state <;> rfl
  all_goals rw [n, m]; rfl

/-- The turn of another sequencer leaves a calm one calm: a lock handed on finds STILL planned. -/
theorem Calm.afterTurn {a b : State} {u v : UnitNo} (c : Calm a v) (h : ResourcesHeld a) (t : TurnFrame a b u) (hv : v ≠ u) :
    Calm b v := by
  have entry : b.entry v = a.entry v := by
    rw [State.entry, t.rest]
    rfl
  by_cases wait : (a.seq v).state.waitsForLock = true
  · exact .inl (by rw [entry]; exact c.stillOf_waiting wait)
  · unfold Calm
    rw [entry, (t.keepsOther h hv (Bool.eq_false_iff.mpr wait)).1]
    exact c

/-- A sequencer that acts on STILL from STILL or from air stays or stops (R128, R131). -/
theorem ActedFrom.still_cases {s t : State} {u : UnitNo} {x : SeqState} {e : Entry} {i : Image} {m : Timer} {p : Bool}
    (h : ActedFrom s t u x e i m p) (mode : e.mode = .still) (hx : x = .still ∨ x = .gAir ∨ x = .pAir) :
    (t.seq u).state = x ∨ Stopped t u := by
  unfold ActedFrom at h
  rw [mode] at h
  by_cases lingers : 0 < (s.unit u).linger ∧ i.perm.air.val = true ∧ i.perm.lockout.val = false ∧ p = false ∧
      e.forcedOut = false
  · rcases hx with rfl | rfl | rfl
    · exact .inl h
    · exact .inl (h.1 lingers).1
    · exact .inl (h.1 lingers).1
  · rcases hx with rfl | rfl | rfl
    · exact .inl h
    · exact .inr (h.2 lingers)
    · exact .inr (h.2 lingers)

/-- The state that a lock wait returns to (R127, R133). -/
def Seq.back (q : Seq) : SeqState := if q.state = .pLockwait then .pAir else if q.origin = .air then .gAir else .still

theorem Seq.back_cases (q : Seq) : q.back = .still ∨ q.back = .gAir ∨ q.back = .pAir := by
  unfold Seq.back
  split
  · exact .inr (.inr rfl)
  · split
    · exact .inr (.inl rfl)
    · exact .inl rfl

theorem Seq.back_notWaiting (q : Seq) : q.back.waitsForLock = false := by
  obtain k | k | k := Seq.back_cases q <;> rw [k] <;> rfl

/-- A calm sequencer waits for no lock once it has acted. -/
theorem act_calm_notWaiting {u : UnitNo} {e : Ev} (h : ResourcesHeld e.s) (c : Calm e.s u) :
    ((act u e).s.seq u).state.waitsForLock = false := by
  by_cases stable : (e.s.seq u).state.stable = true
  · have eq : act u e = actStable u e := if_pos stable
    rw [eq]
    exact (actStable_stableAct u e).notWaiting h stable c.asks
  have unstable := Bool.eq_false_iff.mpr stable
  have still := c.stillOf_unstable unstable
  obtain ⟨-, -, returns, starting, idle⟩ := (act_turn h u).turn
  rw [still] at returns starting idle
  by_cases wait : (e.s.seq u).state.waitsForLock = true
  · obtain stays | stopped := (returns ((returns_still _).mpr wait)).1.still_cases still (Seq.back_cases (e.s.seq u))
    · exact (congrArg SeqState.waitsForLock stays).trans (Seq.back_notWaiting _)
    · rw [stopped.1.1]
      rfl
  by_cases moves : Starting (e.s.seq u).state
  · rw [(starting moves (not_goesOn_still _)).1.1.1]
    rfl
  · rw [idle unstable (fun k => wait ((returns_still _).mp k)) fun k => moves k.1]
    exact Bool.eq_false_iff.mpr wait

-- The pass (R117) ----------------------------------------------------------------------------------------------------------

/-- These sequencers act, one after another. -/
def pass (us : List UnitNo) (e : Ev) : Ev := us.foldl (fun e u => act u e) e

theorem actAll_pass (old : PerUnit Entry) {e : Ev} (due : ∀ u, u ∈ e.due) : actAll old e = pass UnitNo.all e := by
  unfold actAll pass
  induction UnitNo.all generalizing e with
  | nil => rfl
  | cons u us ih =>
    rw [List.foldl_cons, List.foldl_cons, actTurn_due (due u)]
    exact ih fun v => by rw [act_due]; exact due v

/-- What a pass leaves in any case. -/
structure PassFrame (e f : Ev) : Prop where
  held   : ResourcesHeld f.s
  frame  : SeqFrame e.s f.s
  queued : ∀ r, Queued r e.s → Queued r f.s

theorem pass_frame (us : List UnitNo) {e : Ev} (h : ResourcesHeld e.s) : PassFrame e (pass us e) := by
  induction us generalizing e with
  | nil => exact ⟨h, .refl _, fun _ k => k⟩
  | cons u us ih =>
    have turn := act_turn h u
    obtain ⟨held, frame, queued⟩ := ih turn.held
    exact ⟨held, (act_frame u e).trans frame, fun r k => queued r (turn.turn.queued k)⟩

section
variable {u : UnitNo} {us : List UnitNo} (out : u ∉ us) {e : Ev} (h : ResourcesHeld e.s)
include out h

/-- A pass of others leaves a sequencer that waits for no lock. -/
theorem pass_keepsOther (wait : (e.s.seq u).state.waitsForLock = false) :
    (pass us e).s.seq u = e.s.seq u ∧ (pass us e).s.ramp u = e.s.ramp u ∧ stageSlot u (pass us e).s = stageSlot u e.s := by
  induction us generalizing e with
  | nil => exact ⟨rfl, rfl, rfl⟩
  | cons v us ih =>
    obtain ⟨hv, out⟩ := not_or.mp (mt List.mem_cons.mpr out)
    have turn := act_turn h v
    obtain ⟨seq, ramp, slot⟩ := turn.turn.1.keepsOther h hv wait
    obtain ⟨seq', ramp', slot'⟩ := ih out turn.held (by rw [seq]; exact wait)
    exact ⟨seq'.trans seq, ramp'.trans ramp, slot'.trans slot⟩

/-- A pass of others leaves a waiting sequencer, or hands it its lock. -/
theorem pass_waiting (wait : (e.s.seq u).state.waitsForLock = true) : (pass us e).s.seq u = e.s.seq u ∨
    ((pass us e).s.seq u).state = (e.s.seq u).grantedState := by
  induction us generalizing e with
  | nil => exact .inl rfl
  | cons v us ih =>
    obtain ⟨hv, out⟩ := not_or.mp (mt List.mem_cons.mpr out)
    have turn := act_turn h v
    obtain ⟨-, handed, kept⟩ := turn.turn.1.others u hv
    by_cases k : (e.s.lockOf v).holder = some v ∧ ((act v e).s.seq v).state = .stopping ∧
        (e.s.lockOf v).waiters.head? = some u
    · have state := (handed k).state wait
      have off : ((act v e).s.seq u).state.waitsForLock = false := by
        rw [state]
        exact (Seq.grantedState_starting _).notWaiting
      refine .inr ?_
      rw [show pass (v :: us) e = pass us (act v e) from rfl, (pass_keepsOther out turn.held off).1, state]
    · have seq := (kept k).1
      have rest := ih out turn.held (by rw [seq]; exact wait)
      rw [seq] at rest
      exact rest

theorem pass_calm (c : Calm e.s u) : Calm (pass us e).s u := by
  induction us generalizing e with
  | nil => exact c
  | cons v us ih =>
    obtain ⟨hv, out⟩ := not_or.mp (mt List.mem_cons.mpr out)
    have turn := act_turn h v
    exact ih out turn.held (c.afterTurn h turn.turn.1 hv)

end

-- A lock through the pass (R159 to R162) -------------------------------------------------------------------------------------

section
variable {a b : State} {v : UnitNo} (h : ResourcesHeld a) (t : TurnFrame a b v)
include t

/-- A lock that another unit holds stays with it through a turn. -/
theorem TurnFrame.lockHolder {w : Waterway} {x : UnitNo} (holder : (a.pra.locks.get w).holder = some x) (hv : v ≠ x) :
    (b.pra.locks.get w).holder = some x := by
  by_cases own : w = (a.unit v).waterway
  · subst own
    obtain ⟨-, -, others, -⟩ := t.lock
    obtain ⟨same | ⟨free, -⟩, -⟩ := others (by rw [holder]; exact fun k => hv (Option.some.inj k).symm)
    · exact same.trans holder
    · rw [holder] at free
      cases free
  · rw [t.otherLock w own, holder]

include h in
/-- Who acts and waits no longer has left the waiter list of a lock that another unit holds. -/
theorem TurnFrame.lockWaiters {w : Waterway} {x : UnitNo} (holder : (a.pra.locks.get w).holder = some x) (hv : v ≠ x)
    (off : (b.seq v).state.waitsForLock = false) :
    (b.pra.locks.get w).waiters = (a.pra.locks.get w).waiters.filter fun y => y != v := by
  by_cases own : w = (a.unit v).waterway
  · subst own
    obtain ⟨-, -, others, gone⟩ := t.lock
    rw [← (others (by rw [holder]; exact fun k => hv (Option.some.inj k).symm)).2]
    symm
    rw [List.filter_eq_self]
    intro y hy
    rw [bne_iff_ne]
    rintro rfl
    exact gone off hy
  · rw [t.otherLock w own]
    symm
    rw [List.filter_eq_self]
    intro y hy
    rw [bne_iff_ne]
    rintro rfl
    exact own (h.waiterState w y hy).1.symm

end

section
variable {us : List UnitNo} {x : UnitNo} {w : Waterway} (out : x ∉ us) {e : Ev} (h : ResourcesHeld e.s)
  (holder : (e.s.pra.locks.get w).holder = some x)
include out h holder

theorem pass_lockHolder : ((pass us e).s.pra.locks.get w).holder = some x := by
  induction us generalizing e with
  | nil => exact holder
  | cons v us ih =>
    obtain ⟨hv, out⟩ := not_or.mp (mt List.mem_cons.mpr out)
    have turn := act_turn h v
    exact ih out turn.held (turn.turn.1.lockHolder holder fun k => hv k.symm)

/-- Who has acted in a pass without the holder has left the lock's waiter list. -/
theorem pass_lockWaiters (distinct : us.Nodup) (calm : ∀ v ∈ us, Calm e.s v) :
    ((pass us e).s.pra.locks.get w).waiters = (e.s.pra.locks.get w).waiters.filter fun y => decide (y ∉ us) := by
  induction us generalizing e with
  | nil =>
    symm
    exact List.filter_eq_self.mpr fun y _ => by simp
  | cons v us ih =>
    obtain ⟨hv, out⟩ := not_or.mp (mt List.mem_cons.mpr out)
    obtain ⟨fresh, distinct⟩ := List.nodup_cons.mp distinct
    have turn := act_turn h v
    have apart : v ≠ x := fun k => hv k.symm
    have rest := ih out turn.held (turn.turn.1.lockHolder holder apart) distinct fun y hy =>
      (calm y (List.mem_cons_of_mem _ hy)).afterTurn h turn.turn.1 fun k => fresh (k ▸ hy)
    rw [turn.turn.1.lockWaiters h holder apart (act_calm_notWaiting h (calm v List.mem_cons_self)), List.filter_filter] at rest
    refine rest.trans (List.filter_congr fun y _ => ?_)
    rw [Bool.eq_iff_iff]
    simp [and_comm]

/-- A sequencer whose lock is held by a unit that does not act in the pass keeps waiting. -/
theorem pass_keepsWaiting {u : UnitNo} (hu : u ∉ us) (own : (e.s.unit u).waterway = w) :
    (pass us e).s.seq u = e.s.seq u := by
  induction us generalizing e with
  | nil => rfl
  | cons v us ih =>
    obtain ⟨hx, out⟩ := not_or.mp (mt List.mem_cons.mpr out)
    obtain ⟨hv, hu⟩ := not_or.mp (mt List.mem_cons.mpr hu)
    have turn := act_turn h v
    have frame := turn.turn.1
    have seq : (act v e).s.seq u = e.s.seq u := frame.other hv fun hold _ head => by
      obtain ⟨same, -⟩ := h.waiterState _ u (List.mem_of_mem_head? head)
      have lock : e.s.lockOf v = e.s.pra.locks.get w := by rw [State.lockOf, ← same, own]
      rw [lock, holder] at hold
      exact absurd (Option.some.inj hold) hx
    exact (ih out turn.held (frame.lockHolder holder fun k => hx k.symm) hu (by rw [(act_frame v e).unit_eq]; exact own)).trans
      seq

end

/-- A sequencer that is in no waiter list is handed no lock. -/
theorem pass_keepsUnlisted {us : List UnitNo} {u : UnitNo} (hu : u ∉ us) {e : Ev} (h : ResourcesHeld e.s)
    (unlisted : ∀ w, u ∉ (e.s.pra.locks.get w).waiters) : (pass us e).s.seq u = e.s.seq u := by
  induction us generalizing e with
  | nil => rfl
  | cons v us ih =>
    obtain ⟨hv, hu⟩ := not_or.mp (mt List.mem_cons.mpr hu)
    have turn := act_turn h v
    have frame := turn.turn.1
    have seq : (act v e).s.seq u = e.s.seq u := frame.other hv fun _ _ head =>
      unlisted _ (List.mem_of_mem_head? head)
    refine (ih hu turn.held fun w hw => ?_).trans seq
    by_cases own : w = (e.s.unit v).waterway
    · subst own
      exact unlisted _ (frame.waiter_of hv hw)
    · rw [frame.otherLock w own] at hw
      exact unlisted _ hw

end Sys2Proof.Machine
end

section
/-! ABORT: every sequencer acts on its frozen entry, in ascending unit number (R79, R87, R117, R126 to R131, R160, R162). -/

namespace Sys2Proof.Machine

-- The units by number ------------------------------------------------------------------------------------------------------

/-- The units of a lower number, in ascending order. -/
def unitsBelow (u : UnitNo) : List UnitNo := UnitNo.all.filter fun v => decide (v.number < u.number)

/-- The units of a higher number, in ascending order. -/
def unitsAbove (u : UnitNo) : List UnitNo := UnitNo.all.filter fun v => decide (u.number < v.number)

theorem unitsAll_split (u : UnitNo) : UnitNo.all = unitsBelow u ++ u :: unitsAbove u := by cases u <;> decide

theorem mem_unitsBelow {u v : UnitNo} : v ∈ unitsBelow u ↔ v.number < u.number := by
  simp [unitsBelow, UnitNo.mem_all]

theorem mem_unitsAbove {u v : UnitNo} : v ∈ unitsAbove u ↔ u.number < v.number := by
  simp [unitsAbove, UnitNo.mem_all]

theorem not_mem_unitsBelow (u : UnitNo) : u ∉ unitsBelow u := fun k => Nat.lt_irrefl _ (mem_unitsBelow.mp k)

theorem not_mem_unitsAbove (u : UnitNo) : u ∉ unitsAbove u := fun k => Nat.lt_irrefl _ (mem_unitsAbove.mp k)

theorem unitNumber_injective {u v : UnitNo} (h : u.number = v.number) : u = v := by
  revert h
  cases u <;> cases v <;> decide

theorem unitsBelow_split {h u : UnitNo} (lower : h.number < u.number) :
    unitsBelow u = unitsBelow h ++ h :: (unitsBelow u).filter fun v => decide (h.number < v.number) := by
  revert lower
  cases h <;> cases u <;> decide

theorem unitsBelow_nodup (u : UnitNo) : (unitsBelow u).Nodup := (by decide : UnitNo.all.Nodup).filter _

-- Acts that do nothing, and the end of lingering ---------------------------------------------------------------------------------

theorem act_pumping {u : UnitNo} {e : Ev} (hn : (e.s.seq u).state = .pOn) (hm : (e.s.entry u).mode = .pump) :
    act u e = e := by
  have acts : act u e = actStable u e := if_pos (by rw [Ev.state, hn]; rfl)
  rw [acts]
  unfold actStable Ev.state
  rw [hn, hm]

/-- A sequencer in air that is to stay there lingers no longer (R130). -/
theorem act_staysInAir {u : UnitNo} {e : Ev} (h : (e.s.seq u).state = .gAir ∧ (e.s.entry u).mode = .genAir ∨
    (e.s.seq u).state = .pAir ∧ (e.s.entry u).mode = .pumpAir) :
    (act u e).s.seq u = { e.s.seq u with linger := none } := by
  have acts : act u e = stopLinger u e := by
    have stable : act u e = actStable u e := if_pos (by
      obtain ⟨hn, -⟩ | ⟨hn, -⟩ := h <;> rw [Ev.state, hn] <;> rfl)
    rw [stable]
    unfold actStable Ev.state
    obtain ⟨hn, hm⟩ | ⟨hn, hm⟩ := h <;> rw [hn, hm]
  rw [acts]
  exact State.setSeq_seq_self _ _ _

theorem pass_split {us before after : List UnitNo} {x : UnitNo} (split : us = before ++ x :: after) (e : Ev) :
    pass us e = pass after (act x (pass before e)) := by
  subst split
  exact List.foldl_append

-- A unit's turn in the pass ---------------------------------------------------------------------------------------------------------

/-- The event once the units of lower numbers have acted. -/
def Ev.before (e : Ev) (u : UnitNo) : Ev := pass (unitsBelow u) e

/-- What a unit's turn has left to the end of the pass. -/
structure TurnEnds (f : Ev) (u : UnitNo) (t : State) : Prop where
  seq    : t.seq u = (act u f).s.seq u
  ramp   : t.ramp u = (act u f).s.ramp u
  slot   : stageSlot u t = stageSlot u (act u f).s
  held   : ResourcesHeld t
  frame  : SeqFrame (act u f).s t
  queued : ∀ r, Queued r (act u f).s → Queued r t

theorem pass_ends {e : Ev} (h : ResourcesHeld e.s) (u : UnitNo) (calm : Calm e.s u) :
    TurnEnds (e.before u) u (pass UnitNo.all e).s := by
  have first := pass_frame (unitsBelow u) h
  have turn := act_turn first.held u
  have whole : pass UnitNo.all e = pass (unitsAbove u) (act u (e.before u)) := pass_split (unitsAll_split u) e
  have off := act_calm_notWaiting first.held (pass_calm (not_mem_unitsBelow u) h calm)
  obtain ⟨seq, ramp, slot⟩ := pass_keepsOther (not_mem_unitsAbove u) turn.held off
  obtain ⟨held, frame, queued⟩ := pass_frame (unitsAbove u) turn.held
  rw [whole]
  exact ⟨seq, ramp, slot, held, frame, queued⟩

section
variable {f : Ev} {u : UnitNo} {t : State} (k : TurnEnds f u t)
include k

theorem TurnEnds.stopped (h : Stopped (act u f).s u) : Stopped t u := by
  obtain ⟨⟨state, timer, prior, command⟩, minRun, linger, -⟩ := h
  refine ⟨⟨?_, ?_, ?_, ?_⟩, ?_, ?_, k.held.gaveUp ?_⟩
  · rw [k.seq, state]
  · rw [k.seq, timer, k.frame.profileOf_eq]
  · rw [k.seq, prior, k.frame.image_eq]
  · rw [k.frame.unit_eq]
    exact mem_cmds_of_slotOf (w := { slot := .stage u, dest := _, cmd := .stop }) k.slot command
  · rw [k.seq, minRun]
  · rw [k.seq, linger]
  · rw [k.seq, state]
    rfl

/-- What acting on STILL comes to from STILL or from air is read off the end as off the turn. -/
theorem TurnEnds.actedStill {s a : State} {x : SeqState} {e : Entry} {i : Image} {m : Timer} {p : Bool}
    (h : ActedFrom a (act u f).s u x e i m p) (tbs : a.tbs = s.tbs) (mode : e.mode = .still)
    (hx : x = .still ∨ x = .gAir ∨ x = .pAir) : ActedFrom s t u x e i m p := by
  have unit : a.unit u = s.unit u := by rw [State.unit, tbs, State.unit]
  have air (l : Prop) (v : Nat)
      (acted : (l → ((act u f).s.seq u).state = x ∧ ((act u f).s.seq u).linger = some v) ∧ (¬l → Stopped (act u f).s u)) :
      (l → (t.seq u).state = x ∧ (t.seq u).linger = some v) ∧ (¬l → Stopped t u) := by
    rw [k.seq]
    exact ⟨acted.1, fun j => k.stopped (acted.2 j)⟩
  unfold ActedFrom at h ⊢
  rw [mode] at h ⊢
  rw [unit] at h
  rcases hx with rfl | rfl | rfl
  · exact (congrArg Seq.state k.seq).trans h
  · exact air _ _ h
  · exact air _ _ h

theorem TurnEnds.report {r : Report} (h : Reports [r] f.s (act u f).s) : Queued r t :=
  k.queued r ((queued_reported r f.s).of_rpb (by rw [h]; rfl) (by rw [h]; rfl))

end

-- The lock handed on by a holder that acts first (R159 to R162) ----------------------------------------------------------------------

section
variable {e : Ev} (h : ResourcesHeld e.s) {u : UnitNo} (wait : (e.s.seq u).state.waitsForLock = true)
include h wait

omit wait in
/-- Where no unit of a lower number holds the lock, a waiting sequencer comes to its turn as it was. -/
theorem before_keepsWaiting (later : ∀ x, (e.s.lockOf u).holder = some x → u.number < x.number) :
    (e.before u).s.seq u = e.s.seq u := by
  cases holder : (e.s.lockOf u).holder with
  | none =>
    refine pass_keepsUnlisted (not_mem_unitsBelow u) h fun w hw => ?_
    obtain ⟨own, -⟩ := h.waiterState w u hw
    have empty := h.lockTaken w (by rw [← own]; exact holder)
    rw [empty] at hw
    cases hw
  | some x =>
    have higher := later x holder
    refine pass_keepsWaiting (w := (e.s.unit u).waterway) (x := x) ?_ h holder (not_mem_unitsBelow u) rfl
    rw [mem_unitsBelow]
    omega

/-- The first of the waiters that have not acted is handed the lock when its holder stops. -/
theorem before_granted (calm : ∀ v, Calm e.s v) {x : UnitNo} (holder : (e.s.lockOf u).holder = some x)
    (lower : x.number < u.number)
    (first : ((e.s.lockOf u).waiters.filter fun v => decide (x.number < v.number)).head? = some u) :
    ((e.before u).s.seq u).state = (e.s.seq u).grantedState := by
  have atHolder := pass_frame (unitsBelow x) h
  let g : Ev := pass (unitsBelow x) e
  have own : (e.s.pra.locks.get (e.s.unit u).waterway).holder = some x := holder
  obtain ⟨way, holds⟩ := h.lockState _ x own
  have kept : g.s.seq x = e.s.seq x := (pass_keepsOther (not_mem_unitsBelow x) h (by
    revert holds
    cases (e.s.seq x).state <;> decide)).1
  have starting : Starting (g.s.seq x).state := by
    rw [kept]
    revert holds
    cases (e.s.seq x).state <;> simp [SeqState.holdsLock, Starting]
  have mode : (g.s.entry x).mode = .still := by
    refine (pass_calm (not_mem_unitsBelow x) h (calm x)).stillOf_unstable ?_
    rw [kept]
    revert holds
    cases (e.s.seq x).state <;> decide
  have turn := act_turn atHolder.held x
  have stops : ((act x g).s.seq x).state = .stopping := by
    obtain ⟨-, -, -, abandons, -⟩ := turn.turn
    exact (abandons starting (by rw [mode]; exact not_goesOn_still _)).1.1.1
  have lock : g.s.lockOf x = g.s.pra.locks.get (e.s.unit u).waterway := by rw [State.lockOf, atHolder.frame.unit_eq, way]
  have holder' : (g.s.lockOf x).holder = some x := by
    rw [lock]
    exact pass_lockHolder (not_mem_unitsBelow x) h own
  have waiters : (g.s.lockOf x).waiters = (e.s.lockOf u).waiters.filter fun v => decide (x.number < v.number) := by
    rw [lock, pass_lockWaiters (not_mem_unitsBelow x) h own (unitsBelow_nodup x) fun v _ => calm v]
    refine List.filter_congr fun y hy => ?_
    have other : y ≠ x := by
      rintro rfl
      have waits := (h.waiterState _ y hy).2
      revert holds waits
      cases (e.s.seq y).state <;> decide
    have distinct : y.number ≠ x.number := fun k => other (unitNumber_injective k)
    rw [decide_eq_decide, mem_unitsBelow]
    omega
  have apart : u ≠ x := by
    rintro rfl
    omega
  have seq : g.s.seq u = e.s.seq u := pass_keepsWaiting (x := x) (not_mem_unitsBelow x) h own
    (by rw [mem_unitsBelow]; omega) rfl
  obtain ⟨-, handed, -⟩ := turn.turn.1.others u apart
  have state : ((act x g).s.seq u).state = (e.s.seq u).grantedState := by
    rw [← seq]
    exact (handed ⟨holder', stops, by rw [← first, ← waiters]; rfl⟩).state (by rw [seq]; exact wait)
  have rest : e.before u = pass ((unitsBelow u).filter fun v => decide (x.number < v.number)) (act x g) :=
    pass_split (unitsBelow_split lower) e
  rw [rest, (pass_keepsOther (fun k => (not_mem_unitsBelow u) (List.mem_filter.mp k).1) turn.held (by
    rw [state]
    exact (Seq.grantedState_starting _).notWaiting)).1, state]

end

end Sys2Proof.Machine
end

section
/-! ABORT, the statement's first half: the refusal, the answer in HALTED, and the halting of a running engine (R79, R87,
R117, R126 to R131, R160, R162, R167). -/

namespace Sys2Proof.Machine

-- The plan frozen (R79, R87) -------------------------------------------------------------------------------------------------

/-- The state with the plan frozen, the Dispatch Engine's record and the Report Block given. -/
def State.halted (s : State) (d : Dse) (q : Rpb) : State :=
  { s with alc := { s.alc with entries := .ofFn (heldEntry s) }, dse := d, rpb := q }

/-- The event of an ABORT in RUNNING: every sequencer is owed an action. -/
def Ev.halts (s : State) (d : Dse) (q : Rpb) : Ev := { Ev.start (s.halted d q) with due := UnitNo.all }

/-- A unit in G_ON or P_ON whose band allows its direction. -/
def HeldOn (s : State) (u : UnitNo) : Prop :=
  ((s.seq u).state = .gOn ∧ (s.turbineBand u).isSome = true) ∨ ((s.seq u).state = .pOn ∧ (s.pumpBand u).isSome = true)

section
variable (s : State) (d : Dse) (q : Rpb) (u : UnitNo)

theorem halted_entry : (s.halted d q).entry u = heldEntry s u := PerUnit.get_ofFn _ _

theorem heldEntry_cases : (HeldOn s u ∧ ((s.seq u).state = .gOn ∧ (heldEntry s u).mode = .gen ∨
      (s.seq u).state = .pOn ∧ (heldEntry s u).mode = .pump)) ∨
    ((s.seq u).state = .gAir ∧ (heldEntry s u).mode = .genAir) ∨ ((s.seq u).state = .pAir ∧ (heldEntry s u).mode = .pumpAir) ∨
    (¬HeldOn s u ∧ (heldEntry s u).mode = .still ∧
      ((s.seq u).state = .gOn ∨ (s.seq u).state = .pOn → (heldEntry s u).forcedOut = true)) := by
  unfold heldEntry HeldOn
  cases (s.seq u).state with
  | gOn => by_cases band : (s.turbineBand u).isSome = true <;> simp [band]
  | pOn => by_cases band : (s.pumpBand u).isSome = true <;> simp [band]
  | _ => simp

theorem halted_calm : Calm (s.halted d q) u := by
  unfold Calm
  rw [halted_entry]
  obtain ⟨-, k | k⟩ | k | k | ⟨-, k, -⟩ := heldEntry_cases s u
  · exact .inr (.inl k)
  · exact .inr (.inr (.inr (.inr k)))
  · exact .inr (.inr (.inl k))
  · exact .inr (.inr (.inr (.inl k)))
  · exact .inl k

end

/-- Outside G_ON, P_ON and air the frozen entry is STILL. -/
theorem heldEntry_still {s : State} {u : UnitNo} (out : ¬Running (s.seq u).state) : (heldEntry s u).mode = .still := by
  unfold Running at out
  obtain ⟨-, ⟨n, -⟩ | ⟨n, -⟩⟩ | ⟨n, -⟩ | ⟨n, -⟩ | ⟨-, m, -⟩ := heldEntry_cases s u
  · exact absurd (.inl n) out
  · exact absurd (.inr (.inr (.inr n))) out
  · exact absurd (.inr (.inl n)) out
  · exact absurd (.inr (.inr (.inl n))) out
  · exact m

-- Each sequencer's turn on its frozen entry ------------------------------------------------------------------------------------

/-- A start abandoned through STOPPING, from the state `n` (R126). -/
def Abandons (s t : State) (u : UnitNo) (n : SeqState) : Prop :=
  Stopped t u ∧ Queued (.unitState u n .stopping .abandoned (s.image u).stage (s.image u).fault) t

/-- A lock wait returned to its origin, where the sequencer acts (R127). -/
def ReturnsBack (s t : State) (u : UnitNo) : Prop :=
  ActedFrom s t u (s.seq u).back (t.entry u) (s.image u) (s.seq u).minStill (s.seq u).pendLockout ∧
    Queued (.unitState u (s.seq u).state (s.seq u).back .returned (s.image u).stage (s.image u).fault) t

section
variable {s : State} (held : ResourcesHeld s) (d : Dse) (q : Rpb) (u : UnitNo)
include held

theorem halted_held : ResourcesHeld (s.halted d q) := held.congr rfl rfl fun _ => rfl

theorem halts_ends : TurnEnds ((Ev.halts s d q).before u) u (pass UnitNo.all (Ev.halts s d q)).s :=
  pass_ends (e := .halts s d q) (halted_held held d q) u (halted_calm s d q u)

theorem halts_before : PassFrame (Ev.halts s d q) ((Ev.halts s d q).before u) :=
  pass_frame (unitsBelow u) (e := .halts s d q) (halted_held held d q)

theorem halts_entry : ((Ev.halts s d q).before u).s.entry u = heldEntry s u :=
  ((halts_before held d q u).frame.entry_eq u).trans (halted_entry s d q u)

/-- A sequencer that waits for no lock comes to its turn as it was. -/
theorem halts_same (wait : (s.seq u).state.waitsForLock = false) :
    ((Ev.halts s d q).before u).s.seq u = s.seq u ∧ ((Ev.halts s d q).before u).s.ramp u = s.ramp u := by
  obtain ⟨seq, ramp, -⟩ := pass_keepsOther (not_mem_unitsBelow u) (e := .halts s d q) (halted_held held d q) wait
  exact ⟨seq, ramp⟩

/-- Who does nothing in its turn keeps its record and its setpoint. -/
theorem halts_idle (wait : (s.seq u).state.waitsForLock = false)
    (idle : act u ((Ev.halts s d q).before u) = (Ev.halts s d q).before u) :
    (pass UnitNo.all (Ev.halts s d q)).s.seq u = s.seq u ∧ (pass UnitNo.all (Ev.halts s d q)).s.ramp u = s.ramp u := by
  have ends := halts_ends held d q u
  obtain ⟨seq, ramp⟩ := halts_same held d q u wait
  rw [ends.seq, ends.ramp, idle]
  exact ⟨seq, ramp⟩

theorem halts_stays (on : HeldOn s u) :
    (pass UnitNo.all (Ev.halts s d q)).s.seq u = s.seq u ∧ (pass UnitNo.all (Ev.halts s d q)).s.ramp u = s.ramp u := by
  have entry := halts_entry held d q u
  have wait : (s.seq u).state.waitsForLock = false := by obtain ⟨k, -⟩ | ⟨k, -⟩ := on <;> rw [k] <;> rfl
  have seq := (halts_same held d q u wait).1
  refine halts_idle held d q u wait ?_
  obtain ⟨-, ⟨n, m⟩ | ⟨n, m⟩⟩ | ⟨n, -⟩ | ⟨n, -⟩ | ⟨off, -⟩ := heldEntry_cases s u
  · exact act_generating (by rw [seq, n]) (by rw [entry, m])
  · exact act_pumping (by rw [seq, n]) (by rw [entry, m])
  · obtain ⟨k, -⟩ | ⟨k, -⟩ := on <;> rw [k] at n <;> cases n
  · obtain ⟨k, -⟩ | ⟨k, -⟩ := on <;> rw [k] at n <;> cases n
  · exact absurd on off

theorem halts_rests (out : ¬Running (s.seq u).state) (starts : ¬Starting (s.seq u).state)
    (wait : (s.seq u).state.waitsForLock = false) :
    (pass UnitNo.all (Ev.halts s d q)).s.seq u = s.seq u ∧ (pass UnitNo.all (Ev.halts s d q)).s.ramp u = s.ramp u := by
  have seq := (halts_same held d q u wait).1
  refine halts_idle held d q u wait (act_still ?_ ?_ ?_ ?_)
  · rw [halts_entry held d q u, heldEntry_still out]
  · rw [seq]
    exact out
  · rw [seq]
    exact starts
  · rw [seq]
    exact wait

theorem halts_air (air : (s.seq u).state = .gAir ∨ (s.seq u).state = .pAir) :
    (pass UnitNo.all (Ev.halts s d q)).s.seq u = { s.seq u with linger := none } := by
  have entry := halts_entry held d q u
  have wait : (s.seq u).state.waitsForLock = false := by obtain k | k := air <;> rw [k] <;> rfl
  have seq := (halts_same held d q u wait).1
  rw [(halts_ends held d q u).seq, act_staysInAir ?_, seq]
  rw [seq, entry]
  obtain k | k := air
  · exact .inl ⟨k, by unfold heldEntry; rw [k]⟩
  · exact .inr ⟨k, by unfold heldEntry; rw [k]⟩

theorem halts_forcedOut (on : (s.seq u).state = .gOn ∨ (s.seq u).state = .pOn) (out : ¬HeldOn s u) :
    Stopped (pass UnitNo.all (Ev.halts s d q)).s u := by
  have ends := halts_ends held d q u
  have entry := halts_entry held d q u
  have wait : (s.seq u).state.waitsForLock = false := by obtain k | k := on <;> rw [k] <;> rfl
  have seq := (halts_same held d q u wait).1
  have still : (heldEntry s u).mode = .still ∧ (heldEntry s u).forcedOut = true := by
    obtain ⟨k, -⟩ | ⟨n, -⟩ | ⟨n, -⟩ | ⟨-, m, marked⟩ := heldEntry_cases s u
    · exact absurd k out
    · obtain k | k := on <;> rw [k] at n <;> cases n
    · obtain k | k := on <;> rw [k] at n <;> cases n
    · exact ⟨m, marked on⟩
  have forced := act_forced (u := u) (halts_before held d q u).held (by rw [entry]; exact still.1)
    (by rw [entry]; exact still.2)
  refine ends.stopped (forced.running ?_)
  rw [seq]
  exact on.imp id fun k => .inr (.inr k)

/-- A start that comes to its turn is abandoned. -/
theorem halts_abandons {n : SeqState} (state : (((Ev.halts s d q).before u).s.seq u).state = n) (starts : Starting n)
    (still : (heldEntry s u).mode = .still) : Abandons s (pass UnitNo.all (Ev.halts s d q)).s u n := by
  have ends := halts_ends held d q u
  have before := halts_before held d q u
  obtain ⟨-, -, -, abandons, -⟩ := (act_turn before.held u).turn
  rw [state, halts_entry held d q u, still, before.frame.image_eq u] at abandons
  obtain ⟨stopped, report⟩ := abandons starts (not_goesOn_still _)
  exact ⟨ends.stopped stopped, ends.report report⟩

/-- A wait that comes to its turn returns to its origin. -/
theorem halts_returns (wait : (s.seq u).state.waitsForLock = true)
    (seq : ((Ev.halts s d q).before u).s.seq u = s.seq u) : ReturnsBack s (pass UnitNo.all (Ev.halts s d q)).s u := by
  have ends := halts_ends held d q u
  have before := halts_before held d q u
  have entry := halts_entry held d q u
  have still : (heldEntry s u).mode = .still := heldEntry_still (by
    obtain k | k := (waitsForLock_iff _).mp wait <;> rw [k] <;> simp [Running])
  have final : (pass UnitNo.all (Ev.halts s d q)).s.entry u = heldEntry s u :=
    (ends.frame.entry_eq u).trans (((act_frame u _).entry_eq u).trans entry)
  obtain ⟨-, -, returns, -, -⟩ := (act_turn before.held u).turn
  rw [seq, entry, still, before.frame.image_eq u] at returns
  obtain ⟨acted, report⟩ := returns ((returns_still _).mpr wait)
  refine ⟨?_, ends.report report⟩
  rw [final]
  exact ends.actedStill acted before.frame.tbs still (Seq.back_cases _)

end

/-- What each sequencer has come to, read off the state before. -/
structure AbortActed (s t : State) (u : UnitNo) : Prop where
  stays    : (s.seq u).state = .still ∨ HeldOn s u ∨ (s.seq u).state = .gUnload ∨ (s.seq u).state = .pUnload ∨
               (s.seq u).state = .stopping ∨ (s.seq u).state = .dormant ∨ (s.seq u).state = .unsettled ∨
               (s.seq u).state = .localCmd ∨ (s.seq u).state = .tripped → t.seq u = s.seq u ∧ t.ramp u = s.ramp u
  air      : (s.seq u).state = .gAir ∨ (s.seq u).state = .pAir → t.seq u = { s.seq u with linger := none }
  out      : (s.seq u).state = .gOn ∨ (s.seq u).state = .pOn → ¬HeldOn s u → Stopped t u
  starting : Starting (s.seq u).state → Abandons s t u (s.seq u).state
  waiting  : (s.seq u).state = .gLockwait ∨ (s.seq u).state = .pLockwait →
               (ReturnsBack s t u ∨ Abandons s t u (s.seq u).grantedState) ∧
               ((∀ x, (s.lockOf u).holder = some x → u.number < x.number) → ReturnsBack s t u) ∧
               ∀ x, (s.lockOf u).holder = some x → x.number < u.number →
                 ((s.lockOf u).waiters.filter fun v => decide (x.number < v.number)).head? = some u →
                 Abandons s t u (s.seq u).grantedState

theorem halts_acted {s : State} (held : ResourcesHeld s) (d : Dse) (q : Rpb) (u : UnitNo) :
    AbortActed s (pass UnitNo.all (Ev.halts s d q)).s u := by
  have heldAt := halted_held held d q
  refine ⟨fun k => ?_, halts_air held d q u, halts_forcedOut held d q u, fun k => ?_, fun k => ?_⟩
  · have rests (out : ¬Running (s.seq u).state) (starts : ¬Starting (s.seq u).state)
        (wait : (s.seq u).state.waitsForLock = false) := halts_rests held d q u out starts wait
    have apart {n : SeqState} (hn : (s.seq u).state = n) (h : ¬Running n ∧ ¬Starting n ∧ n.waitsForLock = false) :=
      rests (hn ▸ h.1) (hn ▸ h.2.1) (hn ▸ h.2.2)
    obtain k | k | k | k | k | k | k | k | k := k
    · exact apart k (by simp [Running, Starting, SeqState.waitsForLock])
    · exact halts_stays held d q u k
    all_goals exact apart k (by simp [Running, Starting, SeqState.waitsForLock])
  · refine halts_abandons held d q u (congrArg Seq.state (halts_same held d q u k.notWaiting).1) k (heldEntry_still ?_)
    rcases k with k | k | k | k | k | k | k <;> rw [k] <;> simp [Running]
  · have wait := (waitsForLock_iff _).mpr k
    have still : (heldEntry s u).mode = .still := heldEntry_still (by
      obtain k | k := k <;> rw [k] <;> simp [Running])
    have abandons (state : (((Ev.halts s d q).before u).s.seq u).state = (s.seq u).grantedState) :=
      halts_abandons held d q u state (Seq.grantedState_starting _) still
    refine ⟨?_, fun later => ?_, fun x holder lower first => ?_⟩
    · exact (pass_waiting (not_mem_unitsBelow u) (e := .halts s d q) heldAt wait).imp (halts_returns held d q u wait) abandons
    · exact halts_returns held d q u wait (before_keepsWaiting (e := .halts s d q) heldAt later)
    · exact abandons (before_granted (e := .halts s d q) heldAt wait (halted_calm s d q) holder lower first)

-- The event ------------------------------------------------------------------------------------------------------------------------

theorem halts_frame (s : State) (d : Dse) (q : Rpb) : SeqFrame (s.halted d q) (pass UnitNo.all (Ev.halts s d q)).s := by
  have frame := actAll_frame (Ev.halts s d q).s.alc.entries (.halts s d q)
  rw [actAll_pass _ fun u => UnitNo.mem_all u] at frame
  exact frame

/-- With the engine HALTED the event ends with the pass. -/
theorem closeEvent_halts {s : State} {d : Dse} {q : Rpb} (halted : d.engine = .halted) :
    closeEvent (.halts s d q) = (pass UnitNo.all (.halts s d q)).s := by
  have stands : (Ev.halts s d q).s.orderStands = false := by
    show (d.engine == .running && _) = false
    rw [halted]
    rfl
  rw [closeEvent_eq_turns stands, actAll_pass _ fun u => UnitNo.mem_all u]
  refine closeSettling_unordered ?_
  rw [State.orderStands, (halts_frame s d q).dse]
  exact stands

/-- The record of an engine halted by ABORT (R79). -/
def Dse.halted (d : Dse) : Dse :=
  { d with engine := .halted, standing := { d.standing with state := .none }, deferred := none, guardTmr := none }

/-- Reports leave the record on its way and the snapshot number. -/
theorem pushAll_kept (rs : List Report) (s : State) :
    (pushAll rs s).rpb.carried = s.rpb.carried ∧ (pushAll rs s).rpb.snapshot = s.rpb.snapshot := by
  induction rs generalizing s with
  | nil => exact ⟨rfl, rfl⟩
  | cons r rs ih =>
    obtain ⟨carried, snapshot⟩ := ih (pushReport r s)
    have frame := pushReport_frame r s
    exact ⟨carried.trans frame.carried, snapshot.trans frame.snapshot⟩

theorem endOrders_kept (r : Report) (st : OrderState) (after : Standing) (s : State) :
    (dropDeferred (endStanding st after (pushReport r s))).rpb.carried = s.rpb.carried ∧
      (dropDeferred (endStanding st after (pushReport r s))).rpb.snapshot = s.rpb.snapshot := by
  have frame := pushReport_frame r s
  have ended (x : State) : (endStanding st after x).rpb.carried = x.rpb.carried ∧
      (endStanding st after x).rpb.snapshot = x.rpb.snapshot := by
    rw [endStanding_eq]
    exact pushAll_kept (endReports st x) x
  have dropped (x : State) : (dropDeferred x).rpb.carried = x.rpb.carried ∧
      (dropDeferred x).rpb.snapshot = x.rpb.snapshot := by
    rw [dropDeferred_eq]
    exact pushAll_kept (dropReports x) x
  exact ⟨((dropped _).1.trans (ended _).1).trans frame.carried, ((dropped _).2.trans (ended _).2).trans frame.snapshot⟩

theorem abortRunning_eq (h : Hdr) (id : Half) (s : State) : ∃ q,
    abortRunning h id s = (pass UnitNo.all (.halts s s.dse.halted q)).s ∧
      (q.carried = s.rpb.carried ∧ q.snapshot = s.rpb.snapshot) ∧
      (ReportRoom 3 s → q.queue = s.rpb.queue ++ orderAnswer h id subAbort .accepted 0 ::
        (endReports .aborted s ++ dropReports s)) := by
  obtain ⟨q, ended, queue⟩ := endOrders_eq (orderAnswer h id subAbort .accepted 0) .aborted
    { s.dse.standing with state := .none } s
  have kept := endOrders_kept (orderAnswer h id subAbort .accepted 0) .aborted { s.dse.standing with state := .none } s
  rw [ended] at kept
  refine ⟨q, ?_, kept, fun room => (queue room).1⟩
  rw [← closeEvent_halts rfl]
  unfold abortRunning
  dsimp only
  rw [ended]
  rfl

/-- What an ABORT in RUNNING leaves beside the sequencers. -/
structure Aborted (s t : State) : Prop where
  dse     : t.dse = s.dse.halted
  uib     : t.uib = s.uib
  summary : t.alc.summary = s.alc.summary
  timer   : t.rmp.timer = s.rmp.timer
  setting : LeavesSetting s t
  entry   : ∀ u, t.entry u = heldEntry s u
  acted   : ResourcesAgree s → ∀ u, AbortActed s t u

theorem halts_aborted (s : State) {q : Rpb} (kept : q.carried = s.rpb.carried ∧ q.snapshot = s.rpb.snapshot) :
    Aborted s (pass UnitNo.all (.halts s s.dse.halted q)).s := by
  have frame := halts_frame s s.dse.halted q
  have before : LeavesSetting s (s.halted s.dse.halted q) := ⟨rfl, rfl, rfl, rfl, rfl, rfl, kept.1, kept.2, rfl⟩
  refine ⟨frame.dse, frame.uib, ?_, frame.timer, before.trans frame.event.leavesSetting, fun u => ?_,
    fun agree u => halts_acted agree.held _ _ u⟩
  · rw [frame.alc]
    rfl
  · rw [frame.entry_eq, halted_entry]

end Sys2Proof.Machine
end

section
/-! RESUME, where DORMANT sequencers adopt and act, and the statement about ABORT and RESUME (R79, R80, R114 to R117, R167). -/

namespace Sys2Proof.Machine

-- Turns of sequencers that hold no lock (R89) ----------------------------------------------------------------------------------

/-- A turn on the plan as it was, of a sequencer that holds no lock where it is owed an action, leaves every other one. -/
theorem actTurn_keepsOthers {e : Ev} {u v : UnitNo} (h : ResourcesHeld e.s)
    (free : u ∈ e.due → (e.s.seq u).state.holdsLock = false) (hv : v ≠ u) :
    (actTurn e.s.alc.entries e u).s.seq v = e.s.seq v ∧ (actTurn e.s.alc.entries e u).s.ramp v = e.s.ramp v := by
  by_cases due : u ∈ e.due
  · have frame := (act_turn h u).turn.1
    rw [actTurn_due due]
    exact ⟨frame.other hv fun holder => absurd holder (h.not_lockHolder (free due) _), (frame.others v hv).1⟩
  · rw [actTurn_of_notDue due]
    exact ⟨rfl, rfl⟩

theorem foldl_actTurn_keepsOthers {us : List UnitNo} (distinct : us.Nodup) {e : Ev} (h : ResourcesHeld e.s)
    (free : ∀ v ∈ us, v ∈ e.due → (e.s.seq v).state.holdsLock = false) {u : UnitNo} (out : u ∉ us) :
    (us.foldl (actTurn e.s.alc.entries) e).s.seq u = e.s.seq u ∧
      (us.foldl (actTurn e.s.alc.entries) e).s.ramp u = e.s.ramp u := by
  induction us generalizing e with
  | nil => exact ⟨rfl, rfl⟩
  | cons v us ih =>
    obtain ⟨hv, out⟩ := not_or.mp (mt List.mem_cons.mpr out)
    obtain ⟨fresh, distinct⟩ := List.nodup_cons.mp distinct
    obtain ⟨-, held, due, -⟩ := actTurn_planTurn e.s.alc.entries h v
    have alc : (actTurn e.s.alc.entries e v).s.alc = e.s.alc := (actTurn_frame _ e v).alc
    have keeps {y : UnitNo} (hy : y ≠ v) := actTurn_keepsOthers h (free v List.mem_cons_self) hy
    obtain ⟨seq, ramp⟩ := keeps hv
    have rest := ih distinct held (fun y hy dueY => by
      rw [(keeps fun k => fresh (k ▸ hy)).1]
      exact free y (List.mem_cons_of_mem _ hy) (due ▸ dueY)) out
    rw [alc] at rest
    exact ⟨rest.1.trans seq, rest.2.trans ramp⟩

/-- A pass in which nobody owed an action holds a lock: each unit comes to its turn as it was, and keeps what its turn left. -/
theorem actAll_unheld {e : Ev} (h : ResourcesHeld e.s) (free : ∀ v ∈ e.due, (e.s.seq v).state.holdsLock = false)
    (u : UnitNo) : ∃ f : Ev, (f.s.seq u = e.s.seq u ∧ f.s.ramp u = e.s.ramp u) ∧ SeqFrame e.s f.s ∧ f.due = e.due ∧
      (actAll e.s.alc.entries e).s.seq u = (actTurn e.s.alc.entries f u).s.seq u ∧
      (actAll e.s.alc.entries e).s.ramp u = (actTurn e.s.alc.entries f u).s.ramp u := by
  let f : Ev := (unitsBelow u).foldl (actTurn e.s.alc.entries) e
  let g : Ev := actTurn e.s.alc.entries f u
  obtain ⟨-, frame, held, due⟩ := foldl_actTurn_apart e.s.alc.entries u (unitsBelow u) (not_mem_unitsBelow u) h
  have before {v : UnitNo} (out : v ∉ unitsBelow u) :=
    foldl_actTurn_keepsOthers (unitsBelow_nodup u) h (fun v _ => free v) out
  have alc : f.s.alc = e.s.alc := frame.alc
  obtain ⟨-, held', due', -⟩ := actTurn_planTurn e.s.alc.entries held u
  have turn {v : UnitNo} (hv : v ≠ u) : g.s.seq v = f.s.seq v := by
    have keeps := actTurn_keepsOthers (e := f) held (fun k => by
      rw [(before (not_mem_unitsBelow u)).1]
      exact free u (due ▸ k)) hv
    rw [alc] at keeps
    exact keeps.1
  have after := foldl_actTurn_keepsOthers (us := unitsAbove u) ((by decide : UnitNo.all.Nodup).filter _) (e := g) held'
    (fun v hv dueV => by
      have higher := mem_unitsAbove.mp hv
      rw [turn (by rintro rfl; omega), (before fun k => by
        have lower := mem_unitsBelow.mp k
        omega).1]
      exact free v (by rw [← due, ← due']; exact dueV)) (not_mem_unitsAbove u)
  have galc : g.s.alc = e.s.alc := (actTurn_frame _ f u).alc.trans alc
  rw [galc] at after
  have whole : actAll e.s.alc.entries e = (unitsAbove u).foldl (actTurn e.s.alc.entries) g := by
    unfold actAll
    rw [unitsAll_split u, List.foldl_append, List.foldl_cons]
  rw [whole]
  exact ⟨f, before (not_mem_unitsBelow u), frame, due, after⟩

-- RESUME (R80) -----------------------------------------------------------------------------------------------------------------------

/-- The state with the engine running. -/
def State.resumed (s : State) : State := { s with dse := { s.dse with engine := .running } }

/-- The units whose sequencers adopt at RESUME. -/
def State.adopters (s : State) : List UnitNo := UnitNo.all.filter fun u => adoptable s u && (s.seq u).state == .dormant

/-- The event of a RESUME before the sequencers act. -/
def Ev.resumes (s : State) : Ev := adoptAll s.resumed.adopters (.start s.resumed)

theorem mem_adopters {s : State} {u : UnitNo} : u ∈ s.resumed.adopters ↔
    ((s.unit u).present = true ∧ (s.image u).identity = .verified) ∧ (s.seq u).state = .dormant := by
  rw [State.adopters, List.mem_filter, and_iff_right (UnitNo.mem_all u), Bool.and_eq_true, beq_iff_eq, adoptable,
    Bool.and_eq_true, beq_iff_eq]
  rfl

theorem takeResume_eq (h : Hdr) (id : Half) (s : State) (halted : s.dse.engine = .halted) :
    takeResume h id s = closeEvent (.resumes (s.reported (orderAnswer h id subResume .accepted 0))) := by
  rw [takeResume, if_pos halted, pushReport_eq_reported, reported_eq]
  rfl

section
variable {s : State} (agree : ResourcesAgree s) (noOrder : s.dse.standing.state = .none)

theorem resumes_frame (s : State) : SeqFrame s.resumed (Ev.resumes s).s := adoptAll_frame _ (.start s.resumed)

theorem resumes_adopted (s : State) : AdoptedAll s.resumed.adopters (.start s.resumed) (.resumes s) :=
  adoptAll_adoptedAll ((by decide : UnitNo.all.Nodup).filter _) fun _ hu => (mem_adopters.mp hu).2

include agree in
theorem resumes_held : ResourcesHeld (Ev.resumes s).s :=
  (ResourcesAgree.adoptAll (e := .start s.resumed) ((by decide : UnitNo.all.Nodup).filter _)
    (agree.setEngine (d := { s.dse with engine := .running }) nofun) nofun (fun _ hu => (mem_adopters.mp hu).2)
    fun u hu => by
      obtain ⟨⟨present, verified⟩, -⟩ := mem_adopters.mp hu
      rw [adoptable, Bool.and_eq_true, beq_iff_eq]
      exact ⟨present, verified⟩).held

include noOrder in
theorem closeEvent_resumes : closeEvent (.resumes s) = (actAll (Ev.resumes s).s.alc.entries (.resumes s)).s := by
  have none : (Ev.resumes s).s.dse.standing.state = .none := by
    rw [(resumes_frame s).dse]
    exact noOrder
  have stands : (Ev.resumes s).s.orderStands = false := by
    rw [State.orderStands, none]
    exact Bool.and_false _
  rw [closeEvent_eq_turns stands]
  exact closeSettling_noOrder (by rw [(actAll_frame _ _).dse, none])

theorem resumes_due {u : UnitNo} : u ∈ (Ev.resumes s).due ↔ u ∈ s.resumed.adopters :=
  ((resumes_adopted s).due u).trans ⟨fun k => k.resolve_right List.not_mem_nil, .inl⟩

include agree noOrder

/-- A unit's turn at RESUME, from the state with the adopted records. -/
theorem resumes_turn (u : UnitNo) : ∃ f : Ev,
    (f.s.seq u = (Ev.resumes s).s.seq u ∧ f.s.ramp u = (Ev.resumes s).s.ramp u ∧ f.s.entry u = s.entry u ∧
      (u ∈ f.due ↔ u ∈ s.resumed.adopters)) ∧
    (closeEvent (.resumes s)).seq u = (actTurn f.s.alc.entries f u).s.seq u ∧
    (closeEvent (.resumes s)).ramp u = (actTurn f.s.alc.entries f u).s.ramp u := by
  obtain ⟨f, ⟨seq, ramp⟩, frame, due, ends⟩ := actAll_unheld (resumes_held agree) (fun v hv => by
    rw [(resumes_adopted s).record v (resumes_due.mp hv)]
    have nothing := adoptedState_holdsNothing (s.image v)
    simp only [SeqState.holdsNothing, Bool.and_eq_true, Bool.not_eq_true'] at nothing
    exact nothing.1.1.1) u
  rw [closeEvent_resumes noOrder]
  refine ⟨f, ⟨seq, ramp, (frame.entry_eq u).trans ((resumes_frame s).entry_eq u), ?_⟩, ?_⟩
  · rw [due]
    exact resumes_due
  · rw [frame.alc]
    exact ends

/-- Who does not adopt keeps its record. -/
theorem resumes_others {u : UnitNo} (out : u ∉ s.resumed.adopters) : (closeEvent (.resumes s)).seq u = s.seq u := by
  obtain ⟨f, ⟨seq, -, -, due⟩, ends, -⟩ := resumes_turn agree noOrder u
  rw [ends, actTurn_of_notDue fun k => out (due.mp k), seq]
  exact ((resumes_adopted s).others u out).1

/-- Who adopts where its planned mode asks for what it adopts stays there. -/
theorem resumes_stays {u : UnitNo} (mem : u ∈ s.resumed.adopters)
    (stays : let n := adoptedState (s.image u)
      let m := (s.entry u).mode
      n.passive = true ∨ (n = .still ∧ m = .still) ∨ (n = .gOn ∧ m = .gen) ∨ (n = .gAir ∧ m = .genAir) ∨
        (n = .pAir ∧ m = .pumpAir) ∨ (n = .pOn ∧ m = .pump)) :
    (closeEvent (.resumes s)).seq u = .adopting (adoptedState (s.image u)) (s.image u).perm.lockout.val := by
  obtain ⟨f, ⟨seq, -, entry, due⟩, ends, -⟩ := resumes_turn agree noOrder u
  have record := seq.trans ((resumes_adopted s).record u mem)
  rw [ends, actTurn_due (due.mpr mem), act_holds (by rw [record]; rfl) ?_ (due.mpr mem)]
  · exact record
  · rw [record, entry]
    exact stays

/-- Who adopts in G_ON and is to generate takes its setpoint from the measured power. -/
theorem resumes_setpoint {u : UnitNo} (mem : u ∈ s.resumed.adopters) (on : adoptedState (s.image u) = .gOn)
    (gen : (s.entry u).mode = .gen) {b : Band} (band : s.bandOf u = some b) (turb : b.turb = true) :
    ((closeEvent (.resumes s)).ramp u).setpoint = some (b.clamp (s.image u).power) := by
  obtain ⟨f, ⟨seq, ramp, entry, due⟩, -, ends⟩ := resumes_turn agree noOrder u
  have record := seq.trans ((resumes_adopted s).record u mem)
  rw [ends, actTurn_due (due.mpr mem), act_generating (by rw [record]; exact on) (by rw [entry, gen]), ramp]
  exact (resumes_adopted s).setpoint u mem on b band turb

end

-- The statement -------------------------------------------------------------------------------------------------------------------------

theorem abort_taken {h : Hdr} {id : Half} {pad : BitVec 192} {s : State} (hd : DeliveredToPart (cellAbort h id pad) s) :
    exec (.abort h id pad) s = .next (takeAbort h id (s.withLinkUp .up)) := arriveUp_toPart (takeAbort h id) hd.1 hd.2.1

theorem resume_taken {h : Hdr} {id : Half} {pad : BitVec 192} {s : State} (hd : DeliveredToPart (cellResume h id pad) s) :
    exec (.resume h id pad) s = .next (takeResume h id (s.withLinkUp .up)) := arriveUp_toPart (takeResume h id) hd.1 hd.2.1

/-- Settles O42: ABORT by the pass on the frozen plan, RESUME by the adoptions and the turns of those that adopt. -/
theorem abortAndResume : Obligations.AbortAndResume := by
  refine ⟨fun h id pad s hd => ?_, fun h id pad s hd => ?_⟩
  · intro answer r
    let x : State := s.withLinkUp .up
    refine ⟨fun paused => ?_, fun halted => ?_, fun running => ?_⟩
    · rw [abort_taken hd, takeAbort, show x.dse.engine = .paused from paused]
      exact congrArg _ (pushReport_eq_reported _ _)
    · rw [abort_taken hd, takeAbort, show x.dse.engine = .halted from halted]
      exact congrArg _ (pushReport_eq_reported _ _)
    · obtain ⟨q, event, kept, queue⟩ := abortRunning_eq h id x
      have taken : exec (.abort h id pad) s = .next (pass UnitNo.all (.halts x x.dse.halted q)).s := by
        rw [abort_taken hd, takeAbort, show x.dse.engine = .running from running, ← event]
      obtain ⟨dse, uib, summary, timer, setting, entry, acted⟩ := halts_aborted x kept
      refine ⟨_, taken, dse, uib, summary, timer, setting, fun u => ?_, fun agree u => ?_, fun room => ?_⟩
      · rw [entry]
        show heldEntry s u = _
        unfold heldEntry
        cases (s.seq u).state <;> rfl
      · obtain ⟨stays, air, out, starting, waiting⟩ := acted (agree.withLinkUp .up) u
        exact ⟨stays, air, out, starting, waiting⟩
      · obtain ⟨rs, hrs⟩ := (halts_frame x x.dse.halted q).queue
        refine ⟨rs, hrs.trans ?_⟩
        show q.queue ++ rs = _
        rw [queue room]
        rfl
  · intro answer
    let x : State := s.withLinkUp .up
    refine ⟨fun out => ?_, fun halted noOrder agree => ?_⟩
    · rw [resume_taken hd, takeResume, if_neg (show x.dse.engine ≠ .halted from out), pushReport_eq_reported]
      rfl
    let a : State := x.reported (answer .accepted)
    have taken : exec (.resume h id pad) s = .next (closeEvent (.resumes a)) := by
      rw [resume_taken hd, takeResume_eq h id x halted]
      rfl
    obtain ⟨q, ha⟩ : ∃ q, a = { x with rpb := q } := ⟨_, reported_eq _ _⟩
    have agreed : ResourcesAgree a := by
      show ResourcesAgree (x.reported _)
      rw [← pushReport_eq_reported]
      exact (agree.withLinkUp .up).pushed _
    have leaves : LeavesSetting x a := (reported_event _ _).leavesSetting
    have queue (room : s.rpb.queue.length < 16) : a.rpb.queue = s.rpb.queue ++ [answer .accepted] := reported_room _ _ room
    clear_value a
    subst ha
    let a : State := { x with rpb := q }
    have none : a.dse.standing.state = .none := noOrder
    have turns : SeqFrame a.resumed (closeEvent (.resumes a)) := by
      rw [closeEvent_resumes none]
      exact (resumes_frame a).trans (actAll_frame _ _)
    have runs : LeavesSetting a a.resumed := ⟨rfl, rfl, rfl, rfl, rfl, rfl, rfl, rfl, rfl⟩
    refine ⟨_, taken, turns.dse, turns.alc, turns.uib, turns.timer, leaves.trans (runs.trans turns.event.leavesSetting),
      fun u awake => resumes_others agreed none fun k => awake (mem_adopters.mp k).2, fun u asleep => ?_, fun room => ?_⟩
    · intro adopts i n m stays
      have state : n = adoptedState i := (adoptedState_eq i).symm
      have adopter (k : adopts) : u ∈ a.resumed.adopters := mem_adopters.mpr ⟨k, asleep⟩
      refine ⟨fun k => resumes_others agreed none fun j => k (mem_adopters.mp j).1, fun k stay => ?_,
        fun k on gen b band turb => ?_⟩
      · rw [state]
        refine resumes_stays agreed none (adopter k) ?_
        dsimp only
        rw [show adoptedState (a.image u) = n from state.symm]
        obtain j | j | j | j := stay
        · exact .inl (by rw [j]; rfl)
        · exact .inl (by rw [j]; rfl)
        · exact .inl (by rw [j]; rfl)
        · exact .inr j
      · exact resumes_setpoint agreed none (adopter k) (state.symm.trans on) gen band turb
    · obtain ⟨rs, hrs⟩ := turns.queue
      unfold ReportRoom at room
      refine ⟨rs, hrs.trans ?_⟩
      show q.queue ++ rs = _
      rw [show q.queue = _ from queue (by omega), List.append_assoc]
      rfl

end Sys2Proof.Machine
end

section
/-! The timers of a sequencer's states: the event of each expiry, and the run that an event with one trigger calls for
(R84, R85, R118, R133 to R135, R139). -/

namespace Sys2Proof.Machine

-- Giving up what a unit holds (R125, R139) -----------------------------------------------------------------------------------

theorem giveUp_eq (u : UnitNo) (f : Ev) : giveUp u f = endGrant u (releaseLock u (leaveWaits u f)) := rfl

theorem leaveWaits_lockOf (u : UnitNo) (f : Ev) : (leaveWaits u f).s.lockOf u = (f.s.lockOf u).leftBy u := by
  show PerWaterway.get (PerWaterway.set _ _ _) _ = _
  exact PerWaterway.get_set_self _ _ _

/-- Who gives up its lock is not handed it. -/
theorem leaveWaits_not_self (u : UnitNo) (f : Ev) : ((leaveWaits u f).s.lockOf u).waiters.head? ≠ some u := fun k => by
  rw [leaveWaits_lockOf] at k
  have mem := List.mem_of_mem_head? k
  simp [Lock.leftBy] at mem

/-- A unit that gives everything up keeps its record, its setpoint and its waiting command. -/
theorem giveUp_own (u : UnitNo) (f : Ev) : (giveUp u f).s.seq u = f.s.seq u ∧ (giveUp u f).s.ramp u = f.s.ramp u ∧
    slotOf (.stage u) (giveUp u f).s = slotOf (.stage u) f.s := by
  obtain ⟨seq, ramp, slot⟩ := releaseLock_others (u := u) (v := u) (e := leaveWaits u f) fun k =>
    leaveWaits_not_self u f k.2
  rw [giveUp_eq, endGrant_seq, endGrant_ramp, endGrant_slotOf u _ (k := .stage u) fun k => nomatch k]
  exact ⟨seq, ramp, slot⟩

/-- Whoever else changes state is handed the lock, and goes on to no stable state. -/
theorem giveUp_others (u v : UnitNo) (f : Ev) : (giveUp u f).s.seq v = f.s.seq v ∨
    ((giveUp u f).s.seq v).state.stable = false := by
  rw [giveUp_eq, endGrant_seq]
  by_cases handed : ((leaveWaits u f).s.lockOf u).holder = some u ∧ ((leaveWaits u f).s.lockOf u).waiters.head? = some v
  · right
    obtain ⟨holder, head⟩ := handed
    rw [releaseLock_of_holder holder, head]
    dsimp only
    rw [enterTimed_seq_self]
    exact stable_of_holdsLock (grantedState_holdsLock _)
  · exact .inl (releaseLock_others handed).1

theorem giveUp_silent (u : UnitNo) (f : Ev) : Silent f.s (giveUp u f).s :=
  ((Silent.of_eq rfl).trans (releaseLock_silent u (leaveWaits u f))).trans (endGrant_silent u _)

theorem giveUp_owes (u : UnitNo) (f : Ev) : (giveUp u f).trig = f.trig ∧ (giveUp u f).due = f.due ∧
    (giveUp u f).settle = f.settle := by
  obtain ⟨t1, d1, s1⟩ := releaseLock_owes u (leaveWaits u f)
  obtain ⟨t2, d2, s2⟩ := endGrant_owes u (releaseLock u (leaveWaits u f))
  exact ⟨t2.trans t1, d2.trans d1, s2.trans s1⟩

theorem giveUp_orderIs (x : OrderState) (u : UnitNo) (f : Ev) : giveUp u (f.orderIs x) = (giveUp u f).orderIs x := by
  show endGrant u (releaseLock u ((leaveWaits u f).orderIs x)) = _
  rw [releaseLock_orderIs, endGrant_orderIs]
  rfl

-- The trip of a stage timer (R135, R139) ----------------------------------------------------------------------------------------

/-- The event of a trip after STOP, with nothing given up yet. -/
def Ev.tripping (u : UnitNo) (e : Ev) : Ev := (e.map (placeStage u .stop)).moved u .tripped Seq.stopTimers

theorem enterTripped_eq (u : UnitNo) (c : Cause) (e : Ev) : enterTripped u c true e =
    ((giveUp u (e.tripping u)).map (pushUnitState u (e.s.seq u).state .tripped c)).trigger true := rfl

section
variable (u : UnitNo) (c : Cause) (e : Ev)

theorem tripping_seq : (e.tripping u).s.seq u =
    { state := .tripped, origin := .none, prior := none, stageTimer := none, minRun := none, minStill := none,
      linger := none, pendLockout := (e.s.seq u).pendLockout } :=
  moved_seq_self u .tripped (e.map (placeStage u .stop))

theorem enterTripped_seq : (enterTripped u c true e).s.seq u =
    { state := .tripped, origin := .none, prior := none, stageTimer := none, minRun := none, minStill := none,
      linger := none, pendLockout := (e.s.seq u).pendLockout } := by
  rw [enterTripped_eq]
  exact (pushReport_seq _ _ _).trans ((giveUp_own u _).1.trans (tripping_seq u e))

theorem enterTripped_stop :
    { slot := .stage u, dest := (e.s.unit u).addr, cmd := .stop } ∈ (enterTripped u c true e).s.lpu.cmds := by
  have placed : { slot := .stage u, dest := (e.s.unit u).addr, cmd := .stop } ∈ (e.tripping u).s.lpu.cmds := by
    show _ ∈ (moveTo u .tripped (e.map (placeStage u .stop))).s.lpu.cmds
    rw [moveTo_cmds]
    exact mem_placeIn_self _ _
  have given := mem_cmds_of_slotOf (w := { slot := .stage u, dest := _, cmd := .stop }) (giveUp_own u (e.tripping u)).2.2 placed
  rw [enterTripped_eq]
  show _ ∈ (pushReport _ (giveUp u (e.tripping u)).s).lpu.cmds
  rw [pushReport_eq_reported, reported_lpu]
  exact given

theorem enterTripped_owes : (enterTripped u c true e).trig = true ∧ (enterTripped u c true e).due = e.due ∧
    (enterTripped u c true e).settle = e.settle := by
  obtain ⟨-, due, settle⟩ := giveUp_owes u (e.tripping u)
  exact ⟨Bool.or_true _, due, settle.trans (Bool.or_false _)⟩

/-- No sequencer enters a stable state in a trip. -/
theorem enterTripped_others (v : UnitNo) : (enterTripped u c true e).s.seq v = e.s.seq v ∨
    ((enterTripped u c true e).s.seq v).state.stable = false := by
  by_cases hv : v = u
  · subst hv
    right
    rw [enterTripped_seq]
    rfl
  · have seq : (enterTripped u c true e).s.seq v = (giveUp u (e.tripping u)).s.seq v := pushReport_seq _ _ _
    have before : (e.tripping u).s.seq v = e.s.seq v := moved_seq_ne u .tripped (e.map (placeStage u .stop)) hv
    rw [seq, ← before]
    exact giveUp_others u v _

theorem enterTripped_orderIs (x : OrderState) : enterTripped u c true (e.orderIs x) = (enterTripped u c true e).orderIs x := by
  have first : (e.orderIs x).tripping u = (e.tripping u).orderIs x := by
    show ((moveTo u .tripped ((e.map (placeStage u .stop)).orderIs x)).setSeq u Seq.stopTimers) = _
    rw [moveTo_orderIs]
    rfl
  rw [enterTripped_eq, first, giveUp_orderIs]
  exact congrArg (fun t : State => (({ (giveUp u (e.tripping u)) with s := t } : Ev).trigger true))
    (pushReport_orderIs x _ (giveUp u (e.tripping u)).s)

end

/-- A silent event's report is the next in the queue. -/
theorem Silent.pushedQueue {a b : State} (h : Silent a b) (r : Report) (room : ReportRoom 1 a) :
    (Machine.pushReport r b).rpb.queue = a.rpb.queue ++ [r] := by
  unfold ReportRoom at room
  have queue : b.rpb.queue = a.rpb.queue := by rw [h]
  rw [pushReport_eq_reported, reported_room b r (by rw [queue]; omega), queue]

theorem enterTripped_queue (u : UnitNo) (c : Cause) (e : Ev) (room : ReportRoom 1 e.s) :
    (enterTripped u c true e).s.rpb.queue = e.s.rpb.queue ++
      [.unitState u (e.s.seq u).state .tripped c (e.s.image u).stage (e.s.image u).fault] := by
  have frame : SeqFrame e.s (giveUp u (e.tripping u)).s := by
    have first : SeqFrame e.s (e.tripping u).s := (placeStage_frame u .stop e.s).trans
      (moved_frame u .tripped (f := Seq.stopTimers) (e.map (placeStage u .stop)) fun _ => rfl)
    exact first.trans (giveUp_frame u _)
  have silent : Silent e.s (giveUp u (e.tripping u)).s := by
    have moved : Silent e.s (moveTo u .tripped (e.map (placeStage u .stop))).s :=
      (Silent.of_eq (b := placeStage u .stop e.s) rfl).trans (moveTo_silent u .tripped (e.map _))
    exact (moved.trans (.of_eq rfl)).trans (giveUp_silent u (e.tripping u))
  rw [enterTripped_eq]
  show (pushUnitState u _ _ c (giveUp u (e.tripping u)).s).rpb.queue = _
  unfold pushUnitState
  rw [silent.pushedQueue _ room, frame.image_eq]

-- The run after an event with one trigger (R84, R85) ---------------------------------------------------------------------------------

/-- The end of an event that owes nobody an action is, under a standing order, the run after what the event comes to with
no order standing. -/
theorem runAfter_of_event {i : Instr} {s : State} {e : Ev} (stands : s.orderStands = true) (trig : e.trig = true)
    (due : e.due = []) (dse : e.s.dse = s.dse)
    (hexec : exec i (setOrderState .none s) = .next (closeEvent (e.orderIs .none))) (agree : ResourcesAgree s → ResourcesHeld e.s)
    (entered : e.settle = true → ∃ u, e.s.seq u ≠ s.seq u)
    (settles : ∀ u, (e.s.seq u).state ≠ (s.seq u).state → (e.s.seq u).state.stable = true → e.settle = true) :
    RunAfter i s (closeEvent e) := by
  have noOrder : (e.orderIs .none).s.orderStands = false := by
    rw [State.orderStands]
    exact Bool.and_false _
  have left : closeEvent (e.orderIs .none) = setOrderState .none e.s := closeEvent_noOrder due noOrder
  have state : ({ setOrderState .none e.s with dse := s.dse } : State) = e.s := by
    rw [← dse]
    rfl
  have runs : (e.trig && e.s.orderStands) = true := by
    rw [trig, State.orderStands, dse]
    exact stands
  refine ⟨setOrderState .none e.s, hexec.trans (congrArg _ left), ?_, ?_, fun room => ?_, fun agreed => ?_⟩
  · rw [state, closeEvent_alc, if_pos runs]
  · have replanned := closeEvent_replanned runs
    unfold Replanned at replanned ⊢
    rw [dse] at replanned
    exact replanned
  · have queue := closeEvent_replanned_queue runs room
    unfold replannedReport at queue ⊢
    rw [dse] at queue
    exact queue
  · refine ⟨e.settle = true, entered, fun ⟨u, moved, stable⟩ => settles u moved stable, ?_⟩
    rw [state]
    have ran := closeEvent_ranFrom (agree agreed) runs (entered := e.settle = true) Iff.rfl
    rw [due] at ran
    exact ran

end Sys2Proof.Machine
end

section
/-! Timeouts of stages, waits and lingering, settled (R84, R85, R121, R124, R125, R130, R131, R133 to R135, R139, R158). -/

namespace Sys2Proof.Machine

-- The expiries (R131, R133 to R135) ----------------------------------------------------------------------------------------------

section
variable {u : UnitNo} {s : State} (free : s.held = false)
include free

theorem stageTimeout_expires (runs : (s.seq u).stageTimer.isSome = true) (trips : (s.seq u).state.tripsAtTimeout = true) :
    exec (.stageTimeout u) s = .next (closeEvent (enterTripped u .timeout true (.start s))) :=
  (event_free _ free).trans (congrArg _ (if_pos ⟨runs, trips⟩))

theorem queueTimeout_expires (runs : (s.seq u).stageTimer.isSome = true) (waits : (s.seq u).state = .pConvwait) :
    exec (.queueTimeout u) s = .next (closeEvent (stopWithReport u .queueTimeout (.start s))) :=
  (event_free _ free).trans (congrArg _ (if_pos ⟨runs, waits⟩))

theorem lockwaitTimeout_expires (runs : (s.seq u).stageTimer.isSome = true)
    (waits : (s.seq u).state = .gLockwait ∨ (s.seq u).state = .pLockwait) :
    exec (.lockwaitTimeout u) s = .next (closeEvent (lockwaitExpired u (.start s))) :=
  (event_free _ free).trans (congrArg _ (if_pos ⟨runs, waits⟩))

theorem lingerExpiry_expires (runs : (s.seq u).linger.isSome = true)
    (air : (s.seq u).state = .gAir ∨ (s.seq u).state = .pAir) :
    exec (.lingerExpiry u) s = .next (closeEvent (enterStopping u (.start s))) := by
  refine (event_free _ free).trans (congrArg _ (if_pos ⟨runs, ?_⟩))
  obtain k | k := air <;> rw [k] <;> rfl

theorem timeouts_stopped (stopped : (s.seq u).stageTimer = none) : exec (.stageTimeout u) s = .next s ∧
    exec (.queueTimeout u) s = .next s ∧ exec (.lockwaitTimeout u) s = .next s := by
  have idle : ¬stageTimerRuns s u = true := by
    rw [stageTimerRuns, stopped]
    decide
  exact ⟨(event_free _ free).trans (congrArg _ (if_neg fun k => idle k.1)),
    (event_free _ free).trans (congrArg _ (if_neg fun k => idle k.1)),
    (event_free _ free).trans (congrArg _ (if_neg fun k => idle k.1))⟩

theorem lingerExpiry_stopped (stopped : (s.seq u).linger = none) : exec (.lingerExpiry u) s = .next s :=
  (event_free _ free).trans (congrArg _ (if_neg fun k => by rw [stopped] at k; exact absurd k.1 (by decide)))

end

-- A stage that times out (R135, R139) -------------------------------------------------------------------------------------------------

/-- What a trip at a stage timeout leaves. -/
structure TimedOut (s t : State) (u : UnitNo) : Prop where
  gaveUp  : GaveUp t u
  stop    : { slot := .stage u, dest := (s.unit u).addr, cmd := .stop } ∈ t.lpu.cmds
  report  : ReportRoom 1 s → ∃ rs, t.rpb.queue = s.rpb.queue ++
              .unitState u (s.seq u).state .tripped .timeout (s.image u).stage (s.image u).fault :: rs
  record  : t.seq u = { state := .tripped, origin := .none, prior := none, stageTimer := none, minRun := none,
                        minStill := none, linger := none, pendLockout := (s.seq u).pendLockout }
  uib     : t.uib = s.uib
  setting : LeavesSetting s t
  dse     : t.dse = { s.dse with standing := t.dse.standing }

section
variable {u : UnitNo} {s : State} (agree : ResourcesAgree s) (awake : (s.seq u).state ≠ .dormant)
include agree awake

theorem trip_agrees : ResourcesAgree (enterTripped u .timeout true (.start s)).s :=
  ResourcesAgree.enterTripped (e := .start s) agree _ _ awake

theorem trip_timedOut : TimedOut s (closeEvent (enterTripped u .timeout true (.start s))) u := by
  let e : Ev := enterTripped u .timeout true (.start s)
  have frame : EventFrame s e.s := (enterTripped_frame u .timeout true (.start s)).event
  have closes : EventFrame e.s (closeEvent e) := closeEvent_frame e
  have agreed := trip_agrees agree awake
  have tripped : (e.s.seq u).state = .tripped := congrArg Seq.state (enterTripped_seq u .timeout (.start s))
  have nowhere : WaitsNowhere u e.s := agreed.held.waitsNowhere (by rw [tripped]; rfl) (by rw [tripped]; decide)
  obtain ⟨-, seq, -, slot⟩ := closeEvent_apart e (by rw [tripped]; rfl) nowhere
  have record := seq.trans (enterTripped_seq u .timeout (.start s))
  refine ⟨(ResourcesAgree.closeEvent agreed).held.gaveUp (by rw [record]; rfl), ?_, fun room => ?_, record,
    (frame.trans closes).uib, (frame.trans closes).leavesSetting, (frame.trans closes).dse⟩
  · exact mem_cmds_of_slotOf (w := { slot := .stage u, dest := _, cmd := .stop }) slot (enterTripped_stop u .timeout (.start s))
  · obtain ⟨rs, queue⟩ := closes.queue
    refine ⟨rs, ?_⟩
    rw [queue, enterTripped_queue u .timeout (.start s) room, List.append_assoc]
    rfl

theorem trip_runs (free : s.held = false) (runs : (s.seq u).stageTimer.isSome = true)
    (trips : (s.seq u).state.tripsAtTimeout = true) (stands : s.orderStands = true) :
    RunAfter (.stageTimeout u) s (closeEvent (enterTripped u .timeout true (.start s))) := by
  obtain ⟨trig, due, settle⟩ := enterTripped_owes u .timeout (.start s)
  have frame := enterTripped_frame u .timeout true (.start s)
  refine runAfter_of_event stands trig due frame.dse ?_ (fun _ => (trip_agrees agree awake).held) (fun k => ?_)
    fun v moved stable => ?_
  · rw [← enterTripped_orderIs]
    exact stageTimeout_expires (s := setOrderState .none s) free runs trips
  · rw [settle] at k
    cases k
  · obtain same | unstable := enterTripped_others u .timeout (.start s) v
    · exact absurd (congrArg Seq.state same) moved
    · rw [unstable] at stable
      cases stable

end

-- A unit that stops at an expiry (R125, R131, R134) ---------------------------------------------------------------------------------------

/-- An event that owes nothing and takes no sequencer into a stable state is its own end. -/
theorem closeEvent_stopping {e : Ev} {u : UnitNo} {s : State}
    (owes : e.trig = false ∧ e.due = [] ∧ e.settle = false) (frame : SeqFrame s e.s) (stopped : Stopped e.s u) :
    closeEvent e = e.s ∧ Stopped e.s u ∧ (e.s.seq u).prior = (s.image u).stage ∧
      (e.s.seq u).stageTimer = some (s.profileOf u).tStop ∧
      { slot := .stage u, dest := (s.unit u).addr, cmd := .stop } ∈ e.s.lpu.cmds := by
  obtain ⟨trig, due, settle⟩ := owes
  have whole := stopped
  obtain ⟨⟨-, timer, prior, command⟩, -⟩ := stopped
  rw [frame.image_eq] at prior
  rw [frame.profileOf_eq] at timer
  rw [frame.unit_eq] at command
  exact ⟨closeEvent_idle e due (by rw [trig]; rfl) settle, whole, prior, timer, command⟩

-- A lock wait that times out (R133) ----------------------------------------------------------------------------------------------------------

/-- The event of a return at the timeout, its report made. -/
def Ev.waitEnded (u : UnitNo) (s : State) : Ev := returnToOrigin u .lockwaitTimeout (.start s)

section
variable {u : UnitNo} {s : State} (wait : (s.seq u).state.waitsForLock = true)

theorem waitEnded_seq : (Ev.waitEnded u s).s.seq u = (s.seq u).leaveFor (s.seq u).back := by
  unfold Ev.waitEnded
  rw [returnToOrigin_eq]
  refine (pushReport_seq _ _ _).trans (returned_seq_self.trans ?_)
  rw [returnState_eq]
  rfl

theorem waitEnded_others {v : UnitNo} (hv : v ≠ u) : (Ev.waitEnded u s).s.seq v = s.seq v := by
  unfold Ev.waitEnded
  rw [returnToOrigin_eq]
  exact (pushReport_seq _ _ _).trans (returned_seq_ne hv)

theorem waitEnded_frame : SeqFrame s (Ev.waitEnded u s).s := returnToOrigin_frame u .lockwaitTimeout (.start s)

theorem waitEnded_owes : (Ev.waitEnded u s).trig = false ∧ (Ev.waitEnded u s).due = [] ∧
    (Ev.waitEnded u s).settle = true := by
  refine ⟨rfl, rfl, ?_⟩
  show (false || SeqState.stable _) = true
  rw [Bool.false_or]
  exact returnState_stable _ _

theorem waitEnded_queue (room : ReportRoom 1 s) : (Ev.waitEnded u s).s.rpb.queue = s.rpb.queue ++
    [.unitState u (s.seq u).state (s.seq u).back .lockwaitTimeout (s.image u).stage (s.image u).fault] := by
  unfold Ev.waitEnded
  rw [returnToOrigin_eq, returnState_eq]
  show (pushReport (.unitState u _ _ _ (((Ev.start s).returned u).s.image u).stage
    (((Ev.start s).returned u).s.image u).fault) _).rpb.queue = _
  rw [returned_silent.pushedQueue _ room, returned_frame.image_eq]
  rfl

theorem waitEnded_lock : (Ev.waitEnded u s).s.lockOf u = (s.lockOf u).leftBy u := by
  have pra : (Ev.waitEnded u s).s.pra = ((Ev.start s).returned u).s.pra := pushReport_pra _ _
  rw [State.lockOf, waitEnded_frame.unit_eq, pra, returned_pra]
  exact PerWaterway.get_set_self _ _ _

include wait in
theorem waitEnded_held (held : ResourcesHeld s) : ResourcesHeld (Ev.waitEnded u s).s :=
  (ResourcesHeld.returned (e := .start s) held wait).withReport _

-- Back to STILL, a trigger

/-- The event of a wait that ends in STILL. -/
def Ev.waitStill (u : UnitNo) (s : State) : Ev :=
  ((Ev.waitEnded u s).setSeq u fun q => { q with minStill := some (s.unit u).minStill }).trigger true

theorem lockwaitExpired_still (back : (s.seq u).back = .still) : lockwaitExpired u (.start s) = .waitStill u s := by
  have state : (Ev.waitEnded u s).state u = .still := by
    rw [Ev.state, waitEnded_seq]
    exact back
  exact if_pos state

theorem lockwaitExpired_air (back : (s.seq u).back ≠ .still) :
    lockwaitExpired u (.start s) = actStable u (.waitEnded u s) := by
  have state : (Ev.waitEnded u s).state u ≠ .still := by
    rw [Ev.state, waitEnded_seq]
    exact back
  exact if_neg state

theorem waitStill_seq : (Ev.waitStill u s).s.seq u =
    { (s.seq u).leaveFor (s.seq u).back with minStill := some (s.unit u).minStill } := by
  show ((Ev.waitEnded u s).s.setSeq u _).seq u = _
  rw [State.setSeq_seq_self, waitEnded_seq]

theorem waitStill_others {v : UnitNo} (hv : v ≠ u) : (Ev.waitStill u s).s.seq v = s.seq v :=
  (State.setSeq_seq_ne _ _ _ _ hv).trans (waitEnded_others hv)

theorem waitStill_frame : SeqFrame s (Ev.waitStill u s).s :=
  waitEnded_frame.trans (evSetSeq_frame u (fun q => { q with minStill := some (s.unit u).minStill }) (.waitEnded u s) rfl)

include wait in
theorem waitStill_held (held : ResourcesHeld s) : ResourcesHeld (Ev.waitStill u s).s :=
  (waitEnded_held wait held).setSeq rfl

theorem waitStill_orderIs (x : OrderState) : Ev.waitStill u (setOrderState x s) = (Ev.waitStill u s).orderIs x := by
  have first : Ev.waitEnded u (setOrderState x s) = (Ev.waitEnded u s).orderIs x :=
    returnToOrigin_orderIs x u .lockwaitTimeout (.start s)
  unfold Ev.waitStill
  rw [first]
  rfl

/-- STILL with min-still started, where nothing takes the sequencer on: no order stands, or the timer has a period. -/
theorem waitStill_stays (agree : ResourcesAgree s) (back : (s.seq u).back = .still)
    (wait : (s.seq u).state.waitsForLock = true) (h : 0 < (s.unit u).minStill ∨ s.orderStands = false) :
    ((closeEvent (.waitStill u s)).seq u).state = .still ∧
      ((closeEvent (.waitStill u s)).seq u).minStill = some (s.unit u).minStill ∧ GaveUp (closeEvent (.waitStill u s)) u := by
  have own := waitStill_seq (u := u) (s := s)
  have state : ((Ev.waitStill u s).s.seq u).state = .still := by
    rw [own]
    exact back
  have timer : ((Ev.waitStill u s).s.seq u).minStill = some (s.unit u).minStill := by rw [own]
  have held := waitStill_held wait agree.held
  have stays : (closeEvent (.waitStill u s)).seq u = (Ev.waitStill u s).s.seq u := by
    obtain period | stands := h
    · exact closeEvent_keepsStill held state (by rw [timer]; exact decide_eq_true period)
    · rw [closeEvent_noOrder rfl (by rw [State.orderStands, waitStill_frame.dse]; exact stands)]
  have heldEnd : ResourcesHeld (closeEvent (.waitStill u s)) :=
    (ResourcesAgree.closeEvent (agree.event waitStill_frame.event held (.but (u := u) (fun k => by
      rw [k] at wait
      cases wait) fun v hv => waitStill_others hv))).held
  rw [stays]
  exact ⟨state, timer, heldEnd.gaveUp (by rw [stays, state]; rfl)⟩

theorem waitStill_runs (agree : ResourcesAgree s) (free : s.held = false) (runs : (s.seq u).stageTimer.isSome = true)
    (wait : (s.seq u).state.waitsForLock = true) (back : (s.seq u).back = .still) (stands : s.orderStands = true) :
    RunAfter (.lockwaitTimeout u) s (closeEvent (.waitStill u s)) := by
  refine runAfter_of_event stands rfl rfl waitStill_frame.dse ?_ (fun _ => waitStill_held wait agree.held)
    (fun _ => ⟨u, fun same => ?_⟩) fun _ _ _ => waitEnded_owes.2.2
  · rw [← waitStill_orderIs, ← lockwaitExpired_still (s := setOrderState .none s) back]
    exact lockwaitTimeout_expires (s := setOrderState .none s) free runs ((waitsForLock_iff _).mp wait)
  · have state := congrArg Seq.state (waitStill_seq.symm.trans same)
    rw [← state] at wait
    exact absurd (wait.symm.trans (Seq.back_notWaiting _)) (by decide)

-- Back in air, where it acts

/-- What a wait that ends in air leaves: the sequencer has acted on its plan entry there. -/
theorem waitEnded_acts (agree : ResourcesAgree s) (wait : (s.seq u).state.waitsForLock = true) :
    let t := closeEvent (actStable u (.waitEnded u s))
    t.alc = s.alc ∧ ResourcesHeld t ∧
      ActedFrom s t u (s.seq u).back (s.entry u) (s.image u) (s.seq u).minStill (s.seq u).pendLockout := by
  intro t
  have held := waitEnded_held wait agree.held
  have frame := waitEnded_frame (u := u) (s := s)
  have own := waitEnded_seq (u := u) (s := s)
  have stable : ((Ev.waitEnded u s).s.seq u).state.stable = true := by
    rw [own]
    show (s.seq u).back.stable = true
    obtain k | k | k := Seq.back_cases (s.seq u) <;> rw [k] <;> rfl
  have acts : act u (.waitEnded u s) = actStable u (.waitEnded u s) := if_pos stable
  have turn := act_turn held u
  rw [acts] at turn
  have ends : t = closeSettling (actStable u (.waitEnded u s)) := by
    have due : (actStable u (.waitEnded u s)).due = [] := turn.due
    have trig : (actStable u (.waitEnded u s)).trig = false :=
      ((actStable_stableAct u (.waitEnded u s)).turned held stable).trig
    show closeEvent _ = _
    unfold closeEvent
    rw [trig]
    exact congrArg closeSettling (foldl_actTurn_of_notDue UnitNo.all fun v _ => by rw [due]; exact List.not_mem_nil)
  have acted : ActedFrom s (actStable u (.waitEnded u s)).s u (s.seq u).back (s.entry u) (s.image u) (s.seq u).minStill
      (s.seq u).pendLockout := by
    have k := turn.turn.actsStable stable
    rw [own, frame.entry_eq, frame.image_eq] at k
    exact ActedFrom.congr k frame.tbs (by rw [waitEnded_lock]; rfl) (by rw [waitEnded_lock]; simp [Lock.leftBy])
  rw [ends]
  refine ⟨(closeSettling_alc _).trans ((actStable_frame u (.waitEnded u s)).alc.trans frame.alc), ?_, ?_⟩
  · unfold closeSettling
    split
    · obtain ⟨st, q, settled, -⟩ := settleCheck_eq (actStable u (.waitEnded u s)).s
      rw [settled]
      exact turn.held.congr rfl rfl fun _ => rfl
    · exact turn.held
  · unfold closeSettling
    split
    · obtain ⟨st, q, settled, -⟩ := settleCheck_eq (actStable u (.waitEnded u s)).s
      rw [settled]
      exact acted
    · exact acted

end

-- The statement ---------------------------------------------------------------------------------------------------------------------------------

/-- Who acts in air on a plan that keeps it there stays (R130). -/
theorem ActedFrom.inAir_stays {s t : State} {u : UnitNo} {x : SeqState} {e : Entry} {i : Image} {m : Timer} {p : Bool}
    (h : ActedFrom s t u x e i m p) (air : x = .gAir ∧ e.mode = .genAir ∨ x = .pAir ∧ e.mode = .pumpAir) :
    (t.seq u).state = x := by
  unfold ActedFrom at h
  obtain ⟨rfl, mode⟩ | ⟨rfl, mode⟩ := air
  all_goals
    rw [mode] at h
    exact h.1

/-- What a lock wait that times out leaves in any case. -/
theorem lockwaitExpired_left (u : UnitNo) (s : State) :
    let t := closeEvent (lockwaitExpired u (.start s))
    (ReportRoom 1 s → ∃ rs, t.rpb.queue = s.rpb.queue ++
      .unitState u (s.seq u).state (s.seq u).back .lockwaitTimeout (s.image u).stage (s.image u).fault :: rs) ∧
    EventFrame s t := by
  intro t
  have closes : EventFrame (lockwaitExpired u (.start s)).s t := closeEvent_frame _
  refine ⟨fun room => ?_, (lockwaitExpired_frame u (.start s)).event.trans closes⟩
  have ends : ∃ rs, (lockwaitExpired u (.start s)).s.rpb.queue = (Ev.waitEnded u s).s.rpb.queue ++ rs := by
    by_cases back : (s.seq u).back = .still
    · rw [lockwaitExpired_still back]
      exact ⟨[], (List.append_nil _).symm⟩
    · rw [lockwaitExpired_air back]
      exact (actStable_frame u (.waitEnded u s)).queue
  obtain ⟨rs, acts⟩ := ends
  obtain ⟨rs', queue⟩ := closes.queue
  refine ⟨rs ++ rs', ?_⟩
  rw [queue, acts, waitEnded_queue room]
  simp

/-- Settles O52: each expiry by its event; a run follows the two that raise a trigger. -/
theorem stageAndLingerTimeouts : Obligations.StageAndLingerTimeouts := by
  intro u s free agree n e i stopPlaced gaveUp reports stoppedSeq
  have held : ResourcesHeld s := agree.held
  refine ⟨fun runs trips => ?_, fun runs waits => ?_, fun runs air => ?_, fun runs waits => ?_,
    fun stopped => timeouts_stopped free stopped, fun stopped => lingerExpiry_stopped free stopped⟩
  · have awake : (s.seq u).state ≠ .dormant := fun k => by
      rw [show n = .dormant from k] at trips
      cases trips
    obtain ⟨up, stop, report, record, uib, setting, dse⟩ := trip_timedOut (u := u) agree awake
    exact ⟨_, stageTimeout_expires free runs trips, up, stop, report, record, uib, setting, dse,
      trip_runs agree awake free runs trips⟩
  · have frame := stopWithReport_frame u .queueTimeout (.start s)
    obtain ⟨ends, stopped, prior, timer, command⟩ := closeEvent_stopping (u := u)
      (e := stopWithReport u .queueTimeout (.start s)) (enterStopping_owes u (.start s)) frame
      ((enterStopping_stopped (e := .start s) held).withReport _)
    obtain ⟨⟨state, -⟩, minRun, linger, up⟩ := stopped
    refine ⟨_, queueTimeout_expires free runs waits, ?_⟩
    rw [ends]
    refine ⟨up, command, fun room => ⟨[], ?_⟩, ⟨state, timer, prior, minRun, linger⟩, frame.uib, frame.event.leavesSetting,
      frame.dse, frame.alc⟩
    show (pushUnitState u _ _ _ (enterStopping u (.start s)).s).rpb.queue = _
    unfold pushUnitState
    rw [(enterStopping_silent u (.start s)).pushedQueue _ room, (enterStopping_frame u (.start s)).image_eq]
    rfl
  · have frame := enterStopping_frame u (.start s)
    obtain ⟨ends, stopped, prior, timer, command⟩ := closeEvent_stopping (u := u) (enterStopping_owes u (.start s)) frame
      (enterStopping_stopped (e := .start s) held)
    obtain ⟨⟨state, -⟩, minRun, linger, up⟩ := stopped
    refine ⟨_, lingerExpiry_expires free runs air, ?_⟩
    rw [ends]
    refine ⟨up, command, ⟨state, timer, prior, minRun, linger⟩, frame.uib, frame.event.leavesSetting, frame.dse, frame.alc, ?_⟩
    have silent : Silent s (enterStopping u (.start s)).s := enterStopping_silent u (.start s)
    rw [silent]
  · intro back
    have wait : (s.seq u).state.waitsForLock = true := (waitsForLock_iff _).mpr waits
    have isBack : (s.seq u).back = back := rfl
    obtain ⟨report, frame⟩ := lockwaitExpired_left u s
    refine ⟨_, lockwaitTimeout_expires free runs waits, report, fun still h => ?_, fun still stands => ?_, fun away => ?_,
      fun air mode => ?_, fun air mode => ?_, frame.uib, frame.leavesSetting, frame.dse⟩
    · rw [lockwaitExpired_still (isBack.trans still)]
      exact waitStill_stays agree (isBack.trans still) wait h
    · rw [lockwaitExpired_still (isBack.trans still)]
      exact waitStill_runs agree free runs wait (isBack.trans still) stands
    · rw [lockwaitExpired_air (isBack ▸ away)]
      obtain ⟨alc, -, acted⟩ := waitEnded_acts (u := u) agree wait
      exact ⟨alc, acted⟩
    · rw [lockwaitExpired_air (by rw [isBack, air]; decide)]
      obtain ⟨-, heldEnd, acted⟩ := waitEnded_acts (u := u) agree wait
      have stays := (acted.inAir_stays (.inl ⟨isBack.trans air, mode⟩)).trans (isBack.trans air)
      exact ⟨stays, heldEnd.gaveUp (by rw [stays]; rfl)⟩
    · rw [lockwaitExpired_air (by rw [isBack, air]; decide)]
      obtain ⟨-, heldEnd, acted⟩ := waitEnded_acts (u := u) agree wait
      have stays := (acted.inAir_stays (.inr ⟨isBack.trans air, mode⟩)).trans (isBack.trans air)
      exact ⟨stays, heldEnd.gaveUp (by rw [stays]; rfl)⟩

end Sys2Proof.Machine
end

section
/-! A UNIT_STATUS with the band kept and the permissives handed over as they were: the event of the cell, and what an arrival by
progress comes to where no order stands (R42 to R46, R117, R119 to R125, R154, R155). -/

namespace Sys2Proof.Machine

-- The image rewritten (R42, R46, R52) ------------------------------------------------------------------------------------------

/-- The state that a taken UNIT_STATUS hands to the sequencer: the image rewritten, its event flags raised. -/
def State.statusTaken (u : UnitNo) (n : Image) (s : State) : State :=
  raiseEvents u (newlyActive (s.image u) n &&& (s.image u).watch) false (s.setImage u n)

/-- An event flagged in an image leaves the rest of it. -/
theorem raiseEvents_image (u : UnitNo) (ev : BitVec 8) (verify : Bool) (s : State) : ∃ fl v,
    (raiseEvents u ev verify s).image u = { s.image u with events := fl, verifyEvent := v } := by
  have set (i : Image) : (s.setImage u i).image u = i := State.setImage_image_self s u i
  have pushed (r : Report) (i : Image) : (pushReport r (s.setImage u i)).image u = i := by
    rw [(pushReport_frame r _).image_eq, set]
  unfold raiseEvents
  dsimp only
  split
  · exact ⟨_, _, rfl⟩
  · split
    · exact ⟨_, _, set _⟩
    · exact ⟨_, _, pushed _ _⟩

/-- Flags raised queue one report at most. -/
theorem raiseEvents_length (u : UnitNo) (ev : BitVec 8) (verify : Bool) (s : State) :
    (raiseEvents u ev verify s).rpb.queue.length ≤ s.rpb.queue.length + 1 := by
  unfold raiseEvents
  dsimp only
  split
  · exact Nat.le_succ _
  split
  · show (s.rpb.queue.map _).length ≤ _
    rw [List.length_map]
    exact Nat.le_succ _
  · rw [pushReport_eq_reported, State.reported]
    split
    · exact (List.length_append ..).le
    · exact Nat.le_succ _

section
variable (u : UnitNo) (n : Image) (s : State)

theorem statusTaken_eq : ∃ x q, s.statusTaken u n = { s with
    uib := { s.uib with images := x }
    rpb := q } := by
  obtain ⟨i, q, taken, -⟩ := raiseEvents_eq u (newlyActive (s.image u) n &&& (s.image u).watch) false (s.setImage u n)
  exact ⟨_, q, taken⟩

theorem statusTaken_image : ∃ fl v, (s.statusTaken u n).image u = { n with events := fl, verifyEvent := v } := by
  obtain ⟨fl, v, image⟩ := raiseEvents_image u (newlyActive (s.image u) n &&& (s.image u).watch) false (s.setImage u n)
  rw [State.setImage_image_self] at image
  exact ⟨fl, v, image⟩

theorem statusTaken_room {k : Nat} (room : ReportRoom (k + 1) s) : ReportRoom k (s.statusTaken u n) := by
  have length := raiseEvents_length u (newlyActive (s.image u) n &&& (s.image u).watch) false (s.setImage u n)
  unfold ReportRoom at *
  have length : (s.statusTaken u n).rpb.queue.length ≤ s.rpb.queue.length + 1 := length
  omega

end

/-- What is handed over finds of the state before only images and reports changed. -/
structure StatusTaken (s x : State) (u : UnitNo) (n : Image) : Prop where
  rest  : ∃ i q, x = { s with uib := { s.uib with images := i }, rpb := q }
  image : ∃ fl v, x.image u = { n with events := fl, verifyEvent := v }
  room  : ReportRoom 2 s → ReportRoom 1 x
  agree : ResourcesAgree s → ResourcesAgree x

theorem statusTaken_taken {u : UnitNo} {n : Image} {s : State} (identity : n.identity = (s.image u).identity) :
    StatusTaken s (s.statusTaken u n) u n :=
  ⟨statusTaken_eq u n s, statusTaken_image u n s, statusTaken_room u n s, fun agree =>
    (agree.setImage identity).raiseEvents _ _ _⟩

/-- The event of a taken UNIT_STATUS of a VERIFIED unit leaves the images as it hands them over. -/
theorem statusEvent_uib {u : UnitNo} {st : Stage} {n : Image} {s : State} (verified : (s.image u).identity = .verified) :
    (statusEvent u st n s).uib = (s.statusTaken u n).uib := by
  have present : ¬(s.image u).identity = .absent := by rw [verified]; decide
  let e1 : Ev := handToSequencer u (s.image u) n st (.start (s.statusTaken u n))
  have handed : e1.s.uib = (s.statusTaken u n).uib := (handToSequencer_frame u (s.image u) n st (.start _)).uib
  have banded : (if n.band = (s.image u).band then e1 else bandChange u e1).s.uib = e1.s.uib := by
    split
    · rfl
    · exact (bandChange_frame u e1).uib
  unfold statusEvent
  dsimp only
  rw [if_neg present, if_pos verified, (closeEvent_frame _).uib, trigger_s]
  exact banded.trans handed

/-- Where the band is kept, the event is what its sequencer makes of the cell. -/
theorem statusEvent_kept {u : UnitNo} {st : Stage} {n : Image} {s : State} (verified : (s.image u).identity = .verified)
    (band : n.band = (s.image u).band) : statusEvent u st n s =
      closeEvent ((handToSequencer u (s.image u) n st (.start (s.statusTaken u n))).trigger
        ((s.image u).stale || permChanged (s.image u) n)) := by
  have present : ¬(s.image u).identity = .absent := by rw [verified]; decide
  unfold statusEvent
  dsimp only
  rw [if_neg present, if_pos verified, if_pos band]
  rfl

theorem Stage.ofCode_code {st : Stage} {b : Byte} (code : st.code = b) : Stage.ofCode b = some st := by
  subst code
  cases st <;> rfl

/-- The image at a taken UNIT_STATUS. -/
def State.statusImage (s : State) (u : UnitNo) (st : Stage) (fault : Byte) (power head : Half) (perm interlocks : Byte) :
    Image :=
  s.evaluated u ((s.image u).take s.tbs.plant st fault power head perm interlocks)

/-- A UNIT_STATUS past the part, of a unit it knows, is snooped and forwarded (R5, R8, R41). -/
theorem unitStatus_snooped {h : Hdr} {stage fault : Byte} {power head : Half} {perm interlocks : Byte} {pad : BitVec 144}
    {u : UnitNo} {st : Stage} {s : State} (past : DeliveredPast (cellUnitStatus h stage fault power head perm interlocks pad) s)
    (named : unitAt h.src s = some u) (code : st.code = stage) :
    exec (.unitStatus h stage fault power head perm interlocks pad) s =
      .next ((statusEvent u st (s.statusImage u st fault power head perm interlocks) (s.withLinkUp .dn)).forwardedUp
        (cellUnitStatus h stage fault power head perm interlocks pad)) := by
  have snoop : snoopUnitStatus h stage fault power head perm interlocks (s.withLinkUp .dn) =
      statusEvent u st (s.statusImage u st fault power head perm interlocks) (s.withLinkUp .dn) := by
    rw [snoopUnitStatus, show unitAt h.src (s.withLinkUp .dn) = some u from named, Stage.ofCode_code code]
    rfl
  obtain ⟨delivered, elsewhere⟩ := past
  refine (arriveDn_past (fun s => s) (snoopUnitStatus h stage fault power head perm interlocks) delivered elsewhere).trans ?_
  exact congrArg Host.Outcome.next ((if_pos (snooped_of_unitAt named)).trans (by rw [snoop]))

/-- A bit reported as it is held stays. -/
theorem Debounced.take_same {d : Nat} {r : Bool} {b : Debounced} (same : r = b.val) : (b.take d r).val = b.val := by
  rw [Debounced.take, if_pos same]

/-- A bit reported otherwise often enough changes. -/
theorem Debounced.take_ripe {d : Nat} {r : Bool} {b : Debounced} (other : r ≠ b.val) (ripe : d ≤ b.run + 1) :
    (b.take d r).val = r := by
  rw [Debounced.take, if_neg other, if_pos ripe]

end Sys2Proof.Machine
end

section
/-! What an arrival by progress comes to where no order stands: the sequencer in the state arrived in, its report, and its act on
the plan entry there (R117, R119 to R125, R128 to R131, R154, R155). -/

namespace Sys2Proof.Machine

-- The stage handed over (R136) ---------------------------------------------------------------------------------------------------

/-- Permissives that stay as they were hand over the stage alone. -/
theorem handToSequencer_stage {u : UnitNo} {i n : Image} {st : Stage} {e : Ev} (remote : n.perm.remote.val = i.perm.remote.val)
    (lockout : n.perm.lockout.val = i.perm.lockout.val) : handToSequencer u i n st e = takeStage u st n.fault e := by
  unfold handToSequencer
  dsimp only
  rw [if_pos remote.symm, if_pos lockout.symm]

/-- A stage is awaited in the timed states alone, and is never TRIP. -/
theorem awaited_timed {n : SeqState} {st : Stage} (awaits : n.awaited = some st) :
    n.stable = false ∧ (n.transition = true ∨ n = .stopping) ∧ st ≠ .trip := by
  cases n with
  | gRunup | gSync | gLoad | gUnload | pDewater | pRunup | pPrime | pUnload | stopping =>
    obtain rfl := Option.some.inj awaits
    decide
  | _ => cases awaits

/-- The awaited stage without a fault advances the sequencer. -/
theorem takeStage_awaited {u : UnitNo} {st : Stage} {e : Ev} (awaits : (e.s.seq u).state.awaited = some st) :
    takeStage u st 0 e = advance u e := by
  obtain ⟨unstable, timed, running⟩ := awaited_timed awaits
  have row : takeTimed u st 0 e = advance u e := by
    unfold takeTimed
    dsimp only
    rw [if_neg (by rintro (k | k); exacts [running k, k rfl]), if_pos awaits]
  unfold takeStage Ev.state
  dsimp only
  rw [unstable, if_neg Bool.false_ne_true, if_pos timed, row]

-- An arrival before the act ----------------------------------------------------------------------------------------------------------

/-- What an arrival in a stable state comes to before the sequencer acts there, its record `q`. -/
structure Arrived (x : State) (u : UnitNo) (q : Seq) (f : Ev) : Prop where
  agree : ResourcesAgree f.s
  frame : SeqFrame x f.s
  own   : f.s.seq u = q
  due   : f.due = []
  locks : q.state = .gOn ∨ q.state = .pOn ∨ f.s.pra.locks = x.pra.locks
  queue : ReportRoom 1 x →
    .unitState u (x.seq u).state q.state .reached (x.image u).stage (x.image u).fault ∈ f.s.rpb.queue

/-- A UNIT_STATE made after a silent change is in the queue. -/
theorem Silent.queuedUnitState {a x : State} (h : Silent a x) (frame : SeqFrame a x) (u : UnitNo) (n m : SeqState) (c : Cause)
    (room : ReportRoom 1 a) :
    .unitState u n m c (a.image u).stage (a.image u).fault ∈ (Machine.pushUnitState u n m c x).rpb.queue := by
  unfold Machine.pushUnitState
  rw [h.pushedQueue _ room, frame.image_eq]
  exact List.mem_append_right _ List.mem_cons_self

-- In G_ON or P_ON

/-- The lock passed on and min-run started, before the report (R120, R124). -/
def State.ranOn (u : UnitNo) (n : SeqState) (x : State) : State :=
  let f : Ev := releaseLock u (moveTo u n (.start x))
  f.s.setSeq u { f.s.seq u with minRun := some (x.unit u).minRun }

/-- The state of an arrival in G_ON or P_ON before its setpoint. -/
def State.onReported (u : UnitNo) (n : SeqState) (x : State) : State :=
  pushUnitState u (x.seq u).state n .reached (x.ranOn u n)

section
variable (u : UnitNo) (n : SeqState) (x : State)

theorem ranOn_frame : SeqFrame x (x.ranOn u n) :=
  ((moveTo_frame u n (.start x)).trans (releaseLock_frame u _)).trans (setSeq_frame u _ _ rfl)

theorem ranOn_silent : Silent x (x.ranOn u n) :=
  ((moveTo_silent u n (.start x)).trans (releaseLock_silent u _)).trans (.of_eq rfl)

theorem onReported_frame : SeqFrame x (x.onReported u n) := (ranOn_frame u n x).trans (pushUnitState_frame _ _ _ _ _)

theorem arrivedOn_s : ((Ev.start x).arrivedOn u n).s =
    if n = .gOn then initSetpoint u (x.onReported u n) else x.onReported u n := by
  show (if n = .gOn then _ else _ : Ev).s = _
  split <;> rfl

theorem arrivedOn_frame : SeqFrame (x.onReported u n) ((Ev.start x).arrivedOn u n).s := by
  rw [arrivedOn_s]
  split
  · exact initSetpoint_frame u _
  · exact .refl _

/-- Arrival in G_ON sets the setpoint from the measured power, in a band that allows turbine (R120, R167). -/
theorem arrivedOn_setpoint {b : Band} (band : x.bandOf u = some b) (turb : b.turb = true) :
    (((Ev.start x).arrivedOn u .gOn).s.ramp u).setpoint = some (b.clamp (x.image u).power) := by
  have frame := onReported_frame u .gOn x
  rw [arrivedOn_s, if_pos rfl, initSetpoint_setpoint u _ ((frame.bandOf_eq u).trans band) turb, frame.image_eq]

end

section
variable {u : UnitNo} {x : State} (agree : ResourcesAgree x)
include agree

theorem ranOn_seq (n : SeqState) (holds : (x.seq u).state.holdsLock = true) :
    (x.ranOn u n).seq u = { (x.seq u).leaveFor n with minRun := some (x.unit u).minRun } := by
  have moved : (moveTo u n (.start x)).s.seq u = (x.seq u).leaveFor n := by
    rw [State.seq, moveTo_seqs]
    exact PerUnit.get_set_self _ _ _
  have lock : (moveTo u n (.start x)).s.lockOf u = x.lockOf u :=
    lockOf_congr u (moveTo_frame u n (.start x)).tbs (by rw [moveTo_pra]; rfl)
  have left : (releaseLock u (moveTo u n (.start x))).s.seq u = (x.seq u).leaveFor n :=
    (releaseLock_others fun handed => agree.held.not_waiter (wait_of_holdsLock holds) _
      (List.mem_of_mem_head? (lock ▸ handed.2))).1.trans moved
  refine (State.setSeq_seq_self _ _ _).trans ?_
  rw [left]

/-- Arrival in G_ON or P_ON: the lock passed on, min-run started (R120, R124). -/
theorem arrivedOn_arrived {n : SeqState} (holds : (x.seq u).state.holdsLock = true) (on : n = .gOn ∨ n = .pOn) :
    Arrived x u { (x.seq u).leaveFor n with minRun := some (x.unit u).minRun } ((Ev.start x).arrivedOn u n) := by
  have own : ((Ev.start x).arrivedOn u n).s.seq u = (x.onReported u n).seq u := by
    rw [arrivedOn_s]
    split
    · rw [State.seq, initSetpoint_seqs, State.seq]
    · rfl
  refine ⟨ResourcesAgree.arrivedOn (e := .start x) agree holds, (onReported_frame u n x).trans (arrivedOn_frame u n x),
    own.trans ((pushReport_seq _ _ _).trans (ranOn_seq agree n holds)), ?_, on.imp_right .inl, fun room => ?_⟩
  · have none : (releaseLock u (moveTo u n (.start x))).due = [] := (releaseLock_owes u _).2.1
    show (if n = .gOn then _ else _ : Ev).due = _
    split <;> exact none
  · obtain ⟨rs, queue⟩ := (arrivedOn_frame u n x).queue
    rw [queue]
    exact List.mem_append_left _ ((ranOn_silent u n x).queuedUnitState (ranOn_frame u n x) u _ _ _ room)

/-- Arrival in air: a converter grant held ends (R122, R123). -/
theorem arrivedAir_arrived (n : SeqState) (was : (x.seq u).state = .gUnload ∨ (x.seq u).state = .pUnload ∨
    (x.seq u).state = .pRunup) : Arrived x u ((x.seq u).leaveFor n) ((Ev.start x).arrivedAir u n) := by
  let moved : Ev := moveTo u n (.start x)
  have frame : SeqFrame x (endGrant u moved).s := (moveTo_frame u n (.start x)).trans (endGrant_frame u moved)
  refine ⟨ResourcesAgree.arrivedAir (e := .start x) agree was, frame.trans (pushUnitState_frame _ _ _ _ _), ?_,
    (endGrant_owes u moved).2.1, .inr (.inr ?_), fun room => ?_⟩
  · refine (pushReport_seq _ _ _).trans ((endGrant_seq u moved u).trans ?_)
    rw [State.seq, moveTo_seqs]
    exact PerUnit.get_set_self _ _ _
  · refine (congrArg Pra.locks (pushReport_pra _ _)).trans ((endGrant_lists u moved).1.trans ?_)
    rw [moveTo_pra]
    rfl
  · exact ((moveTo_silent u n (.start x)).trans (endGrant_silent u moved)).queuedUnitState frame u _ _ _ room

/-- Arrival in STILL from STOPPING: min-still started (R125). -/
theorem arrivedStill_arrived (stops : (x.seq u).state = .stopping) : Arrived x u
    { (x.seq u).leaveFor .still with minStill := some (x.unit u).minStill } ((Ev.start x).arrivedStill u) := by
  let f : Seq → Seq := fun q => { q with minStill := some (x.unit u).minStill }
  have frame : SeqFrame x ((Ev.start x).moved u .still f).s := moved_frame u .still (.start x) fun _ => rfl
  refine ⟨ResourcesAgree.arrivedStill (e := .start x) agree stops, frame.trans (pushUnitState_frame _ _ _ _ _), ?_, rfl,
    .inr (.inr ?_), fun room => ?_⟩
  · exact (pushReport_seq _ _ _).trans (moved_seq_self u .still (.start x))
  · exact (congrArg Pra.locks (pushReport_pra _ _)).trans (congrArg Pra.locks (moved_pra u .still (f := f) (.start x)))
  · exact ((moveTo_silent u .still (.start x)).trans (.of_eq (b := ((Ev.start x).moved u .still f).s) rfl)).queuedUnitState
      frame u _ _ _ room

end

-- The act there (R117, R128 to R131) ---------------------------------------------------------------------------------------------------

/-- The table of acts in G_ON and P_ON reads a state's tables alone. -/
theorem ActedFrom.congr_on {a x t : State} {u : UnitNo} {n : SeqState} {e : Entry} {i : Image} {m : Timer} {p : Bool}
    (h : ActedFrom x t u n e i m p) (on : n = .gOn ∨ n = .pOn) (tbs : x.tbs = a.tbs) : ActedFrom a t u n e i m p := by
  have unit : x.unit u = a.unit u := by simp only [State.unit, tbs]
  have profile : x.profileOf u = a.profileOf u := by simp only [State.profileOf, State.unit, tbs]
  unfold ActedFrom at h ⊢
  rw [← unit, ← profile]
  generalize e.mode = mode at h ⊢
  obtain rfl | rfl := on
  all_goals cases mode <;> exact h

/-- What an arrival in a stable state leaves: the sequencer has acted on its plan entry there. -/
structure ActedThere (x : State) (u : UnitNo) (q : Seq) (t : State) : Prop where
  acted : ActedFrom x t u q.state (x.entry u) (x.image u) q.minStill q.pendLockout
  agree : ResourcesAgree t
  uib   : t.uib = x.uib
  queue : ReportRoom 1 x →
    .unitState u (x.seq u).state q.state .reached (x.image u).stage (x.image u).fault ∈ t.rpb.queue

theorem Arrived.acts {x : State} {u : UnitNo} {q : Seq} {f : Ev} (h : Arrived x u q f) (stable : q.state.stable = true) :
    ActedThere x u q (actStable u f).s := by
  have frame := actStable_frame u f
  have acts : ActsFrom u f (f.s.seq u).state (actStable u f).s :=
    actStable_acts h.agree.held (by rw [h.own]; exact stable)
  unfold ActsFrom at acts
  rw [h.own, h.frame.entry_eq, h.frame.image_eq] at acts
  refine ⟨?_, h.agree.actStable u, frame.uib.trans h.frame.uib, fun room => ?_⟩
  · obtain gOn | pOn | locks := h.locks
    · exact acts.congr_on (.inl gOn) h.frame.tbs
    · exact acts.congr_on (.inr pOn) h.frame.tbs
    · have lock : f.s.lockOf u = x.lockOf u := lockOf_congr u h.frame.tbs locks
      exact acts.congr h.frame.tbs (by rw [lock]) (by rw [lock])
  · obtain ⟨rs, queue⟩ := frame.queue
    rw [queue]
    exact List.mem_append_left _ (h.queue room)

/-- Without an order standing, the event of an arrival ends with the act. -/
theorem Arrived.ends {x : State} {u : UnitNo} {q : Seq} {f : Ev} (h : Arrived x u q f) (stable : q.state.stable = true)
    (stands : x.orderStands = false) (b : Bool) : closeEvent ((actStable u f).trigger b) = (actStable u f).s := by
  have due : (actStable u f).due = [] :=
    (((actStable_stableAct u f).turned h.agree.held (by rw [h.own]; exact stable)).due).trans h.due
  refine closeEvent_noOrder due ?_
  show (actStable u f).s.orderStands = false
  rw [State.orderStands, (h.frame.trans (actStable_frame u f)).dse]
  exact stands

/-- Where the state arrived in is the one asked for, in G_ON, P_ON and STILL, nothing is left to do. -/
theorem Arrived.stays {x : State} {u : UnitNo} {q : Seq} {f : Ev} (h : Arrived x u q f)
    (asked : q.state = .gOn ∧ (x.entry u).mode = .gen ∨ q.state = .pOn ∧ (x.entry u).mode = .pump ∨
      q.state = .still ∧ (x.entry u).mode = .still) : actStable u f = f := by
  have mode : (f.s.entry u).mode = (x.entry u).mode := by rw [h.frame.entry_eq]
  have state : (f.s.seq u).state = q.state := by rw [h.own]
  unfold actStable Ev.state
  obtain ⟨n, m⟩ | ⟨n, m⟩ | ⟨n, m⟩ := asked
  all_goals rw [state, mode, n, m]

end Sys2Proof.Machine
end

section
/-! The awaited stage where no order stands: each path's arrival, and the start queue joined at DRY (R119 to R125, R149, R154,
R155). -/

namespace Sys2Proof.Machine

-- The start queue joined (R154, R155) -------------------------------------------------------------------------------------------

/-- In P_CONVWAIT, at the tail of the start queue, before the grant rule. -/
def Ev.joined (u : UnitNo) (e : Ev) : Ev :=
  (enterTimed u .pConvwait e).map fun s => s.setPra { s.pra with startQueue := s.pra.startQueue ++ [u] }

/-- The grant rule leaves everyone's record but the head's. -/
theorem grantConverter_others {e : Ev} {v : UnitNo} (other : e.s.pra.startQueue.head? ≠ some v) :
    (grantConverter e).s.seq v = e.s.seq v := by
  unfold grantConverter
  split
  · cases queue : e.s.pra.startQueue with
    | nil => rfl
    | cons h rest =>
      have ne : v ≠ h := fun k => other (by rw [queue, k]; rfl)
      exact enterTimed_seq_ne _ _ ne
  · rfl

theorem grantConverter_owes (e : Ev) : (grantConverter e).due = e.due := by
  unfold grantConverter
  split
  · cases e.s.pra.startQueue with
    | nil => rfl
    | cons h rest => exact (enterTimed_owes h (n := .pRunup) _ rfl).2.1
  · rfl

section
variable {u : UnitNo} {e : Ev}

theorem joined_seq : (e.joined u).s.seq u =
    (e.s.seq u).timedIn .pConvwait (e.s.image u).stage (e.s.profileOf u).tConvwait := enterTimed_seq_self u .pConvwait e

theorem joined_pra : (e.joined u).s.pra = { e.s.pra with startQueue := e.s.pra.startQueue ++ [u] } := by
  show ({ (enterTimed u .pConvwait e).s.pra with
    startQueue := (enterTimed u .pConvwait e).s.pra.startQueue ++ [u] } : Pra) = _
  rw [enterTimed_pra]

theorem joined_frame : SeqFrame e.s (e.joined u).s := (enterTimed_frame u .pConvwait e).trans (setPra_frame _ _ rfl)

theorem joinStartQueue_owes : (joinStartQueue u e).due = e.due :=
  (grantConverter_owes (e.joined u)).trans (enterTimed_owes u (n := .pConvwait) e rfl).2.1

/-- The unit is granted the converter at once where it is available and nobody else waits (R154). -/
theorem joinStartQueue_granted (free : e.s.pra.arb = .free) (available : e.s.uib.conv.available = true)
    (empty : e.s.pra.startQueue = []) :
    let t := (joinStartQueue u e).s
    ((t.seq u).state = .pRunup ∧ (t.seq u).stageTimer = some (e.s.profileOf u).tPrun) ∧
      t.pra = { e.s.pra with arb := .connecting, holder := some u, startQueue := [] } ∧
      { slot := .converter, dest := e.s.tbs.plant.convAddr, cmd := .convConnect (e.s.unit u).addr } ∈ t.lpu.cmds ∧
      { slot := .stage u, dest := (e.s.unit u).addr, cmd := .converterStart } ∈ t.lpu.cmds := by
  have frame : SeqFrame e.s (e.joined u).s := joined_frame
  have pra : (e.joined u).s.pra = _ := joined_pra
  obtain ⟨granted, state, timer, cmds⟩ := grantConverter_head (e := e.joined u) (u := u) (rest := [])
    (by rw [pra]; exact free) (by rw [frame.uib]; exact available) (by rw [pra, empty]; rfl)
  rw [frame.profileOf_eq] at timer
  rw [frame.unit_eq, frame.tbs] at cmds
  rw [pra] at granted
  intro t
  have cmds : t.lpu.cmds = _ := cmds
  rw [cmds]
  exact ⟨⟨state, timer⟩, granted, mem_placeIn_of_ne (mem_placeIn_self _ _) (fun k => nomatch k), mem_placeIn_self _ _⟩

/-- Else it waits in P_CONVWAIT, at the tail of a queue whose head may be granted the converter (R154, R155). -/
theorem joinStartQueue_waits (waits : e.s.pra.arb = .free → e.s.uib.conv.available = true →
      ∃ h rest, e.s.pra.startQueue = h :: rest ∧ u ≠ h) :
    (joinStartQueue u e).s.seq u = (e.s.seq u).timedIn .pConvwait (e.s.image u).stage (e.s.profileOf u).tConvwait ∧
      (joinStartQueue u e).s.pra.startQueue =
        (if e.s.pra.arb = .free ∧ e.s.uib.conv.available = true then e.s.pra.startQueue.drop 1 else e.s.pra.startQueue) ++
          [u] := by
  have frame : SeqFrame e.s (e.joined u).s := joined_frame
  have pra : (e.joined u).s.pra = _ := joined_pra
  show (grantConverter (e.joined u)).s.seq u = _ ∧ (grantConverter (e.joined u)).s.pra.startQueue = _
  by_cases grants : e.s.pra.arb = .free ∧ e.s.uib.conv.available = true
  · obtain ⟨free, available⟩ := grants
    obtain ⟨h, rest, queue, other⟩ := waits free available
    have joins : (e.joined u).s.pra.startQueue = h :: (rest ++ [u]) := by rw [pra, queue]; rfl
    obtain ⟨granted, -⟩ := grantConverter_head (e := e.joined u) (by rw [pra]; exact free)
      (by rw [frame.uib]; exact available) joins
    rw [if_pos ⟨free, available⟩, granted, queue]
    exact ⟨(grantConverter_others (by rw [joins]; exact fun k => other (Option.some.inj k).symm)).trans joined_seq, rfl⟩
  · have idle : grantConverter (e.joined u) = e.joined u := grantConverter_idle fun free available =>
      absurd ⟨by rw [pra] at free; exact free, by rw [frame.uib] at available; exact available⟩ grants
    rw [if_neg grants, idle, pra]
    exact ⟨joined_seq, rfl⟩

end

-- The paths (R119 to R125) ----------------------------------------------------------------------------------------------------------

/-- The end of the event of an awaited stage. -/
def State.advanced (u : UnitNo) (b : Bool) (x : State) : State := closeEvent ((advance u (.start x)).trigger b)

section
variable {u : UnitNo} {x : State}

theorem advance_gRunup (was : (x.seq u).state = .gRunup) : advance u (.start x) = enterTimed u .gSync (.start x) := by
  unfold advance Ev.state
  rw [show ((Ev.start x).s.seq u).state = .gRunup from was]

theorem advance_pDewater (was : (x.seq u).state = .pDewater) : advance u (.start x) = joinStartQueue u (.start x) := by
  unfold advance Ev.state
  rw [show ((Ev.start x).s.seq u).state = .pDewater from was]

theorem advance_stopping (was : (x.seq u).state = .stopping) : advance u (.start x) = arriveStill u (.start x) := by
  unfold advance Ev.state
  rw [show ((Ev.start x).s.seq u).state = .stopping from was]

/-- The timed states that end in G_ON or P_ON. -/
def SeqState.EndsOn (was n : SeqState) : Prop := (was = .gSync ∨ was = .gLoad) ∧ n = .gOn ∨ was = .pPrime ∧ n = .pOn

/-- The timed states that end in air. -/
def SeqState.EndsInAir (was n : SeqState) : Prop := was = .gUnload ∧ n = .gAir ∨ (was = .pUnload ∨ was = .pRunup) ∧ n = .pAir

theorem advance_on {n : SeqState} (ends : (x.seq u).state.EndsOn n) :
    advance u (.start x) = arriveOn u n (.start x) := by
  have state : (Ev.start x).state u = (x.seq u).state := rfl
  unfold advance
  rw [state]
  obtain ⟨was | was, rfl⟩ | ⟨was, rfl⟩ := ends <;> rw [was]

theorem advance_air {n : SeqState} (ends : (x.seq u).state.EndsInAir n) :
    advance u (.start x) = arriveAir u n (.start x) := by
  have state : (Ev.start x).state u = (x.seq u).state := rfl
  unfold advance
  rw [state]
  obtain ⟨was, rfl⟩ | ⟨was | was, rfl⟩ := ends <;> rw [was]

end

section
variable {u : UnitNo} {x : State} (agree : ResourcesAgree x) (stands : x.orderStands = false) (b : Bool)
include agree stands

-- Into G_ON and P_ON

theorem advanced_on {n : SeqState} (ends : (x.seq u).state.EndsOn n) :
    let q : Seq := { (x.seq u).leaveFor n with minRun := some (x.unit u).minRun }
    ActedThere x u q (x.advanced u b) ∧
      ((n = .gOn ∧ (x.entry u).mode = .gen ∨ n = .pOn ∧ (x.entry u).mode = .pump) →
        x.advanced u b = ((Ev.start x).arrivedOn u n).s ∧ (x.advanced u b).seq u = q) := by
  have holds : (x.seq u).state.holdsLock = true := by
    obtain ⟨was | was, -⟩ | ⟨was, -⟩ := ends <;> rw [was] <;> rfl
  have on : n = .gOn ∨ n = .pOn := by
    obtain ⟨-, k⟩ | ⟨-, k⟩ := ends
    · exact .inl k
    · exact .inr k
  have stable : n.stable = true := by obtain rfl | rfl := on <;> rfl
  have arrived := arrivedOn_arrived agree holds on
  have event : x.advanced u b = (actStable u ((Ev.start x).arrivedOn u n)).s := by
    unfold State.advanced
    rw [advance_on ends, arriveOn_eq, arrived.ends stable stands]
  rw [event]
  refine ⟨arrived.acts stable, fun asked => ?_⟩
  rw [arrived.stays (asked.imp_right .inl)]
  exact ⟨rfl, arrived.own⟩

-- Into air

theorem advanced_air {n : SeqState} (ends : (x.seq u).state.EndsInAir n) :
    ActedThere x u ((x.seq u).leaveFor n) (x.advanced u b) ∧
      x.advanced u b = (actStable u ((Ev.start x).arrivedAir u n)).s := by
  have was : (x.seq u).state = .gUnload ∨ (x.seq u).state = .pUnload ∨ (x.seq u).state = .pRunup := by
    obtain ⟨k, -⟩ | ⟨k, -⟩ := ends
    · exact .inl k
    · exact .inr k
  have stable : n.stable = true := by obtain ⟨-, rfl⟩ | ⟨-, rfl⟩ := ends <;> rfl
  have arrived := arrivedAir_arrived agree n was
  have event : x.advanced u b = (actStable u ((Ev.start x).arrivedAir u n)).s := by
    unfold State.advanced
    rw [advance_air ends, arriveAir_eq, arrived.ends stable stands]
  exact ⟨event ▸ arrived.acts stable, event⟩

/-- A run-up that ends in air under a plan that keeps the unit there gives the converter back (R122, R149). -/
theorem advanced_pRunup (was : (x.seq u).state = .pRunup) (mode : (x.entry u).mode = .pumpAir)
    (holder : x.pra.holder = some u) : (x.advanced u b).pra.arb = .releasing ∧
      (x.advanced u b).pra.releaseTmr = some x.tbs.plant.releaseTime := by
  let moved : Ev := moveTo u .pAir (.start x)
  let f : Ev := (Ev.start x).arrivedAir u .pAir
  obtain ⟨-, event⟩ := advanced_air agree stands b (n := .pAir) (.inr ⟨.inr was, rfl⟩)
  have arrived := arrivedAir_arrived agree .pAir (.inr (.inr was))
  have lingers : actStable u f = stopLinger u f := by
    unfold actStable Ev.state
    rw [arrived.own, show (f.s.entry u).mode = .pumpAir by rw [arrived.frame.entry_eq, mode]]
    rfl
  have grant : HoldsGrant u moved.s := by
    obtain ⟨held, arb⟩ := agree.held.holdsGrant holder
    have pra : moved.s.pra = x.pra := moveTo_pra u .pAir (.start x)
    exact ⟨by rw [pra]; exact held, by rw [pra]; exact arb⟩
  have pra : (x.advanced u b).pra = (endGrant u moved).s.pra := by
    rw [event, lingers]
    exact pushReport_pra _ _
  have tbs : moved.s.tbs = x.tbs := (moveTo_frame u .pAir (.start x)).tbs
  rw [pra, endGrant_of_holder grant]
  exact ⟨rfl, by rw [← tbs]; rfl⟩

-- Into STILL

theorem advanced_still (was : (x.seq u).state = .stopping) :
    let q : Seq := { (x.seq u).leaveFor .still with minStill := some (x.unit u).minStill }
    ActedThere x u q (x.advanced u b) ∧ ((x.entry u).mode = .still → (x.advanced u b).seq u = q) := by
  have arrived := arrivedStill_arrived agree was
  have event : x.advanced u b = (actStable u ((Ev.start x).arrivedStill u)).s := by
    unfold State.advanced
    rw [advance_stopping was, arriveStill_eq, arrived.ends rfl stands]
  rw [event]
  refine ⟨arrived.acts rfl, fun asked => ?_⟩
  rw [arrived.stays (.inr (.inr ⟨rfl, asked⟩))]
  exact arrived.own

omit agree

-- Into synchronising, and at DRY

theorem advanced_gRunup (was : (x.seq u).state = .gRunup) : x.advanced u b = (enterTimed u .gSync (.start x)).s := by
  unfold State.advanced
  rw [advance_gRunup was]
  refine closeEvent_noOrder (enterTimed_owes u (n := .gSync) (.start x) rfl).2.1 ?_
  show (enterTimed u .gSync (.start x)).s.orderStands = false
  rw [State.orderStands, (enterTimed_frame u .gSync (.start x)).dse]
  exact stands

theorem advanced_pDewater (was : (x.seq u).state = .pDewater) : x.advanced u b = (joinStartQueue u (.start x)).s := by
  unfold State.advanced
  rw [advance_pDewater was]
  refine closeEvent_noOrder (joinStartQueue_owes (e := .start x)) ?_
  show (joinStartQueue u (.start x)).s.orderStands = false
  rw [State.orderStands, (joinStartQueue_frame u (.start x)).dse]
  exact stands

end

/-- A cell forwarded upward changes the forward queue, and flags where it does not fit (R8). -/
theorem forwardedUp_eq (c : Cell) (s : State) : ∃ q f a, s.forwardedUp c = { s with
    lpu := { s.lpu with upFwd := q }
    rpb := { s.rpb with flags := f, again := a } } := by
  unfold State.forwardedUp
  split
  · exact ⟨_, _, _, rfl⟩
  · exact ⟨_, _, _, rfl⟩

end Sys2Proof.Machine
end

section
/-! The event of a UNIT_STATUS whose cell carries an awaited stage, clause by clause (R42 to R46, R119 to R125). -/

namespace Sys2Proof.Machine

/-- The event of a UNIT_STATUS of a VERIFIED unit: the state `x` handed over, and the state `y` it ends in before the cell is
forwarded. -/
structure StatusEvent (s x y : State) (u : UnitNo) (st : Stage) (n : Image) : Prop where
  taken : StatusTaken (s.withLinkUp .dn) x u n
  uib   : y.uib = x.uib
  ends  : n.band = (s.image u).band → y = closeEvent ((handToSequencer u (s.image u) n st (.start x)).trigger
            ((s.image u).stale || permChanged (s.image u) n))

theorem unitStatus_event {h : Hdr} {stage fault : Byte} {power head : Half} {perm interlocks : Byte} {pad : BitVec 144}
    {u : UnitNo} {st : Stage} {s : State} (past : DeliveredPast (cellUnitStatus h stage fault power head perm interlocks pad) s)
    (named : unitAt h.src s = some u) (code : st.code = stage) (verified : (s.image u).identity = .verified) :
    ∃ x y, StatusEvent s x y u st (s.statusImage u st fault power head perm interlocks) ∧
      exec (.unitStatus h stage fault power head perm interlocks pad) s =
        .next (y.forwardedUp (cellUnitStatus h stage fault power head perm interlocks pad)) :=
  ⟨_, _, ⟨statusTaken_taken (s := s.withLinkUp .dn) rfl, statusEvent_uib (s := s.withLinkUp .dn) verified,
    statusEvent_kept (s := s.withLinkUp .dn) verified⟩, unitStatus_snooped past named code⟩

/-- Beside image and reports, what is handed over reads as before. -/
structure HandedOver (s x : State) (u : UnitNo) (n : Image) : Prop where
  seqs    : x.seqs = s.seqs
  tbs     : x.tbs = s.tbs
  pra     : x.pra = s.pra
  alc     : x.alc = s.alc
  dse     : x.dse = s.dse
  rmp     : x.rmp = s.rmp
  conv    : x.uib.conv = s.uib.conv
  stage   : (x.image u).stage = n.stage
  fault   : (x.image u).fault = n.fault
  power   : (x.image u).power = n.power
  band    : (x.image u).band = n.band
  perm    : (x.image u).perm = n.perm

theorem StatusTaken.handedOver {s x : State} {u : UnitNo} {n : Image} (h : StatusTaken (s.withLinkUp .dn) x u n) :
    HandedOver s x u n := by
  obtain ⟨fl, v, image⟩ := h.image
  obtain ⟨i, q, rest⟩ := h.rest
  refine ⟨?_, ?_, ?_, ?_, ?_, ?_, ?_, by rw [image], by rw [image], by rw [image], by rw [image], by rw [image]⟩
  all_goals rw [rest]; rfl

section
variable {s x : State} {u : UnitNo} {n : Image} (h : HandedOver s x u n)
include h

theorem HandedOver.seq : x.seq u = s.seq u := by rw [State.seq, h.seqs, State.seq]

theorem HandedOver.unit : x.unit u = s.unit u := by rw [State.unit, h.tbs, State.unit]

theorem HandedOver.profile : x.profileOf u = s.profileOf u := by
  simp only [State.profileOf, State.unit, h.tbs]

theorem HandedOver.entry : x.entry u = s.entry u := by rw [State.entry, h.alc, State.entry]

theorem HandedOver.orderStands : x.orderStands = s.orderStands := by rw [State.orderStands, h.dse, State.orderStands]

end

/-- What an awaited stage brings, the permissives as they were and no order standing. -/
theorem StatusEvent.advances {s x y : State} {u : UnitNo} {st : Stage} {n : Image} (h : StatusEvent s x y u st n)
    (band : n.band = (s.image u).band) (remote : n.perm.remote.val = (s.image u).perm.remote.val)
    (lockout : n.perm.lockout.val = (s.image u).perm.lockout.val) (fault : n.fault = 0)
    (awaits : (s.seq u).state.awaited = some st) : ∃ b, y = x.advanced u b := by
  have own : x.seq u = s.seq u := h.taken.handedOver.seq
  have row : handToSequencer u (s.image u) n st (.start x) = advance u (.start x) := by
    rw [handToSequencer_stage remote lockout, fault]
    exact takeStage_awaited (by rw [show (Ev.start x).s.seq u = s.seq u from own]; exact awaits)
  exact ⟨_, (h.ends band).trans (by rw [row]; rfl)⟩

/-- The act of an arrival, as the state the cell is forwarded in has it. -/
theorem ActedFrom.forwarded {s y : State} {u : UnitNo} {n : SeqState} {e : Entry} {i : Image} {m : Timer} {p : Bool}
    (h : ActedFrom s y u n e i m p) (c : Cell) : ActedFrom s (y.forwardedUp c) u n e i m p := by
  obtain ⟨q, f, a, forwarded⟩ := forwardedUp_eq c y
  rw [forwarded]
  exact h

/-- Every arrival in a stable state, its record before the act. -/
theorem advanced_acted {u : UnitNo} {x : State} (agree : ResourcesAgree x) (stands : x.orderStands = false) (b : Bool)
    {n : SeqState} (ends : (x.seq u).state.EndsOn n ∨ (x.seq u).state.EndsInAir n ∨
      (x.seq u).state = .stopping ∧ n = .still) :
    ∃ q : Seq, ActedThere x u q (x.advanced u b) ∧ q.state = n ∧ q.pendLockout = (x.seq u).pendLockout ∧
      q.minStill = if (x.seq u).state = .stopping then some (x.unit u).minStill else (x.seq u).minStill := by
  obtain on | air | ⟨was, rfl⟩ := ends
  · have runs : (x.seq u).state ≠ .stopping := by obtain ⟨k | k, -⟩ | ⟨k, -⟩ := on <;> rw [k] <;> decide
    exact ⟨_, (advanced_on agree stands b on).1, rfl, rfl, (if_neg runs).symm⟩
  · have runs : (x.seq u).state ≠ .stopping := by obtain ⟨k, -⟩ | ⟨k | k, -⟩ := air <;> rw [k] <;> decide
    exact ⟨_, (advanced_air agree stands b air).1, rfl, rfl, (if_neg runs).symm⟩
  · exact ⟨_, (advanced_still agree stands b was).1, rfl, rfl, (if_pos was).symm⟩

end Sys2Proof.Machine
end

section
/-! An adoption by a UNIT_STATUS: of a LOCAL sequencer at the return of REMOTE, of an UNSETTLED one at a stage that settles it
(R84, R85, R89, R114 to R117, R144, R167). -/

namespace Sys2Proof.Machine

-- The state adopted (R115) -----------------------------------------------------------------------------------------------------------

/-- The state adopted from a stage and fault code under REMOTE. -/
theorem adoptedState_remote {i : Image} {st : Stage} (remote : i.perm.remote.val = true) (stage : i.stage = some st) :
    adoptedState i =
      if st = .trip ∨ i.fault ≠ 0 then .tripped
      else if st = .still then .still
      else if st = .turbOn then .gOn
      else if st = .turbAir then .gAir
      else if st = .pumpAir then .pAir
      else if st = .pumpOn then .pOn
      else .unsettled := by
  rw [adoptedState_eq, remote, stage, if_neg (by decide)]
  simp only [Option.some.injEq]

/-- A stage settles a sequencer: it is a stable one or TRIP, or comes with a fault (R114). -/
def Stage.Settles (st : Stage) (fault : Byte) : Prop := st.stable = true ∨ st = .trip ∨ fault ≠ 0

/-- A state adopted without a fault is stable and has that stage for its own, or the stage does not settle. -/
theorem adoptedState_own {i : Image} {st : Stage} (remote : i.perm.remote.val = true) (stage : i.stage = some st)
    (sound : ¬(st = .trip ∨ i.fault ≠ 0)) : (adoptedState i).stable = true ∧ (adoptedState i).ownStage = some st ∨
      adoptedState i = .unsettled ∧ st.stable = false := by
  rw [adoptedState_remote remote stage, if_neg sound]
  cases st with
  | trip => exact absurd (.inl rfl) sound
  | still | turbOn | turbAir | pumpAir | pumpOn => exact .inl (by decide)
  | turbSpin | dry | stopping => exact .inr (by decide)

/-- What the stage adopted from then says to the state adopted: nothing new (R136, R137). -/
theorem takeStage_adopted {u : UnitNo} {i : Image} {st : Stage} {e : Ev} (remote : i.perm.remote.val = true)
    (stage : i.stage = some st) (state : (e.s.seq u).state = adoptedState i) : takeStage u st i.fault e = e := by
  by_cases faulty : st = .trip ∨ i.fault ≠ 0
  · have tripped : (e.s.seq u).state = .tripped := by rw [state, adoptedState_remote remote stage, if_pos faulty]
    unfold takeStage Ev.state
    rw [tripped]
    rfl
  · obtain ⟨stable, own⟩ | ⟨unsettled, unstable⟩ := adoptedState_own remote stage faulty
    · unfold takeStage takeStable Ev.state
      dsimp only
      rw [state, if_pos stable, if_neg faulty, if_pos own]
    · unfold takeStage takeUnsettled Ev.state
      rw [state, unsettled]
      have unsettling : ¬(st.stable = true ∨ st = .trip ∨ i.fault ≠ 0) := fun k =>
        faulty (k.resolve_left (by rw [unstable]; exact Bool.false_ne_true))
      exact if_neg unsettling

/-- An UNSETTLED sequencer is settled by such a stage alone. -/
theorem adoptedState_settled {i : Image} {st : Stage} (remote : i.perm.remote.val = true) (stage : i.stage = some st)
    (settles : st.Settles i.fault) : adoptedState i ≠ .unsettled := by
  by_cases faulty : st = .trip ∨ i.fault ≠ 0
  · rw [adoptedState_remote remote stage, if_pos faulty]
    decide
  · have settled : st.stable = true := settles.resolve_right faulty
    obtain ⟨stable, -⟩ | ⟨-, unstable⟩ := adoptedState_own remote stage faulty
    · intro k
      rw [k] at stable
      cases stable
    · rw [unstable] at settled
      cases settled

theorem adoptedState_notLocal {i : Image} (remote : i.perm.remote.val = true) : adoptedState i ≠ .localCmd := by
  rw [adoptedState_eq, remote, if_neg (by decide)]
  repeat' split
  all_goals decide

-- The cell handed over (R114, R142) --------------------------------------------------------------------------------------------------

/-- REMOTE returns to a LOCAL sequencer: it adopts, and the stage in the same cell tells it nothing more. -/
theorem handToSequencer_returns {u : UnitNo} {i n : Image} {st : Stage} {x : State} (away : i.perm.remote.val = false)
    (remote : n.perm.remote.val = true) (lockout : n.perm.lockout.val = i.perm.lockout.val)
    (was : (x.seq u).state = .localCmd) (runs : x.dse.engine ≠ .paused) (perm : (x.image u).perm = n.perm)
    (stage : (x.image u).stage = some st) (fault : (x.image u).fault = n.fault) :
    handToSequencer u i n st (.start x) = adopt u (.start x) := by
  have adopts : takeRemote u true (.start x) = adopt u (.start x) := by
    unfold takeRemote
    dsimp only
    rw [if_pos rfl, if_pos ⟨was, runs⟩]
  have state : ((adopt u (.start x)).s.seq u).state = adoptedState (x.image u) := by
    rw [State.seq, adopt_seqs, PerUnit.get_set_self]
    rfl
  unfold handToSequencer
  dsimp only
  rw [away, remote, if_neg Bool.false_ne_true, if_pos lockout.symm, adopts, ← fault]
  exact takeStage_adopted (by rw [perm]; exact remote) stage state

/-- A stage that settles an UNSETTLED sequencer makes it adopt. -/
theorem handToSequencer_settles {u : UnitNo} {i n : Image} {st : Stage} {x : State}
    (remote : n.perm.remote.val = i.perm.remote.val) (lockout : n.perm.lockout.val = i.perm.lockout.val)
    (was : (x.seq u).state = .unsettled) (settles : st.Settles n.fault) :
    handToSequencer u i n st (.start x) = adopt u (.start x) := by
  have state : (Ev.start x).state u = .unsettled := was
  rw [handToSequencer_stage remote lockout]
  unfold takeStage takeUnsettled
  rw [state]
  exact if_pos settles

-- The event of the adoption --------------------------------------------------------------------------------------------------------

/-- The event of an adoption before its end. -/
def Ev.adoption (u : UnitNo) (b : Bool) (x : State) : Ev := (adopt u (.start x)).trigger b

section
variable (u : UnitNo) (b : Bool) (x : State)

theorem adoption_frame : SeqFrame x (Ev.adoption u b x).s := adopt_frame u (.start x)

theorem adoption_seqs : (Ev.adoption u b x).s.seqs =
    x.seqs.set u (.adopting (adoptedState (x.image u)) (x.image u).perm.lockout.val) := adopt_seqs u (.start x)

theorem adoption_seq : (Ev.adoption u b x).s.seq u =
    .adopting (adoptedState (x.image u)) (x.image u).perm.lockout.val := by
  rw [State.seq, adoption_seqs]
  exact PerUnit.get_set_self _ _ _

theorem adoption_owes : (Ev.adoption u b x).due = [u] ∧
    ((Ev.adoption u b x).settle = true ↔ (adoptedState (x.image u)).stable = true) := by
  obtain ⟨due, settle⟩ := adopt_owes u (.start x)
  refine ⟨due, ?_⟩
  show (adopt u (.start x)).settle = true ↔ _
  rw [settle]
  show (false || _) = true ↔ _
  rw [Bool.false_or]
  rfl

/-- An UNSETTLED sequencer's adoption raises a trigger, as the event may do anyway (R84). -/
theorem adoption_trig (raised : b = true ∨ (x.seq u).state = .unsettled ∧ adoptedState (x.image u) ≠ .unsettled) :
    (Ev.adoption u b x).trig = true := by
  have own : b = false → (x.seq u).state = .unsettled ∧ adoptedState (x.image u) ≠ .unsettled := fun k =>
    raised.resolve_left (by rw [k]; exact Bool.false_ne_true)
  cases b with
  | true => exact Bool.or_true _
  | false =>
    obtain ⟨was, settled⟩ := own rfl
    have settles : ((x.seq u).state == .unsettled && adoptedState (x.image u) != .unsettled) = true := by
      rw [was]
      exact bne_iff_ne.mpr settled
    show (((false || _) || (_ || ((x.seq u).state == .unsettled && adoptedState (x.image u) != .unsettled))) || false) = true
    rw [settles, Bool.or_true, Bool.or_true]
    rfl

end

section
variable {u : UnitNo} {x : State} (b : Bool)

/-- An adoption under REMOTE in another state than before is reported ADOPTED (R144). -/
theorem adoption_queue (remote : (x.image u).perm.remote.val = true) (moves : adoptedState (x.image u) ≠ (x.seq u).state)
    (room : ReportRoom 1 x) : .unitState u (x.seq u).state (adoptedState (x.image u)) .adopted (x.image u).stage
      (x.image u).fault ∈ (Ev.adoption u b x).s.rpb.queue := by
  have near : ¬adoptedState ((Ev.start x).s.image u) = .localCmd := adoptedState_notLocal remote
  have silent : Silent x ((Ev.start x).adopting u).s := by
    unfold Ev.adopting
    dsimp only
    rw [if_neg near]
    exact (moveTo_silent u _ (.start x)).trans (.of_eq rfl)
  have pushed := silent.queuedUnitState (adopting_frame u (.start x)) u (x.seq u).state (adoptedState (x.image u)) .adopted room
  have reported : ((Ev.start x).adoptReported u).s = pushUnitState u (x.seq u).state (adoptedState (x.image u)) .adopted
      ((Ev.start x).adopting u).s := by
    have other : ¬adoptedState ((Ev.start x).s.image u) = (Ev.start x).state u := moves
    unfold Ev.adoptReported
    dsimp only
    rw [if_neg other, if_neg near]
    rfl
  show _ ∈ (adopt u (.start x)).s.rpb.queue
  rw [adopt_s, reported]
  split
  · obtain ⟨rs, queue⟩ := (initSetpoint_frame u (pushUnitState u (x.seq u).state (adoptedState (x.image u)) .adopted
      ((Ev.start x).adopting u).s)).queue
    rw [queue]
    exact List.mem_append_left _ pushed
  · exact pushed

/-- The setpoint that an adoption in G_ON sets (R115, R167). -/
theorem adoption_setpoint (on : adoptedState (x.image u) = .gOn) {bd : Band} (band : x.bandOf u = some bd)
    (turb : bd.turb = true) : ((Ev.adoption u b x).s.ramp u).setpoint = some (bd.clamp (x.image u).power) :=
  adopt_setpoint u (.start x) on band turb

variable (agree : ResourcesAgree x) (awake : (x.seq u).state = .localCmd ∨ (x.seq u).state = .unsettled)
include agree awake

theorem adoption_held : ResourcesHeld (Ev.adoption u b x).s := by
  have nothing : (x.seq u).state.holdsNothing = true ∧ (x.seq u).state.holdsLock = false := by
    obtain k | k := awake <;> rw [k] <;> decide
  exact agree.held.setOwn (agree.held.holdsNothing nothing.1) (agree.held.not_lockHolder nothing.2)
    (adopt_pra u (.start x)) (adoption_frame u b x).tbs (adoption_seqs u b x)

/-- With no order standing, the adopting sequencer acts, alone (R116, R117). -/
theorem adoption_noOrder (stands : x.orderStands = false) :
    closeEvent (.adoption u b x) = (act u (.adoption u b x)).s := by
  have stands : (Ev.adoption u b x).s.orderStands = false := by
    rw [State.orderStands, (adoption_frame u b x).dse]
    exact stands
  rw [closeEvent_eq_turns stands, actAll_single (adoption_held b agree awake) (adoption_owes u b x).1]
  refine closeSettling_unordered ?_
  rw [State.orderStands, (act_frame u (.adoption u b x)).dse]
  exact stands

/-- The adopted record stays where its state takes no action, and, with no order standing, where the plan asks for the state
adopted (R116, R117). -/
theorem adoption_record (stands : x.orderStands = false) (h : let n := adoptedState (x.image u)
    let m := (x.entry u).mode
    n = .unsettled ∨ n = .tripped ∨ (n = .still ∧ m = .still) ∨ (n = .gOn ∧ m = .gen) ∨ (n = .gAir ∧ m = .genAir) ∨
      (n = .pAir ∧ m = .pumpAir) ∨ (n = .pOn ∧ m = .pump)) : (closeEvent (.adoption u b x)).seq u =
        .adopting (adoptedState (x.image u)) (x.image u).perm.lockout.val := by
  have own := adoption_seq u b x
  have state : ((Ev.adoption u b x).s.seq u).state = adoptedState (x.image u) := by
    rw [own]
    rfl
  have passive (k : (adoptedState (x.image u)).passive = true) : (closeEvent (.adoption u b x)).seq u = _ :=
    (closeEvent_apart (.adoption u b x) (by rw [state]; exact k)
      ((adoption_held b agree awake).holdsNothing (by rw [state]; exact adoptedState_holdsNothing _)).waits).2.1
  obtain unsettled | tripped | asked := h
  · exact (passive (passive_of_adopted (.inl unsettled))).trans own
  · exact (passive (passive_of_adopted (.inr (.inl tripped)))).trans own
  · rw [adoption_noOrder b agree awake stands]
    refine (act_asked (by rw [own]; rfl) ?_).trans own
    rw [state, (adoption_frame u b x).entry_eq]
    exact asked

/-- Where GEN is planned, the setpoint of an adoption in G_ON stays as it was set (R117). -/
theorem adoption_generates (stands : x.orderStands = false) (on : adoptedState (x.image u) = .gOn)
    (mode : (x.entry u).mode = .gen) : closeEvent (.adoption u b x) = (Ev.adoption u b x).s := by
  have state : ((Ev.adoption u b x).s.seq u).state = .gOn := by
    rw [adoption_seq]
    exact on
  rw [adoption_noOrder b agree awake stands,
    act_generating state (by rw [(adoption_frame u b x).entry_eq]; exact mode)]

end

/-- A cell from which the sequencer adopts: REMOTE is back for a LOCAL one, or an UNSETTLED one is settled (R114). -/
def AdoptsFrom (s : State) (u : UnitNo) (n : Image) (st : Stage) : Prop :=
  (s.seq u).state = .localCmd ∧ (s.image u).perm.remote.val = false ∨
    (s.seq u).state = .unsettled ∧ (s.image u).perm.remote.val = true ∧ st.Settles n.fault

theorem StatusEvent.adopts {s x y : State} {u : UnitNo} {st : Stage} {n : Image} (h : StatusEvent s x y u st n)
    (band : n.band = (s.image u).band) (remote : n.perm.remote.val = true)
    (lockout : n.perm.lockout.val = (s.image u).perm.lockout.val) (runs : s.dse.engine ≠ .paused) (stage : n.stage = some st)
    (adopts : AdoptsFrom s u n st) : ∃ b, y = closeEvent (.adoption u b x) ∧ (Ev.adoption u b x).trig = true := by
  have handed := h.taken.handedOver
  have stageX : (x.image u).stage = some st := handed.stage.trans stage
  obtain ⟨was, away⟩ | ⟨was, near, settles⟩ := adopts
  · have row : handToSequencer u (s.image u) n st (.start x) = adopt u (.start x) :=
      handToSequencer_returns away remote lockout (by rw [handed.seq]; exact was) (by rw [handed.dse]; exact runs) handed.perm
        stageX handed.fault
    have changed : permChanged (s.image u) n = true := by
      have differs : ((s.image u).perm.remote.val != n.perm.remote.val) = true := by rw [away, remote]; rfl
      rw [permChanged, differs, Bool.or_true]
      rfl
    exact ⟨_, (h.ends band).trans (by rw [row]; rfl), adoption_trig u _ x (.inl (by rw [changed, Bool.or_true]))⟩
  · have row : handToSequencer u (s.image u) n st (.start x) = adopt u (.start x) :=
      handToSequencer_settles (remote.trans near.symm) lockout (by rw [handed.seq]; exact was) settles
    have settled : adoptedState (x.image u) ≠ .unsettled :=
      adoptedState_settled (by rw [handed.perm]; exact remote) stageX (by rw [handed.fault]; exact settles)
    exact ⟨_, (h.ends band).trans (by rw [row]; rfl),
      adoption_trig u _ x (.inr ⟨by rw [handed.seq]; exact was, settled⟩)⟩

end Sys2Proof.Machine
end

section
/-! The awaited stage and adoption by a UNIT_STATUS, settled (R114 to R117, R119 to R125, R144, R154, R155). -/

namespace Sys2Proof.Machine

/-- What the event of an awaited stage leaves as it was. -/
theorem advanced_event (u : UnitNo) (b : Bool) (x : State) : EventFrame x (x.advanced u b) :=
  (advance_frame u (.start x)).event.trans (closeEvent_frame ((advance u (.start x)).trigger b))

theorem advanced_agree {u : UnitNo} {x : State} (agree : ResourcesAgree x) (b : Bool) : ResourcesAgree (x.advanced u b) :=
  ResourcesAgree.closeEvent (e := (advance u (.start x)).trigger b) (ResourcesAgree.advance (e := .start x) agree)

theorem advanced_synchronises {u : UnitNo} {x : State} (stands : x.orderStands = false) (b : Bool)
    (was : (x.seq u).state = .gRunup) : Entered (x.advanced u b) u .gSync .sync (x.profileOf u).tSync := by
  rw [advanced_gRunup stands b was]
  exact enterTimed_entered u (n := .gSync) (.start x) rfl

/-- The arrivals in stable states, by the state that they are in at last. -/
theorem SeqState.ends_cases {was n : SeqState} (h : (was = .gSync ∧ n = .gOn) ∨ (was = .gLoad ∧ n = .gOn) ∨
    (was = .pPrime ∧ n = .pOn) ∨ (was = .gUnload ∧ n = .gAir) ∨ (was = .pUnload ∧ n = .pAir) ∨ (was = .pRunup ∧ n = .pAir) ∨
    (was = .stopping ∧ n = .still)) : was.EndsOn n ∨ was.EndsInAir n ∨ was = .stopping ∧ n = .still := by
  obtain ⟨was, on⟩ | ⟨was, on⟩ | on | air | ⟨was, air⟩ | ⟨was, air⟩ | still := h
  · exact .inl (.inl ⟨.inl was, on⟩)
  · exact .inl (.inl ⟨.inr was, on⟩)
  · exact .inl (.inr on)
  · exact .inr (.inl (.inl air))
  · exact .inr (.inl (.inr ⟨.inl was, air⟩))
  · exact .inr (.inl (.inr ⟨.inr was, air⟩))
  · exact .inr (.inr still)

/-- An arrival in air under a plan that keeps the unit there. -/
theorem advanced_staysInAir {u : UnitNo} {x : State} (agree : ResourcesAgree x) (stands : x.orderStands = false) (b : Bool)
    {n : SeqState} (ends : (x.seq u).state.EndsInAir n)
    (asked : n = .gAir ∧ (x.entry u).mode = .genAir ∨ n = .pAir ∧ (x.entry u).mode = .pumpAir) :
    ((x.advanced u b).seq u).state = n := (advanced_air agree stands b ends).1.acted.inAir_stays asked

/-- The converter is granted at once exactly where it is available and nobody waits (R154, R155). -/
theorem advanced_joins {u : UnitNo} {x : State} (agree : ResourcesAgree x) (stands : x.orderStands = false) (b : Bool)
    (was : (x.seq u).state = .pDewater) :
    let t := x.advanced u b
    let available := x.pra.arb = .free ∧ x.uib.conv.available = true
    (available ∧ x.pra.startQueue = [] → ((t.seq u).state = .pRunup ∧ (t.seq u).stageTimer = some (x.profileOf u).tPrun) ∧
      t.pra = { x.pra with arb := .connecting, holder := some u, startQueue := [] } ∧
      { slot := .converter, dest := x.tbs.plant.convAddr, cmd := .convConnect (x.unit u).addr } ∈ t.lpu.cmds ∧
      { slot := .stage u, dest := (x.unit u).addr, cmd := .converterStart } ∈ t.lpu.cmds) ∧
    (¬(available ∧ x.pra.startQueue = []) →
      t.seq u = (x.seq u).timedIn .pConvwait (x.image u).stage (x.profileOf u).tConvwait ∧
        t.pra.startQueue = (if available then x.pra.startQueue.drop 1 else x.pra.startQueue) ++ [u]) := by
  rw [advanced_pDewater stands b was]
  refine ⟨fun ⟨⟨free, available⟩, empty⟩ => joinStartQueue_granted (e := .start x) free available empty, fun no =>
    joinStartQueue_waits (e := .start x) fun free available => ?_⟩
  cases queue : x.pra.startQueue with
  | nil => exact absurd ⟨⟨free, available⟩, queue⟩ no
  | cons h rest =>
    refine ⟨h, rest, queue, fun k => ?_⟩
    have waits : (x.seq h).state = .pConvwait := agree.queueState h (by rw [queue]; exact List.mem_cons_self)
    rw [← k, was] at waits
    cases waits

/-- The stages and faults that settle an UNSETTLED sequencer. -/
theorem Stage.settles_of_cases {st : Stage} {fault : Byte} (h : st = .still ∨ st = .turbOn ∨ st = .turbAir ∨
    st = .pumpAir ∨ st = .pumpOn ∨ st = .trip ∨ fault ≠ 0) : st.Settles fault := by
  obtain rfl | rfl | rfl | rfl | rfl | faulty := h
  · exact .inl rfl
  · exact .inl rfl
  · exact .inl rfl
  · exact .inl rfl
  · exact .inl rfl
  · exact .inr faulty

/-- Settles O47: a stage awaited is an arrival and the act there, or a place in the start queue; an adoption is the adopted
record with its act, or the run on it. -/
theorem awaitedStageAdvances : Obligations.AwaitedStageAdvances := by
  refine ⟨?_, ?_⟩
  · intro h stage power head perm interlocks pad u st s c past named code verified remote lockout stands agree awaits
    obtain ⟨x, y, event, hexec⟩ := unitStatus_event (fault := 0) past named code verified
    have handed := event.taken.handedOver
    have imaged : (y.forwardedUp c).image u = x.image u := by rw [State.image, forwardedUp_uib, event.uib, State.image]
    refine ⟨_, hexec, fun band => ?_⟩
    rw [imaged] at band ⊢
    obtain ⟨b, rfl⟩ := event.advances (handed.band.symm.trans band) (Debounced.take_same remote)
      (Debounced.take_same lockout) rfl awaits
    have agreed : ResourcesAgree x := event.taken.agree (agree.withLinkUp .dn)
    have room := event.taken.room
    have standing : x.orderStands = false := handed.orderStands.trans stands
    have holds : ResourcesAgree (x.advanced u b) := advanced_agree agreed b
    have frame : EventFrame x (x.advanced u b) := advanced_event u b x
    have stage : (x.image u).stage = some st := handed.stage
    have fault : (x.image u).fault = 0 := handed.fault
    have power : (x.image u).power = power.toInt := handed.power
    obtain ⟨fw, fl, ag, forwarded⟩ := forwardedUp_eq c (x.advanced u b)
    intro was mode e p
    have here : (x.seq u).state = was := by rw [handed.seq]
    have planned : (x.entry u).mode = mode := by rw [handed.entry]
    have imageT : (x.advanced u b).image u = x.image u := by rw [State.image, frame.uib, State.image]
    have unitT : (x.advanced u b).unit u = s.unit u := by rw [State.unit, frame.tbs]; exact handed.unit
    have bandT : (x.advanced u b).bandOf u = x.bandOf u := by simp only [State.bandOf, imageT, State.unit, frame.tbs]
    rw [forwarded]
    refine ⟨fun k => ?_, fun k m => ?_, fun k m => ?_, fun n ends => ?_, fun k m => ?_, fun k m => ?_, fun k m => ?_, fun k => ?_,
      fun k m => ?_⟩
    · obtain ⟨state, timer, prior, command⟩ := advanced_synchronises standing b (here.trans k)
      rw [imageT, stage] at prior
      rw [unitT] at command
      rw [handed.profile] at timer
      have awaited : SeqState.gRunup.awaited = some st := k ▸ awaits
      exact ⟨state, timer, prior.trans awaited.symm, command⟩
    · obtain ⟨-, stays⟩ := advanced_on agreed standing b (n := .gOn) (.inl ⟨k.imp here.trans here.trans, rfl⟩)
      obtain ⟨arrives, record⟩ := stays (.inl ⟨rfl, planned.trans m⟩)
      rw [handed.unit] at record
      refine ⟨congrArg Seq.state record, congrArg Seq.stageTimer record, congrArg Seq.minRun record,
        holds.held.not_lockHolder (by rw [record]; rfl), fun bd named turb => ?_⟩
      have set := arrivedOn_setpoint u x (bandT.symm.trans named) turb
      rw [← arrives, power] at set
      exact set
    · obtain ⟨-, stays⟩ := advanced_on agreed standing b (n := .pOn) (.inr ⟨here.trans k, rfl⟩)
      obtain ⟨-, record⟩ := stays (.inr ⟨rfl, planned.trans m⟩)
      rw [handed.unit] at record
      exact ⟨congrArg Seq.state record, congrArg Seq.stageTimer record, congrArg Seq.minRun record,
        holds.held.not_lockHolder (by rw [record]; rfl)⟩
    · obtain ⟨q, ⟨acted, -, -, queue⟩, rfl, pend, minStill⟩ :=
        advanced_acted agreed standing b (here.symm ▸ SeqState.ends_cases ends)
      have lock : x.lockOf u = s.lockOf u := lockOf_congr u handed.tbs (by rw [handed.pra])
      rw [pend, minStill, here, handed.seq, handed.unit, handed.entry] at acted
      rw [here, stage, fault] at queue
      exact ⟨acted.congr handed.tbs (by rw [lock]) (by rw [lock]), fun enough => queue (room enough)⟩
    · exact advanced_staysInAir agreed standing b (.inl ⟨here.trans k, rfl⟩) (.inl ⟨rfl, planned.trans m⟩)
    · exact advanced_staysInAir agreed standing b (.inr ⟨.inl (here.trans k), rfl⟩) (.inr ⟨rfl, planned.trans m⟩)
    · have stays := advanced_staysInAir agreed standing b (.inr ⟨.inr (here.trans k), rfl⟩) (.inr ⟨rfl, planned.trans m⟩)
      refine ⟨stays, holds.held.not_holder (by rw [stays]; decide), fun holder => ?_⟩
      have released := advanced_pRunup agreed standing b (here.trans k) (planned.trans m) (by rw [handed.pra]; exact holder)
      rw [handed.tbs] at released
      exact released
    · have joins := advanced_joins agreed standing b (here.trans k)
      rw [handed.pra, handed.conv, handed.tbs, handed.unit, handed.profile, stage] at joins
      simp only [available_iff] at joins
      have awaited : SeqState.pDewater.awaited = some st := k ▸ awaits
      obtain ⟨granted, waits⟩ := joins
      refine ⟨fun now => ?_, fun no => ?_⟩
      · obtain ⟨⟨state, timer⟩, pra, connect, start⟩ := granted now
        exact ⟨state, timer, congrArg Pra.arb pra, congrArg Pra.holder pra, congrArg Pra.startQueue pra, connect, start⟩
      · obtain ⟨record, queue⟩ := waits no
        exact ⟨congrArg Seq.state record, congrArg Seq.stageTimer record,
          (congrArg Seq.prior record).trans awaited.symm, queue⟩
    · obtain ⟨-, stays⟩ := advanced_still agreed standing b (here.trans k)
      have record := stays (planned.trans m)
      rw [handed.unit] at record
      exact ⟨congrArg Seq.state record, congrArg Seq.minStill record⟩
  · intro h stage fault power head perm interlocks pad u st s c i past named code verified remote lockout runs was away agree
    obtain ⟨x, y, event, hexec⟩ := unitStatus_event past named code verified
    have handed := event.taken.handedOver
    have imaged : (y.forwardedUp c).image u = x.image u := by rw [State.image, forwardedUp_uib, event.uib, State.image]
    refine ⟨_, hexec, fun band => ?_⟩
    rw [imaged] at band
    have adopts : AdoptsFrom s u (s.statusImage u st fault power head perm interlocks) st :=
      away.imp (fun ⟨k, off, _⟩ => ⟨k, off⟩) fun ⟨k, on, settles⟩ => ⟨k, on, Stage.settles_of_cases settles⟩
    have back : (s.statusImage u st fault power head perm interlocks).perm.remote.val = true := by
      obtain ⟨-, off, ripe⟩ | ⟨-, on, -⟩ := away
      · exact (Debounced.take_ripe (b := i.perm.remote) (by rw [remote, off]; decide) ripe).trans remote
      · exact (Debounced.take_same (b := i.perm.remote) (remote.trans on.symm)).trans on
    have kept : (s.statusImage u st fault power head perm interlocks).perm.lockout.val = i.perm.lockout.val :=
      Debounced.take_same lockout
    obtain ⟨b, rfl, trig⟩ := event.adopts (handed.band.symm.trans band) back kept runs rfl adopts
    have agreed : ResourcesAgree x := event.taken.agree (agree.withLinkUp .dn)
    have near : (x.image u).perm.remote.val = true := by rw [handed.perm]; exact back
    have stage : (x.image u).stage = some st := handed.stage
    have faulty : (x.image u).fault = fault := handed.fault
    have power : (x.image u).power = power.toInt := handed.power
    have locked : (x.image u).perm.lockout.val = i.perm.lockout.val := by rw [handed.perm]; exact kept
    have awake : (x.seq u).state = .localCmd ∨ (x.seq u).state = .unsettled := by
      rw [handed.seq]
      exact adopts.imp And.left And.left
    have reads := adoptedState_remote near stage
    rw [faulty] at reads
    intro n m stays record sets
    have adopted : adoptedState (x.image u) = n := reads
    have planned : (x.entry u).mode = m := by rw [handed.entry]
    have standing : x.orderStands = s.orderStands := handed.orderStands
    have frame : EventFrame x (closeEvent (.adoption u b x)) := (adoption_frame u b x).event.trans (closeEvent_frame _)
    have banded : ((closeEvent (.adoption u b x)).forwardedUp c).bandOf u = x.bandOf u := by
      simp only [State.bandOf, State.image, State.unit, forwardedUp_uib, forwardedUp_tbs, frame.uib, frame.tbs]
    have sets_adoption (on : n = .gOn) : sets (Ev.adoption u b x).s := fun bd given turb => by
      rw [adoption_setpoint b (adopted.trans on) (banded.symm.trans given) turb, power]
    refine ⟨fun asked stands => ?_, fun on mode stands => ?_, fun stands => ?_, fun room => ?_⟩
    · rw [forwardedUp_seq, adoption_record b agreed awake (standing.trans stands) (by rw [adopted, planned]; exact asked), adopted,
        locked]
      rfl
    · have ends := adoption_generates b agreed awake (standing.trans stands) (adopted.trans on) (planned.trans mode)
      obtain ⟨fw, fl, ag, forwarded⟩ := forwardedUp_eq c (closeEvent (.adoption u b x))
      intro bd given turb
      have set := sets_adoption on bd given turb
      rw [← ends] at set
      rw [forwarded]
      exact set
    · have kept := adoption_frame u b x
      obtain ⟨due, settle⟩ := adoption_owes u b x
      have run := closeEvent_ranFrom (adoption_held b agreed awake)
        (by rw [trig, State.orderStands, kept.dse, ← State.orderStands, standing, stands]; rfl) settle
      rw [due, adopted] at run
      have off : (x.seq u).state ≠ .gOn := by obtain k | k := awake <;> rw [k] <;> decide
      refine ⟨(Ev.adoption u b x).s, closeEvent (.adoption u b x), kept.alc.trans handed.alc, kept.dse.trans handed.dse, ?_,
        kept.tbs.trans handed.tbs, (adopt_pra u (.start x)).trans handed.pra, ?_, fun v hv => ?_, sets_adoption, run, rfl⟩
      · rw [forwardedUp_uib, frame.uib, kept.uib]
      · rw [adoption_seqs, handed.seqs, adopted, locked]
        rfl
      · refine (adopt_ramp_ne u (.start x) off hv).trans ?_
        show x.ramp v = s.ramp v
        rw [State.ramp, handed.rmp, State.ramp]
    · have moves : adoptedState (x.image u) ≠ (x.seq u).state := by
        obtain ⟨k, -⟩ | ⟨k, -, settles⟩ := adopts
        · rw [handed.seq, k]
          exact adoptedState_notLocal near
        · rw [handed.seq, k]
          exact adoptedState_settled near stage (by rw [handed.fault]; exact settles)
      have made := adoption_queue b near moves (event.taken.room room)
      rw [adopted, handed.seq, stage, faulty] at made
      obtain ⟨rs, queue⟩ := (closeEvent_frame (.adoption u b x)).queue
      rw [forwardedUp_queue, queue]
      exact List.mem_append_left _ made

end Sys2Proof.Machine
end
